-- ==== Sys2Proof/RegMap.lean ====
section
/-! DEFINITION. The register map of 17_register_map.md as plain names: one constructor of `RegName` per register
or register array, the description of a register (offset, array shape, access masks, reset) and of a field. -/

namespace Sys2Proof

/-- The registers of the register window (R665), arrays counted once. -/
inductive RegName where
  | GLB_IDCODE | GLB_ID | GLB_ACCESS_ERR | GLB_ACCESS_ERR_INFO | GLB_ACCESS_ERR_DOM | GLB_LOCK | GLB_SCALE_CLASS
  | GLB_FLAT_ID | GLB_COORD | GLB_TORUS_DIM | GLB_PORT_ROLE | GLB_TEMP | GLB_TEMP_CFG | GLB_TEMP_STATUS | TIM_NOW
  | TIM_CTL | TIM_STATUS | TIM_PARENT | TIM_LOOP | TIM_FREQ | TIM_OFFSET | TIM_DELAY | TIM_HOLD_CFG | TIM_SET
  | TIM_LATE_CNT | TIM_BAD_CNT | TIM_ASYM | TIM_PEER_OFF | CLK_STATUS | CLK_MON_STATUS | CLK_CCLK_CTL | CLK_OBS_CFG
  | CLK_RST_CTL | CLK_RESET_CAUSE | CLK_BOOT_STATUS | CLK_BOOT_DOOR | LNK_CTL | LNK_CFG | LNK_STATUS | LNK_PARTNER
  | LNK_LANE_MAP | LNK_LANE_STATUS | LNK_SPARE_STATUS | LNK_ERR_CFG | LNK_SPARE_CTL | LNK_CREDIT_CFG
  | LNK_CREDIT_STATUS | LNK_CNT | LNK_SPARE_CNT | LNK_WIDTH_CNT | LNK_LANE_SER | RTE_CFG | RTE_THROTTLE | RTE_STATUS
  | RTE_DROP_CNT | RTE_TBL_IDX | RTE_TBL_DATA | RTE_MC_IDX | RTE_MC_DATA | RTE_FENCE | RTE_TX_MORTAR | RTE_TX_PALLET
  | RTE_TX_IDLE | RTE_TX_CTL | RTE_REROUTE_CNT | RTE_STALL | RTE_QDEPTH | RTE_THROTTLE_CYC | CIR_STATUS | CIR_NOTICE
  | CIR_DEMOTE_CNT | CIR_DROP_CNT | CIR_NOTICE_CNT | CIR_PORT_DELAY | CIR_OUT_SHADOW | CIR_IN_SHADOW | CIR_OUT_ACTIVE
  | CIR_IN_ACTIVE | CIR_PALLET_LEASE | CIR_PALLET_ENDS | CIR_PALLET_PORTS | CIR_PALLET_CNT | TRW_CTX_CFG
  | TRW_CTX_STATUS | TRW_POLL_CFG | TRW_CODE | TRW_MOD0 | TRW_MOD1 | TRW_STAGE0 | TRW_STAGE1 | TRW_LVS_CFG | HOD_CFG
  | HOD_STATUS | HOD_XPORT_CFG | HOD_ROB_CFG | HOD_FLOW_RESET | HOD_RX_RELEASE | HOD_RX_STATUS | HOD_PS_CFG
  | HOD_PS_TAGBASE_LO | HOD_PS_TAGBASE_HI | HOD_CNT | HOD_BROKEN_PEER | HOD_PS_DIRBASE_LO | HOD_PS_DIRBASE_HI
  | HOD_RCB_CFG | HOD_RCB_HIT_CNT | HOD_RCB_MISS_CNT | HOD_RCB_INV_CNT | HOD_RETIRE | HOD_MBOX_ADDR
  | HOD_MBOX_RING_LO | HOD_MBOX_RING_HI | HOD_MBOX_CFG | HOD_MBOX_TAIL | HOD_MBOX_HEAD | BND_BOND_CFG | BND_BOND_MEM
  | BND_BOND_EPOCH | BND_BOND_BOX | BND_BOND_TREE | BND_BOND_STATUS | BND_SLOT_CFG | BND_SLOT_STORE | BND_SLOT_STATUS
  | BND_SLOT_STEP | BND_VC_WEIGHT | BND_STORE_STATUS | BND_CNT | BND_INEXACT_CNT | BND_SAT_CNT | BND_MEMBER
  | KLN_SLOT_CFG | KLN_SLOT_STATUS | KLN_CLUSTER_STATUS | KLN_UNIT_CNT | KLN_THROTTLE_CNT | KLN_OUTMAX_CNT | KLN_TREE
  | KLN_PROG | KLN_PARAM | TEN_VIEW_CFG | TEN_VIEW_ERR | SEC_TEN_CFG | SEC_KEY_NUM | SEC_KX_CTL | SEC_SWEEP_CMD
  | SEC_STATUS | SEC_SCRUB_CFG | SEC_TAG_FAIL_CNT | SEC_NOKEY_CNT | SEC_RETIRED_CNT | SEC_KX_DATA | SEC_REPORT
  | SEC_ALIAS | TEN_SQ_BASE_LO | TEN_SQ_BASE_HI | TEN_SQ_CFG | TEN_SQ_SEQ | TEN_SQ_DONE | TEN_SQ_STATUS | TEN_SQ_CTL
  | TEN_SQ_HEAD | TEN_WIN_BASE_LO | TEN_WIN_BASE_HI | TEN_WIN_LIMIT_LO | TEN_WIN_LIMIT_HI | TEN_CQ_BASE_LO
  | TEN_CQ_BASE_HI | TEN_CQ_CFG | TEN_CQ_STATUS | TEN_CQ_TAIL | TEN_CQ_HEAD | TEN_DB | TEN_VIEW_ENTRY | OBS_PORT_TX
  | OBS_PORT_RX | OBS_TU_RD | OBS_TU_WR | OBS_ISSUE | OBS_HOD_BYTES | OBS_BND_BLOCKS | OBS_CCLK | OBS_CTR_SEL0
  | OBS_CTR_SEL1 | OBS_CTR_SEL2 | OBS_CTR_SEL3 | OBS_CTR | OBS_CTR_FROZEN | OBS_CTR_FROZEN_TEN | OBS_CTR_UNIT
  | OBS_CENSUS_CFG | OBS_CENSUS_TAG_VAL | OBS_CENSUS_TAG_MASK | OBS_SMP_BASE_LO | OBS_SMP_BASE_HI | OBS_SMP_CFG
  | OBS_SMP_INT | OBS_SMP_TAIL | OBS_SMP_HEAD | OBS_PCS_BASE_LO | OBS_PCS_BASE_HI | OBS_PCS_CFG | OBS_PCS_SHIFT
  | OBS_PCS_TAIL | OBS_PCS_HEAD | OBS_TRC_CFG | OBS_TRC_TAG_VAL | OBS_TRC_TAG_MASK | OBS_TRC_PORT_MASK | OBS_TRC_TRIG
  | OBS_TRC_CTL | OBS_TRC_STATUS | OBS_TRC_LOST | OBS_DRN_BASE_LO | OBS_DRN_BASE_HI | OBS_DRN_CFG | OBS_DRN_TAIL
  | OBS_DRN_HEAD | OBS_WP_BASE_LO | OBS_WP_BASE_HI | OBS_WP_LIMIT_LO | OBS_WP_LIMIT_HI | OBS_WP_CFG | OBS_WP_TEN
  | OBS_WP_HIT | OBS_BP0 | OBS_BP1 | OBS_DBG_CTL | OBS_DBG_STATUS | OBS_STATUS | OBS_DBG_REG | OBS_TRC_BUF | FLT_SEV
  | FLT_PEND | FLT_FIRST | FLT_FIRST_TIME | FLT_SW_RAISE | SPW_INFO | SPW_ECC_CE_CNT | SPW_ECC_UE_CNT | SPW_ECC_LOC
  | OPT_PORT_CFG | OPT_PORT_STATUS | OPT_LM_CFG | OPT_LM_STATUS | OPT_LM_HOURS | OPT_LM_HOURS_LIM | OPT_LM_BIAS
  | OPT_LM_DRIFT | OPT_LM_ID | OPT_LM_CMD | OPT_LM_CMD_RD
deriving DecidableEq, Repr

/-- A register or register array: entry (i, j) lies at `base + s1 * i + s2 * j`, for i below c1 and j below c2.
The masks name the bits of each access type (Table - Register access types); bits in no mask are reserved. -/
structure RegDesc where
  base : Nat
  s1 : Nat
  c1 : Nat
  s2 : Nat
  c2 : Nat
  ro : Nat
  rw : Nat
  w1c : Nat
  w1s : Nat
  rwl : Nat
  wo : Nat
  rc : Nat
  reset : Nat
  aon : Bool
deriving DecidableEq, Repr

/-- A field of a register: its lowest bit and its width. -/
structure Fld where
  reg : RegName
  lo : Nat
  w : Nat
deriving DecidableEq, Repr

end Sys2Proof
end

