-- ==== Sys2Proof/Word.lean ====
section
/-! DEFINITION. The plain types of values: bytes, words, little-endian bytes (R7), signed readings, and the sparse
table type that arrays of state use. -/

namespace Sys2Proof

abbrev Byte := BitVec 8
abbrev W32 := BitVec 32
abbrev W64 := BitVec 64

/-- A sparse array: (index, value) pairs with strictly rising indices; an index that is not listed holds the default
that its reader names. -/
abbrev Tab (α : Type) := List (Nat × α)

/-- Ceiling of a quotient. -/
def ceilDiv (a b : Nat) : Nat := (a + b - 1) / b

/-- The w bits of n from bit lo up. -/
def bits (n lo w : Nat) : Nat := (n >>> lo) % 2 ^ w

/-- Bit lo of n. -/
def bit (n lo : Nat) : Bool := n.testBit lo

/-- n with its w bits from lo replaced by v. -/
def setBits (n lo w v : Nat) : Nat :=
  n - (bits n lo w) * 2 ^ lo + (v % 2 ^ w) * 2 ^ lo

def b2n (b : Bool) : Nat := if b then 1 else 0

/-- The k bytes of n, least significant first (R7). -/
def leBytes : Nat → Nat → List Byte
  | 0, _ => []
  | k + 1, n => BitVec.ofNat 8 n :: leBytes k (n / 256)

/-- The number whose little-endian bytes are given (R7). -/
def ofLe : List Byte → Nat
  | [] => 0
  | b :: r => b.toNat + 256 * ofLe r

/-- Bytes lo to lo + k - 1 of a byte list, as a number. -/
def leAt (l : List Byte) (lo k : Nat) : Nat := ofLe ((l.drop lo).take k)

/-- The signed value of the low w bits of n. -/
def sgn (w n : Nat) : Int :=
  let m := n % 2 ^ w
  if 2 ^ (w - 1) ≤ m then (m : Int) - (2 ^ w : Nat) else (m : Int)

/-- The w-bit two's-complement pattern of an integer. -/
def unsgn (w : Nat) (x : Int) : Nat := (x % ((2 ^ w : Nat) : Int)).toNat

/-- x clamped to lo .. hi. -/
def clampI (lo hi x : Int) : Int := if x < lo then lo else if hi < x then hi else x

/-- A count that stays at its greatest value. -/
def satAdd (top a b : Nat) : Nat := Nat.min top (a + b)

/-- The first n numbers that satisfy p, counting up from 0: used for sets held as bit masks. -/
def bitsSet (n mask : Nat) : List Nat := (List.range n).filter (fun i => mask.testBit i)

/-- Sets bit i of a mask. -/
def maskSet (mask i : Nat) : Nat := mask ||| (1 <<< i)

/-- Clears bit i of a mask. -/
def maskClr (mask i : Nat) : Nat := if mask.testBit i then mask - (1 <<< i) else mask

/-- A reached n, modulo 2^32 (R144). -/
def reached32 (a n : Nat) : Bool := (a + 2 ^ 32 - n % 2 ^ 32) % 2 ^ 32 < 2 ^ 31

/-- a - b modulo 2^32. -/
def sub32 (a b : Nat) : Nat := (a + 2 ^ 32 - b % 2 ^ 32) % 2 ^ 32

end Sys2Proof
end

