-- ==== Sys2Proof/Types.lean ====
section
/-! DEFINITION. The plain data of the block's parts: packets, instruction fields, commands, contexts, operations,
memory accesses, and the state of each unit. Register values are not here: they are in the register table of State. -/

namespace Sys2Proof

/-- The personality encoding of R1; the reserved value 0b11 holds the block in reset (R3). -/
inductive Persona where
  | ep | sw | mem | rsvd
deriving DecidableEq, Repr

/-- A packet (R446, R450): header fields and payload bytes. Fields that HCHK covers are all present; a packet whose
reserved header bits are set never becomes a `Packet` (R453). -/
structure Packet where
  dst : Nat
  src : Nat
  ten : Nat
  vc : Nat
  kep : Nat
  op : Nat
  hops : Nat
  flags : Nat
  seq : Nat
  target : Nat
  tag : Nat
  lgen : Nat
  hod : Nat
  hgen : Nat
  e32 : Nat
  e36 : Nat
  e40 : Nat
  pay : List Byte
deriving DecidableEq, Repr

/-- The fields of an instruction word other than MAJ and FN, with the extension word (R168, R169). -/
structure IFields where
  pg : Nat
  pn : Bool
  x : Bool
  rd : Nat
  ra : Nat
  rb : Nat
  imm : BitVec 32
  ext : W64
deriving DecidableEq, Repr

/-- A place in a program: the command's own words or the code region (R170, R189), and the word index. -/
structure Pt where
  code : Bool
  word : Nat
deriving DecidableEq, Repr

/-- What a context waits for: the dependency kinds and the ordering instructions. -/
inductive WaitKind where
  /-- WAIT.SEQ: queue q of the own tenant reaches n (R197). -/
  | seq (q n : Nat)
  /-- WAIT.FLAG: the word at the address meets the condition with c (R199). -/
  | flag (addr cond c rd : Nat) (acq : Bool)
  /-- BOND.WAIT: the slot completes step n (R253). -/
  | bond (slot n : Nat)
  /-- AT.TIME: the counter reaches t (R203). -/
  | time (t : Nat)
  /-- REL, ACQ or FENCE at a scope (R312, R313, R314). -/
  | order (rel acq : Bool) (scope : Nat)
  /-- A register read under SVC.RREG that has not returned, or Q.RING behind local writes (R208, R210). -/
  | ring (queue count : Nat)
  /-- KILN.LOAD until its program has been read (R257). -/
  | load (slot n : Nat)
  /-- SCATTER or GATHER until its list has been read and its operation has a hod (R233, R261). -/
  | list (op : Nat)
deriving DecidableEq, Repr

/-- A wait that a context holds: its kind, the tick at which its limit expires (R198), the tick of the last flag
evaluation, 0 once a fabric write has touched the brick since (R146), whether the limit has been reached and the last read decides, the flag read outstanding, and whether an extension word follows the instruction. -/
structure Wait where
  kind : WaitKind
  limit : Option Nat
  lastEval : Nat
  final : Bool
  read : Option Nat
  ext : Bool
deriving DecidableEq, Repr

/-- A status that an instruction or operation of a command raised, with its detail (R151, Table - Status detail). -/
structure Stat where
  code : Nat
  detail : Nat
deriving DecidableEq, Repr

/-- The life of a fetched command after its execution. -/
inductive CmdPhase where
  | run        -- not complete
  | due        -- complete; its record is due or held (R161)
  | writing    -- its record is being written (R724)
deriving DecidableEq, Repr

/-- A fetched command (R133, R134). -/
structure Cmd where
  id : Nat
  q : Nat
  seq : Nat
  ten : Nat
  words : List W64
  started : Bool
  ended : Bool
  stats : List Stat
  bytes : Nat
  ops : Nat
  nextWord : Nat
  phase : CmdPhase
  ring : Nat
  time : Nat
  unsure : Bool
  aborted : Bool
deriving DecidableEq, Repr

/-- A command fetch under way (R127, R133): the queue, the entries still to read and the words read. -/
structure Fetch where
  q : Nat
  got : List W64
  left : Nat
  bad : Option Nat
deriving DecidableEq, Repr

/-- A context of a trowel core (R109, R174, R175). Register g0 and predicate p0 are never written. -/
structure Ctx where
  ten : Option Nat
  g : Tab W64
  p : Nat
  d : Tab (BitVec 512)
  pendG : Nat
  pendD : Nat
  pc : Pt
  stack : List Pt
  region : Option (Nat × Nat)
  cmds : List Cmd
  cur : Option Nat
  fetch : Option Fetch
  wait : Option Wait
  stall : Option Nat
  next : Nat
  line : Option Nat
  halt : Option (Nat × Nat)
  haltReq : Option (Nat × Nat)
  stepOne : Bool
  scrub : Bool
  usable : Nat
  acq : List Nat
deriving DecidableEq, Repr

/-- The fields of an operation's modifier word (R223). -/
structure Mods where
  ord : Nat
  scope : Nat
  lat : Bool
  pal : Bool
deriving DecidableEq, Repr

/-- The kinds of operation (R217, R249); `copyData`, `pageFwd` and `formed` are packets that the target engine sends on
flows of its own (R232, R296, R522). -/
inductive OpKind where
  | put | get | copy | scatter | gather | atom (op : Nat) (w : Bool) | measure | publish | bond | copyData | pageFwd | formed
deriving DecidableEq, Repr

/-- One contiguous piece of a transfer: device, remote address, local address, length, page generation. -/
structure Piece where
  dst : Nat
  raddr : Nat
  laddr : Nat
  len : Nat
  pgen : Nat
deriving DecidableEq, Repr

/-- A release that an operation waits for before its first packet (R315): scope, and the number of the first access made
after its issue. -/
structure RelWait where
  scope : Nat
  txn : Nat
deriving DecidableEq, Repr

/-- An operation in progress (R217 to R247, R276): the command and word that issued it, its descriptor, the hod that runs it
(255 while none is chosen, 64 for the target engine), its destinations, the pieces still to be sent and the offset within
the first, destinations still to be signalled, the source or list read under way, packets acknowledged whose writes are not
known coherent (flow, sequence number, leaf), the release and the acquiring reads it waits for, its count of bytes, and
whether it sends nothing more. `org` is the request that a target-engine operation answers: requester, sequence number,
flow; `fixed` the payload of a formed packet. -/
structure Op where
  id : Nat
  ctx : Nat
  cmd : Nat
  word : Nat
  kind : OpKind
  desc : BitVec 512
  mods : Mods
  ten : Nat
  tag : Nat
  vc : Nat
  hod : Nat
  hgen : Nat
  dests : List Nat
  pieces : List Piece
  off : Nat
  sigs : List Nat
  reading : Option Nat
  listed : Bool
  coh : List (Nat × Nat × Nat)
  local? : Bool
  rel : Option RelWait
  acqs : List Nat
  txn0 : Nat
  bytes : Nat
  undeliv : Nat
  stopped : Bool
  stats : List Stat
  rd : Nat
  rcb : Nat
  pal : Option Nat
  org : Option (Nat × Nat × Nat)
  fixed : Option Packet
deriving DecidableEq, Repr

/-- The kinds of memory access. -/
inductive MemOp where
  | rd | wr | atom (op : Nat) (w : Bool) (a c : Nat)
deriving DecidableEq, Repr

/-- How far one brick part of an access has come: waiting; its first T1 beat transferred; accepted on a channel under a
tag; finished; refused (R47, R689). -/
inductive PartSt where
  | waiting | beat | sent (ch tag : Nat) | done | refused
deriving DecidableEq, Repr

/-- The part of an access that lies in one brick (R318): address, length, and its write data or the data read. -/
structure Part where
  addr : Nat
  len : Nat
  data : List Byte
  st : PartSt
deriving DecidableEq, Repr

/-- Why an access is made: what happens when it completes. -/
inductive Why where
  /-- Entry e of a command being fetched by context c (R127). -/
  | fetch (c e : Nat)
  /-- Completion record of command k of context c on ring j (R724). -/
  | record (c k j : Nat)
  /-- DLD of context c for its command k into d[rd], at a word index (R187). -/
  | dld (c k rd w : Nat)
  /-- DST of context c for its command k, at a word index (R188). -/
  | dst (c k w : Nat)
  /-- A flag read of context c (R199). -/
  | flag (c : Nat)
  /-- Source read of the next packet of operation o, of this length (R263). -/
  | src (o len : Nat)
  /-- Source re-read of a replay entry of hod h (R271). -/
  | replay (h flow seq : Nat)
  /-- Local write of returned or local data of operation o (R310). -/
  | local (o : Nat)
  /-- Local read of operation o whose data is written locally at a target address (local copy or get). -/
  | move (o addr : Nat)
  /-- Local atomic, or measured read, of operation o. -/
  | latom (o : Nat)
  /-- Scatter or gather list of operation o (R233). -/
  | list (o : Nat)
  /-- Kiln program load by context c into a slot (R257). -/
  | kilnLoad (c slot n : Nat)
  /-- A write of an arrived packet, by flow key and sequence number (R267). -/
  | pktWr (flow seq : Nat)
  /-- A read or atomic of a request that arrived under a flow key: the response is built from the packet. `pg` is 0, or 1 plus the
  epoch under which the page that it reads is stored. -/
  | pktRd (flow seq pg : Nat) (p : Packet)
  /-- The tag read of a page-store request (R295). -/
  | tag (flow : Nat) (p : Packet)
  /-- The bricks that a partial page-store write merges with, under an epoch (R568). -/
  | merge (flow : Nat) (p : Packet) (epoch : Nat)
  /-- Tag read, page read and page write of a sweep (R568). -/
  | sweepTag
  | sweepRd
  | sweepWr
  /-- A message byte range, by flow key, sequence number and message (R292). -/
  | msgWr (flow seq msg : Nat)
  /-- An arrival record of a message in mailbox b (R292). -/
  | arrRec (msg b : Nat)
  /-- Values of a sample, then its header, of channel c (R640). -/
  | sampleVal (c : Nat)
  | sampleHdr (c : Nat)
  /-- A program-counter sample (R644). -/
  | pcs
  /-- A drained trace record of unit u (R652). -/
  | drain (u : Nat)
  /-- Bond engine reads and result writes of slot s (R353): a key that names the block range. -/
  | bondRd (s key len : Nat)
  | bondWr (s step : Nat)
  | bondTab (s : Nat)
  /-- The side input of the lane (8 cl + ln) that waits for it (R428). -/
  | lds (lane : Nat)
  /-- A host inbound access under a tag (R695). -/
  | inbound (tag : Nat)
  /-- What asked for the access has ended: its completion has no effect. -/
  | none
deriving DecidableEq, Repr

/-- A memory access that the block makes to its own device's memory: space 0 HOST, 1 SPW. `req` is the requester index
of R337; `after` names accesses that must be accepted first (R305, R306); `afterCoh` those that must be coherent
first (R246), `afterOps` the operations whose reads must have returned (R316); `ctx` the context whose local access it is. -/
structure Txn where
  id : Nat
  space : Nat
  op : MemOp
  req : Nat
  parts : List Part
  why : Why
  after : List Nat
  afterCoh : List Nat
  afterOps : List Nat
  ctx : Option Nat
  ten : Nat
deriving DecidableEq, Repr

/-- A replay-list entry (R270): flow and sequence number, operation, local address and length of the data, transmissions so
far, first and last transmission, leaves that have acknowledged and leaves reported fenced (R286), whether a response is
expected, whether an acknowledgement covers it, whether its payload is read again for a replay, and the packet (without
that payload). -/
structure Replay where
  flow : Nat
  seq : Nat
  op : Nat
  laddr : Nat
  len : Nat
  tries : Nat
  first : Option Nat
  last : Option Nat
  leaves : Nat
  fenced : Nat
  rsp : Bool
  acked : Bool
  reread : Bool
  busy : Bool
  pkt : Packet
deriving DecidableEq, Repr

/-- Source side of a transport flow (R266, R277). -/
structure TxFlow where
  next : Nat
  broken : Bool
deriving DecidableEq, Repr

/-- Destination side of a transport flow (R267, R269, R308): expected number, last acknowledged number plus one and its watermark plus
one as sent, the tick at which the oldest unacknowledged packet was accepted, the tick at which the watermark first passed the
sent one, early packets with their arrival port, the packet being performed, and the tick since which a number is missing. -/
structure RxFlow where
  expected : Nat
  acked : Nat
  oldest : Option Nat
  wm : Nat
  wmAt : Option Nat
  held : List (Packet × Nat)
  cur : Option (Packet × Nat)
  gapAt : Option Nat
deriving DecidableEq, Repr

/-- A message in progress in a mailbox (R289, R290, R293). -/
structure Msg where
  id : Nat
  flow : Nat
  box : Nat
  ten : Nat
  src : Nat
  tag : Nat
  len : Nat
  got : Nat
  pool0 : Nat
  pool : Nat
  addr : Nat
  handle : Nat
  shares : List Nat
  recs : List (Nat × Nat)
  open? : Bool
  lastAt : Nat
  first : Option Packet
deriving DecidableEq, Repr

/-- A receive handle (R294). -/
structure Handle where
  ten : Nat
  pool : Nat
  addr : Nat
  refs : Nat
deriving DecidableEq, Repr

/-- A buffer request on the bpm_ port (R700): waiting for its handshake, or answered later under its id. -/
structure BpmReq where
  id : Nat
  msg : Nat
  pool : Nat
  ten : Nat
  at? : Option Nat
  late : Bool
deriving DecidableEq, Repr

/-- An entry of a tenant's read-combining buffer (R329), a fill in flight included. -/
structure Rcb where
  ten : Nat
  flat : Nat
  addr : Nat
  filled : Nat
  data : List Byte
  busy : Bool
  keep : Bool
  waiters : List Nat
deriving DecidableEq, Repr

/-- A pending at-time request (R99 to R107). -/
structure AtAction where
  id : Nat
  t : Nat
  kind : Nat
  desc : BitVec 512
  ten : Nat
deriving DecidableEq, Repr

/-- The body of a time tile (R75): stamps in 1/256 tick. -/
structure TimeBody where
  kind : Nat
  state : Nat
  depth : Nat
  seq : Nat
  master : Nat
  epoch : Nat
  t1 : Nat
  t2 : Nat
  t3 : Nat
  est : Nat
  sender : Nat
  port : Nat
deriving DecidableEq, Repr

/-- A packet that waits to leave (R493 to R504): its number in order of arrival, requester index (R502), input port, the
VC of the input buffer it occupies, the tick at which its wait began, the output port that a multicast copy is bound to,
the number its copies share (R511), and the local operation whose packet it is. -/
structure OutPkt where
  num : Nat
  pkt : Packet
  src : Nat
  inPort : Option Nat
  bufVc : Option Nat
  since : Nat
  only : Option Nat
  grp : Nat
  op : Option Nat
deriving DecidableEq, Repr

/-- A packet being sent on a transmit context of a port (R447): how many of its tiles have left, and the mark that its last
tile carries BAD (R449). -/
structure TxPkt where
  o : OutPkt
  sent : Nat
  bad : Bool
deriving DecidableEq, Repr

/-- A packet being reassembled on a context (R448): the tick of its first tile, tiles received, their bodies, and the damage mark. -/
structure RxPkt where
  at0 : Nat
  tiles : Nat
  body : List Byte
  damaged : Bool
deriving DecidableEq, Repr

/-- A width change in progress (R474 to R479): the request or acknowledgement body sent, the switch point (fabric time of a
slot start, or an LSEQ), whether it is this end's own request, and whether it is agreed. -/
structure WidthChg where
  code : Nat
  mine : Nat
  theirs : Nat
  at? : Nat
  lseq : Nat
  own : Bool
  agreed : Bool
deriving DecidableEq, Repr

/-- A spare change that this receiver asked for (R472): logical lane, physical spare, and the tick of the acknowledgement. -/
structure SpareChg where
  lane : Nat
  spare : Nat
  ackAt : Option Nat
deriving DecidableEq, Repr

/-- A resync of the transmit direction (R465): the request is sent, when, and how many times. -/
structure Resync where
  sent : Bool
  at? : Nat
  tries : Nat
deriving DecidableEq, Repr

/-- A port (10): what the LNK_ registers do not hold. Credit counts are (header, data) pairs by VC. `since` is the RCOSC cycle
of the last change of link state and `capsAt` that of the last CAPS; `corr`, `uncorr` and `crc` count in the current course;
`tileNo` counts tiles sent, and `again` holds the LCTL bodies to be sent again, each with the tile number at which it is
due (R458). `lockC` gives the course in which a lane last gained lock or converged, `adapt` the lanes being adapted
(R622) with the course in which each began. -/
structure Port where
  lseq : Nat
  ctx : Tab TxPkt
  ctl : List (List Byte)
  again : List (List Byte × Nat)
  tileNo : Nat
  slot : Nat
  slotSent : Nat
  palSent : Nat
  vcSent : Tab Nat
  advA : Tab (Nat × Nat)
  credS : Tab (Nat × Nat)
  credR : Tab (Nat × Nat)
  advSent : Bool
  advGot : Option (List Byte)
  hist : List (Nat × Nat × Nat × Nat)
  settled : Nat
  seen : List Nat
  lastCred : Nat
  resync : Option Resync
  yResync : Bool
  expect : Option Nat
  rx : Tab RxPkt
  ret : Tab (Nat × Nat)
  drops : Nat
  recent : List Nat
  dropDue : List Nat
  good : Nat
  corr : Tab Nat
  uncorr : Nat
  crc : Nat
  since : Nat
  capsAt : Nat
  det : Nat
  partner : Option (List Byte)
  retrain : Option Nat
  retrainAt : Option Nat
  verifyFail : Nat
  width : Option WidthChg
  withdrawn : Nat
  noPal : Option Nat
  spare : Option SpareChg
  spareX : Option (Nat × Nat)
  lockC : Tab Nat
  adapt : Tab Nat
  throttled : Bool
  lastLocal : Option Nat
  sentTile : List Byte
deriving DecidableEq, Repr

/-- A pallet packet in an output port's staging (R517): port, slot, course of the slot, input port. -/
structure StagePkt where
  port : Nat
  slot : Nat
  course : Nat
  inPort : Nat
  pkt : Packet
deriving DecidableEq, Repr

/-- Routing and circuits (11): the two route banks by flat ID (four sets), multicast entries by group index (eleven words),
held route words, packets waiting, staged pallet packets, packets in input buffers by port, notices to act on, the course in which a pallet's notice was last sent, and notices to send (R522). -/
structure Net where
  ports : Tab Port
  rt0 : Tab (List W32)
  rt1 : Tab (List W32)
  rtHold : List W32
  mc : Tab (List W32)
  out : List OutPkt
  nextOut : Nat
  staged : List StagePkt
  rxq : List (Nat × Packet)
  notices : List (Nat × Nat)
  noticed : Tab Nat
  toSend : List (Nat × Nat)
deriving DecidableEq, Repr

/-- The exchange state of one port (R71 to R79, R96 to R98). Times are in 1/256 tick. (DESIGN CHOICE, log 63) -/
structure PortTime where
  seq : Nat
  reqT1 : Option Nat
  reqAt : Nat
  sentCourse : Option Nat
  owed : List (Nat × Nat × Nat)
  peerState : Nat
  peerDepth : Nat
  peerMaster : Nat
  peerEpoch : Nat
  since : Nat
  fresh : Bool
  clean : Nat
  offX : Int
deriving DecidableEq, Repr

/-- Fabric time (02): counter and fraction (R62), integral term (R85), and what an evaluation compares with: the last
course processed, MODE at the last evaluation, a REFCLK loss since then, 255 forced on the estimate, a step taken since
entering ACQUIRE, exchanges within the window, an offset beyond four windows, the latest offset of the active parent,
and the entry to HOLDOVER (R69, R85, R89). Offsets are in 1/256 tick. -/
structure Tim where
  ticks : Nat
  frac : Nat
  fInt : Int
  course : Nat
  modeSeen : Nat
  refLost : Bool
  estForced : Bool
  stepped : Bool
  inWin : Nat
  far : Bool
  latestX : Int
  holdX : Nat
  holdAt : Nat
  masterId : Nat
  ports : Tab PortTime
deriving DecidableEq, Repr

/-- Clocks and reset (14). Phases are the remainders of the cycle generators of a 1 ns tick. `toCpll` is a switch of CCLK to
CPLL that is due, `cpllEver` that CCLK has run on CPLL since the last reset, the forced marks that a monitor saw the old
clock stopped, `rcStop` that the RC monitor has tripped, and `palDrops` pallet packets dropped while CORE is stopped (R582). -/
structure Clk where
  aon : Bool
  rcosc : Nat
  rcPhase : Nat
  rcOk : Bool
  rosc : Nat
  roscPhase : Nat
  roscAt : Nat
  roscOk : Bool
  cclk : Nat
  ccPhase : Nat
  srcCycles : Nat
  refWins : Nat
  gate : Bool
  heldOff : Nat
  needRosc : Bool
  ftNeed : Bool
  por : Bool
  core : Bool
  quiesce : Option Nat
  gapCore : Bool
  lpllHold : Nat
  toCpll : Bool
  cpllEver : Bool
  ccForced : Bool
  ftForced : Bool
  rcStop : Bool
  ftStart : Bool
  palDrops : Nat
deriving DecidableEq, Repr

/-- A trace record and its drain phase (R646, R648). -/
structure TrcRec where
  time : Nat
  kind : Nat
  flags : Nat
  ten : Nat
  tag : Nat
  detail : List Byte
deriving DecidableEq, Repr

/-- A trace unit (R646 to R653): recorded entries by buffer index, oldest first. -/
structure Trc where
  recs : List (Nat × TrcRec)
  head : Nat
  trig : Bool
  mark : Bool
  left : Nat
  lost : Nat
  cycle : Option Nat
  half : Nat
  frozenA : List (Nat × TrcRec)
  frozenB : List (Nat × TrcRec)
  draining : Option Nat
  drainAt : Nat
deriving DecidableEq, Repr

/-- A sample being written (R640): header fields kept until the values are coherent. -/
structure Sample where
  seq : Nat
  missed : Nat
  busy : Option (List Byte)
deriving DecidableEq, Repr

/-- The fault port's presentation (R662): the source presented, the one to be presented next and the RCOSC cycle at
which the low interval was decided, and the driven outputs. -/
structure FltPort where
  shown : Option (Nat × Nat)
  firstAt : Nat
  lowAt : Option Nat
  valid : Bool
  src : Nat
  sev : Nat
deriving DecidableEq, Repr

/-- A staged module: load range in 4 KiB units, its identifier, image bytes' digest (R614). -/
structure Staged where
  base : Nat
  size : Nat
  modId : Nat
  digest : List Byte
deriving DecidableEq, Repr

/-- Firmware modules (R608 to R619): staging slots, old ranges with the course at which they expire, FW_BOOT, FW_NOW and SWAPS, where the ENTRY module was loaded and
its words, and the identity record. -/
structure Boot where
  stage : Tab Staged
  old : List (Nat × Nat × Nat)
  fwBoot : List Byte
  fwNow : List Byte
  swaps : Nat
  entry : Nat × Nat
  idrec : List Byte
deriving DecidableEq, Repr

/-- A laser-module management port (12): the presence input, the course in which presence began, two-wire transactions
failed in a row, the tick of the last hour count, HOURS at the entry to READY, and the course of the last poll. -/
structure Lm where
  present : Bool
  presAt : Nat
  fails : Nat
  hoursAt : Nat
  hours0 : Nat
  pollAt : Nat
deriving DecidableEq, Repr

/-- Optics (12): the loss-of-light inputs of each port and the tick of each lane's last change (key 32 p + l), the tick
since which every lane of a port is dark, and the modules. -/
structure Opt where
  los : Tab Nat
  losAt : Tab Nat
  allDark : Tab Nat
  lm : Tab Lm
deriving DecidableEq, Repr

/-- A leased unit (13): tenant and enable in force, the course from which it can be used, and whether it is in scrub. -/
structure Lease where
  ten : Nat
  en : Bool
  usable : Nat
  scrub : Bool
deriving DecidableEq, Repr

/-- A sweep command under way (R568): page, new epoch, the tag read, and whether the page has been rewritten. -/
structure Sweep where
  page : Nat
  into : Nat
  tag : Nat
  done : Bool
deriving DecidableEq, Repr

/-- Tenancy and keys (13): leased units by kind * 65536 + index, units named by a register write since the last boundary,
tenants whose keys are zeroised when the scrubs end, CS, keys (KWK by tenant, EK and send counters by 2 t + e), the nonce
of a REPORT since the last EXCHANGE, the key operation (OP, TENANT, EPOCH, input) and the sweep under way, and RETIRE entries deferred (R566). -/
structure Sec where
  units : Tab Lease
  due : List Nat
  zeroDue : List Nat
  cs : Option (List Byte)
  kwk : Tab (List Byte)
  ek : Tab (List Byte)
  send : Tab Nat
  nonce : Tab (List Byte)
  kx : Option (Nat × Nat × Nat × List Byte)
  sweep : Option Sweep
  retires : List (Nat × Nat)
deriving DecidableEq, Repr

/-- The test access port (18): instruction register, boundary register, what drives the pins (0 the block, 1 EXTEST, 2
CLAMP, 3 HIGHZ), the wrapper registers, and whether a wrapper register has been loaded since power-on reset (R715). -/
structure Tap where
  ir : Nat
  bsr : List Byte
  drive : Nat
  wir : Nat
  wdr : List Byte
  opened : Bool
  /-- What the identification register shows, captured as IDCODE is selected. -/
  idr : Nat
deriving DecidableEq, Repr

/-- The I3C target (18): dynamic address, register offset of the next access, and the bytes of its last answer. -/
structure I3c where
  addr : Option Nat
  off : Nat
  boot : Bool
  last : List Byte
deriving DecidableEq, Repr

/-- An element block (R399): elements, exponent, and the inexact mark of the range it belongs to (R408). -/
structure Blk where
  v : List Int
  e : Int
  mark : Bool
deriving DecidableEq, Repr

/-- A top-k candidate (R371). -/
structure Cand where
  idx : Nat
  e : Int
  v : Int
deriving DecidableEq, Repr

/-- A unit of kiln input (R419, R420): number, elements before it, input bytes, exponent bytes, the packet's number. -/
structure KUnit where
  u : Nat
  n0 : Nat
  data : List Byte
  exps : List Byte
  seq : Nat
deriving DecidableEq, Repr

/-- An operation bound to the kiln (R418 to R433). `mode` is 0 where packets arrive here for a transfer, 1 for the returned
data of an operation, 2 for a member's contribution, 3 for result ranges at a root; `key` is then the flow and hod, the
operation, or the bond slot. The program and parameters are those in force when it began. `cluster` is none while every
cluster is full. `buf` is input not yet cut into units, `outs` output that waits for its turn, `carry` v12 to v15 by
lane, `drain` the lanes drained, `overrun` that OUTMAX was reached, and `early` returned data ahead of its turn with its port. -/
structure KJob where
  id : Nat
  mode : Nat
  key : Nat
  cluster : Option Nat
  pos : Nat
  slot : Nat
  ten : Nat
  tag : Nat
  width : Nat
  esz : Nat
  prog : List W64
  param : BitVec 512
  queue : List KUnit
  nextU : Nat
  elems : Nat
  buf : List Byte
  bufSeq : Nat
  last : Bool
  outs : List KUnit
  nextOut : Nat
  out : Nat
  wrote : Nat
  outmax : Nat
  overrun : Bool
  carry : Tab (Tab (BitVec 2048))
  drain : Nat
  stat : Option Stat
  told : Bool
  early : List (Nat × Packet × Nat)
  fed : Nat
deriving DecidableEq, Repr

/-- A kiln lane (R422): vector and mask registers, the operation whose unit it runs (0 for none) and the unit, the program
counter, whether it runs the drain, the output so far, the side-input read it waits for with the word that reads, and the CCLK cycle from which it is free. -/
structure Lane where
  v : Tab (BitVec 2048)
  k : Tab Nat
  job : Nat
  unit : KUnit
  pc : Nat
  drain : Bool
  out : List Byte
  wait : Option Nat
  word : W64
  free : Nat
deriving DecidableEq, Repr

/-- The kiln (09): programs and parameter blocks by slot, lanes by 8 * cluster + lane, bound operations. -/
structure Kiln where
  prog : Tab (List W64)
  param : Tab (BitVec 512)
  lanes : Tab Lane
  jobs : List KJob
  nextJob : Nat
deriving DecidableEq, Repr

/-- One transfer of a step of a collective in one direction (R355): the peer's flat ID and member index, the block range, the
mode (0 partial of a ring, 1 result, 2 candidate records, 3 contribution up the tree, 4 segment), the version that a block must have, windows
granted, the next window or block, blocks received, and whether the last packet of the chunk has come. -/
structure BXfer where
  step : Nat
  out : Bool
  peer : Nat
  pidx : Nat
  lo : Nat
  hi : Nat
  base : Nat
  mode : Nat
  need : Nat
  wins : List (Nat × Nat)
  nxt : Nat
  got : Nat
  ended : Bool
deriving DecidableEq, Repr

/-- A step data packet sent and not acknowledged (R358). -/
structure BSent where
  xi : Nat
  off : Nat
  pkt : Packet
  last : Option Nat
deriving DecidableEq, Repr

/-- Step data received that waits for its turn (R406). -/
structure BPend where
  xi : Nat
  off : Nat
  blks : List Blk
  check : Nat
deriving DecidableEq, Repr

/-- A coordinator's collection (R389): its first tick, the reporters, the indices named and those reported fenced. -/
structure Collect where
  at0 : Nat
  from? : List Nat
  named : List Nat
  fenced : List Nat
deriving DecidableEq, Repr

/-- A collective running on a slot (08). A switch's has no operation (`op` 0). `acc` holds partials, `ver` how often a block was
combined, `res` result blocks by position in DST, `okb` blocks whose CHECK passed, `toRead` block ranges of SRC still to
be read, `raw` values (2 b) and exponents (2 b + 1) that wait for each other, `order` the reads in the order of issue, `ustart` the first
block of each kiln unit, `copied` that the own segment or the candidate list has been written, `seen` the packets received (transfer, offset,
blocks), `later` result blocks to be written once
allowed (R379), `chks` checks owed. -/
structure Coll where
  slot : Nat
  bond : Nat
  sw : Bool
  op : Nat
  ten : Nat
  tag : Nat
  word : Nat
  desc : BitVec 512
  limit : Nat
  epoch : Nat
  members : List (Nat × Nat)
  self : Nat
  alg : Nat
  a64 : Bool
  done : Nat
  total : Nat
  redSteps : Nat
  final : Nat × Nat
  xs : List BXfer
  acc : Tab Blk
  ver : Tab Nat
  res : Tab Blk
  okb : List Nat
  seen : List (Nat × Nat × Nat)
  sent : List BSent
  pend : List BPend
  toRead : List (Nat × Nat)
  raw : Tab (List Byte)
  fed : Nat
  table : List Byte
  recs : List Cand
  lists : Tab (List Cand)
  later : List (Nat × List Blk)
  chks : List (Nat × Nat × Nat)
  jobId : Nat
  copied : Bool
  order : List Nat
  ustart : Tab Nat
  timer : Option Nat
  lateAt : Option Nat
  lateTo : Nat
  answered : Bool
  excluded : Nat
  fromResult : Bool
  stats : List Stat
deriving DecidableEq, Repr

/-- The bond engine (08): running collectives, control messages that came before their collective, by bond, and how many
collectives a switch has begun on each bond; `coords` are collections under way at this device as coordinator, by bond. -/
structure Bnd where
  colls : List Coll
  coords : Tab Collect
  early : List (Nat × Packet)
  count : Tab Nat
deriving DecidableEq, Repr

end Sys2Proof
end

