-- ==== Sys2Proof/Syntax.lean ====
section
/-! DEFINITION. The commands of the block: one constructor per row of spec/opcode_table.json, with its operands, and
the small operand types. Where a row is a register write, its operands are the access (path and requester domain, R667,
R671), the index and the value; where a row is the issue of a Floug instruction, the context and the fields of the
instruction word (R168). -/

namespace Sys2Proof

/-- An access to the register window: the path by its requester index (0 register channel, 1 service contexts, 2
REG-space packets, 3 I3C target; R667) and the requester domain (R671). -/
structure Acc where
  path : Nat
  dom : Nat
deriving DecidableEq, Repr

/-- The tie-off inputs, sampled at the release of power-on reset (R2, R685). -/
structure TieOffs where
  persona : BitVec 2
  tuGen : Bool
  tuIlv : BitVec 3
  i3cMfr : BitVec 15
  i3cInst : BitVec 4
  jtagMfr : BitVec 11
deriving DecidableEq, Repr

/-- The fields of a kiln instruction word (R427). -/
structure KFields where
  w : Nat
  m : Nat
  vd : Nat
  va : Nat
  vb : Nat
  aux : Nat
  imm : Nat
deriving DecidableEq, Repr

/-- A tile as the decoder of a port delivers it: its 256 bytes, whether a codeword of it was uncorrectable, and the
symbols corrected on each lane (R439). -/
structure RxTile where
  bytes : List Byte
  uncorr : Nat
  corr : Tab Nat
deriving DecidableEq, Repr

/-- The commands, in the order of spec/opcode_table.json. -/
inductive Instr where
  /-- POR_RELEASE (R602). -/
  | porRelease (t : TieOffs)
  /-- POR_ASSERT (R597). -/
  | porAssert
  /-- CORE_RESET_ASSERT (R599). -/
  | coreResetAssert
  /-- CORE_RESET_RELEASE (R597). -/
  | coreResetRelease
  /-- SOFT_CORE_RESET (R597). -/
  | softCoreReset (a : Acc) (v : W32)
  /-- JTAG_TRST (R597). -/
  | jtagTrst
  /-- REGISTER_WRITE (R18). -/
  | registerWrite (a : Acc) (off : Nat) (v : W32)
  /-- RC_REGISTER_READ (R9). -/
  | rcRegisterRead (a : Acc) (off : Nat)
  /-- GLB_LOCK_TOPO (R41). -/
  | glbLockTopo (a : Acc) (v : W32)
  /-- GLB_LOCK_TEST (R677). -/
  | glbLockTest (a : Acc) (v : W32)
  /-- GLB_LOCK_I3C (R678). -/
  | glbLockI3c (a : Acc) (v : W32)
  /-- PORT_ROLE_WRITE (R31). -/
  | portRoleWrite (a : Acc) (i : Nat) (v : W32)
  /-- TEN_VIEW_CFG_WRITE (R49). -/
  | tenViewCfgWrite (a : Acc) (i : Nat) (v : W32)
  /-- VIEW_ENTRY_WRITE (R52). -/
  | viewEntryWrite (a : Acc) (i : Nat) (v : W32)
  /-- COURSE_BOUNDARY (R106). -/
  | courseBoundary
  /-- SCRUB_DONE (R552). -/
  | scrubDone (kind i : Nat)
  /-- READOUT_EXPIRE (R554). -/
  | readoutExpire (k : Nat)
  /-- TIM_LOAD (R84). -/
  | timLoad (a : Acc) (v : W32)
  /-- TIM_FREQ_WRITE (R87). -/
  | timFreqWrite (a : Acc) (v : W32)
  /-- AT_TIME_FIRE (R99). -/
  | atTimeFire
  /-- TIME_REQUEST_SEND (R71). -/
  | timeRequestSend (p : Nat)
  /-- TIME_REQUEST_RECEIVE (R72). -/
  | timeRequestReceive (p : Nat) (t : TimeBody)
  /-- TIME_RESPONSE_SEND (R72). -/
  | timeResponseSend (p : Nat)
  /-- TIME_RESPONSE_RECEIVE (R77). -/
  | timeResponseReceive (p : Nat) (t : TimeBody)
  /-- CORE_ISSUE (R114). -/
  | coreIssue (n : Nat)
  /-- END (R136). -/
  | endCmd (c : Nat) (f : IFields)
  /-- NOP (R171). -/
  | nop (c : Nat) (f : IFields)
  /-- BR (R189). -/
  | br (c : Nat) (f : IFields)
  /-- LOOP (R189). -/
  | loop (c : Nat) (f : IFields)
  /-- CALL (R191). -/
  | callImm (c : Nat) (f : IFields)
  /-- CALLR (R191). -/
  | callr (c : Nat) (f : IFields)
  /-- RET (R192). -/
  | ret (c : Nat) (f : IFields)
  /-- ADD (R182). -/
  | add (c : Nat) (f : IFields)
  /-- SUB (R182). -/
  | sub (c : Nat) (f : IFields)
  /-- AND (R182). -/
  | andReg (c : Nat) (f : IFields)
  /-- OR (R182). -/
  | orReg (c : Nat) (f : IFields)
  /-- XOR (R182). -/
  | xorReg (c : Nat) (f : IFields)
  /-- SHL (R182). -/
  | shl (c : Nat) (f : IFields)
  /-- SHR (R182). -/
  | shr (c : Nat) (f : IFields)
  /-- SAR (R182). -/
  | sar (c : Nat) (f : IFields)
  /-- MUL (R182). -/
  | mul (c : Nat) (f : IFields)
  /-- MULHU (R182). -/
  | mulhu (c : Nat) (f : IFields)
  /-- MIN (R182). -/
  | minReg (c : Nat) (f : IFields)
  /-- MAX (R182). -/
  | maxReg (c : Nat) (f : IFields)
  /-- MINU (R182). -/
  | minu (c : Nat) (f : IFields)
  /-- MAXU (R182). -/
  | maxu (c : Nat) (f : IFields)
  /-- CLZ (R182). -/
  | clz (c : Nat) (f : IFields)
  /-- POPC (R182). -/
  | popc (c : Nat) (f : IFields)
  /-- ADDI (R183). -/
  | addi (c : Nat) (f : IFields)
  /-- SUBI (R183). -/
  | subi (c : Nat) (f : IFields)
  /-- ANDI (R183). -/
  | andi (c : Nat) (f : IFields)
  /-- ORI (R183). -/
  | ori (c : Nat) (f : IFields)
  /-- XORI (R183). -/
  | xori (c : Nat) (f : IFields)
  /-- SHLI (R183). -/
  | shli (c : Nat) (f : IFields)
  /-- SHRI (R183). -/
  | shri (c : Nat) (f : IFields)
  /-- SARI (R183). -/
  | sari (c : Nat) (f : IFields)
  /-- MULI (R183). -/
  | muli (c : Nat) (f : IFields)
  /-- MULHUI (R183). -/
  | mulhui (c : Nat) (f : IFields)
  /-- MINI (R183). -/
  | mini (c : Nat) (f : IFields)
  /-- MAXI (R183). -/
  | maxi (c : Nat) (f : IFields)
  /-- MINUI (R183). -/
  | minui (c : Nat) (f : IFields)
  /-- MAXUI (R183). -/
  | maxui (c : Nat) (f : IFields)
  /-- CMP_EQ (R184). -/
  | cmpEq (c : Nat) (f : IFields)
  /-- CMP_NE (R184). -/
  | cmpNe (c : Nat) (f : IFields)
  /-- CMP_LT (R184). -/
  | cmpLt (c : Nat) (f : IFields)
  /-- CMP_LE (R184). -/
  | cmpLe (c : Nat) (f : IFields)
  /-- CMP_LTU (R184). -/
  | cmpLtu (c : Nat) (f : IFields)
  /-- CMP_LEU (R184). -/
  | cmpLeu (c : Nat) (f : IFields)
  /-- CMPI_EQ (R184). -/
  | cmpiEq (c : Nat) (f : IFields)
  /-- CMPI_NE (R184). -/
  | cmpiNe (c : Nat) (f : IFields)
  /-- CMPI_LT (R184). -/
  | cmpiLt (c : Nat) (f : IFields)
  /-- CMPI_LE (R184). -/
  | cmpiLe (c : Nat) (f : IFields)
  /-- CMPI_LTU (R184). -/
  | cmpiLtu (c : Nat) (f : IFields)
  /-- CMPI_LEU (R184). -/
  | cmpiLeu (c : Nat) (f : IFields)
  /-- PAND (R186). -/
  | pand (c : Nat) (f : IFields)
  /-- POR (R186). -/
  | porPred (c : Nat) (f : IFields)
  /-- PXOR (R186). -/
  | pxor (c : Nat) (f : IFields)
  /-- PNOT (R186). -/
  | pnot (c : Nat) (f : IFields)
  /-- PGET (R186). -/
  | pget (c : Nat) (f : IFields)
  /-- PPUT (R186). -/
  | pput (c : Nat) (f : IFields)
  /-- DLD (R187). -/
  | dld (c : Nat) (f : IFields)
  /-- DST (R187). -/
  | dst (c : Nat) (f : IFields)
  /-- DSETW (R188). -/
  | dsetw (c : Nat) (f : IFields)
  /-- DGETW (R188). -/
  | dgetw (c : Nat) (f : IFields)
  /-- DZERO (R187). -/
  | dzero (c : Nat) (f : IFields)
  /-- DMOV (R187). -/
  | dmov (c : Nat) (f : IFields)
  /-- GETS (R180). -/
  | gets (c : Nat) (f : IFields)
  /-- WAIT_SEQ (R197). -/
  | waitSeq (c : Nat) (f : IFields)
  /-- WAIT_FLAG (R199). -/
  | waitFlag (c : Nat) (cond : Nat) (f : IFields)
  /-- WAIT_FLAG_ACQ (R200). -/
  | waitFlagAcq (c : Nat) (cond : Nat) (f : IFields)
  /-- FLAG_POLL (R146). -/
  | flagPoll (c : Nat)
  /-- WAIT_LIMIT_EXPIRE (R198). -/
  | waitLimitExpire (c : Nat)
  /-- AT_TIME (R203). -/
  | atTime (c : Nat) (f : IFields)
  /-- TIME_READ (R204). -/
  | timeRead (c : Nat) (f : IFields)
  /-- TIME_NEXT (R205). -/
  | timeNext (c : Nat) (f : IFields)
  /-- Q_DONE (R206). -/
  | qDone (c : Nat) (f : IFields)
  /-- Q_RING (R207). -/
  | qRing (c : Nat) (f : IFields)
  /-- SVC_RREG (R210). -/
  | svcRreg (c : Nat) (f : IFields)
  /-- SVC_WREG (R210). -/
  | svcWreg (c : Nat) (f : IFields)
  /-- SCHED_SAMPLE (R643). -/
  | schedSample (c : Nat) (f : IFields)
  /-- SCHED_FENCE (R505). -/
  | schedFence (c : Nat) (f : IFields)
  /-- SCHED_LEASE (R549). -/
  | schedLease (c : Nat) (f : IFields)
  /-- SCHED_EPOCH (R564). -/
  | schedEpoch (c : Nat) (f : IFields)
  /-- SCHED_ROUTE (R491). -/
  | schedRoute (c : Nat) (f : IFields)
  /-- SCHED_SCHEDULE (R526). -/
  | schedSchedule (c : Nat) (f : IFields)
  /-- SCHED_MODULE (R617). -/
  | schedModule (c : Nat) (f : IFields)
  /-- PUT (R227). -/
  | put (c : Nat) (f : IFields)
  /-- GET (R227). -/
  | get (c : Nat) (f : IFields)
  /-- COPY (R232). -/
  | copy (c : Nat) (f : IFields)
  /-- SCATTER (R233). -/
  | scatter (c : Nat) (f : IFields)
  /-- GATHER (R233). -/
  | gather (c : Nat) (f : IFields)
  /-- ATOM_FADD (R239). -/
  | atomFadd (c : Nat) (wide : Bool) (f : IFields)
  /-- ATOM_SWAP (R239). -/
  | atomSwap (c : Nat) (wide : Bool) (f : IFields)
  /-- ATOM_CAS (R239). -/
  | atomCas (c : Nat) (wide : Bool) (f : IFields)
  /-- ATOM_MIN (R239). -/
  | atomMin (c : Nat) (wide : Bool) (f : IFields)
  /-- ATOM_MAX (R239). -/
  | atomMax (c : Nat) (wide : Bool) (f : IFields)
  /-- ATOM_MINU (R239). -/
  | atomMinu (c : Nat) (wide : Bool) (f : IFields)
  /-- ATOM_MAXU (R239). -/
  | atomMaxu (c : Nat) (wide : Bool) (f : IFields)
  /-- ATOM_AND (R239). -/
  | atomAnd (c : Nat) (wide : Bool) (f : IFields)
  /-- ATOM_OR (R239). -/
  | atomOr (c : Nat) (wide : Bool) (f : IFields)
  /-- ATOM_XOR (R239). -/
  | atomXor (c : Nat) (wide : Bool) (f : IFields)
  /-- MEASURE (R242). -/
  | measure (c : Nat) (f : IFields)
  /-- FENCE (R314). -/
  | fence (c : Nat) (f : IFields)
  /-- REL (R312). -/
  | rel (c : Nat) (f : IFields)
  /-- ACQ (R313). -/
  | acq (c : Nat) (f : IFields)
  /-- PUBLISH (R246). -/
  | publish (c : Nat) (f : IFields)
  /-- BOND_START (R249). -/
  | bondStart (c : Nat) (f : IFields)
  /-- BOND_STEP (R251). -/
  | bondStep (c : Nat) (f : IFields)
  /-- BOND_WAIT (R253). -/
  | bondWait (c : Nat) (f : IFields)
  /-- BOND_QUERY (R253). -/
  | bondQuery (c : Nat) (f : IFields)
  /-- KILN_LOAD (R257). -/
  | kilnLoad (c : Nat) (f : IFields)
  /-- KILN_PARAM (R257). -/
  | kilnParam (c : Nat) (f : IFields)
  /-- TAIL_DOORBELL (R122). -/
  | tailDoorbell (a : Acc) (i : Nat) (v : W32)
  /-- HEAD_DOORBELL (R159). -/
  | headDoorbell (a : Acc) (i : Nat) (v : W32)
  /-- SQ_ENABLE (R120). -/
  | sqEnable (a : Acc) (i : Nat) (v : W32)
  /-- SQ_DISABLE (R139). -/
  | sqDisable (a : Acc) (i : Nat) (v : W32)
  /-- SQ_ABORT (R140). -/
  | sqAbort (a : Acc) (i : Nat) (v : W32)
  /-- CQ_ENABLE (R155). -/
  | cqEnable (a : Acc) (i : Nat) (v : W32)
  /-- CQ_DISABLE (R162). -/
  | cqDisable (a : Acc) (i : Nat) (v : W32)
  /-- CTX_CFG_WRITE (R112). -/
  | ctxCfgWrite (a : Acc) (i : Nat) (v : W32)
  /-- COMMAND_FETCH (R133). -/
  | commandFetch (c : Nat)
  /-- COMMAND_COMPLETE (R149). -/
  | commandComplete (c k : Nat)
  /-- COMPLETION_RECORD_WRITE (R724). -/
  | completionRecordWrite (j : Nat)
  /-- TRW_CODE_WRITE (R215). -/
  | trwCodeWrite (a : Acc) (i : Nat) (v : W32)
  /-- HOD_CFG_WRITE (R259). -/
  | hodCfgWrite (a : Acc) (i : Nat) (v : W32)
  /-- PUT_PACKET (R267). -/
  | putPacket (q : Nat) (p : Packet)
  /-- GET_REQ (R267). -/
  | getReq (q : Nat) (p : Packet)
  /-- ATOM_REQ (R281). -/
  | atomReq (q : Nat) (p : Packet)
  /-- COPY_REQ (R232). -/
  | copyReq (q : Nat) (p : Packet)
  /-- MEASURE_REQ (R242). -/
  | measureReq (q : Nat) (p : Packet)
  /-- PUBLISH_PACKET (R246). -/
  | publishPacket (q : Nat) (p : Packet)
  /-- SIGNAL (R231). -/
  | signal (q : Nat) (p : Packet)
  /-- MMSG (R58). -/
  | mmsg (q : Nat) (p : Packet)
  /-- COPY_DATA (R232). -/
  | copyData (q : Nat) (p : Packet)
  /-- PAGE_FWD (R296). -/
  | pageFwd (q : Nat) (p : Packet)
  /-- GET_DATA (R274). -/
  | getData (q : Nat) (p : Packet)
  /-- ATOM_RSP (R240). -/
  | atomRsp (q : Nat) (p : Packet)
  /-- MEASURE_RSP (R242). -/
  | measureRsp (q : Nat) (p : Packet)
  /-- ACK (R269). -/
  | ack (q : Nat) (p : Packet)
  /-- NACK (R268). -/
  | nack (q : Nat) (p : Packet)
  /-- DONE (R276). -/
  | done (q : Nat) (p : Packet)
  /-- ACK_TIMER (R269). -/
  | ackTimer (fl : Nat)
  /-- REPLAY_TIMEOUT (R271). -/
  | replayTimeout (h fl sq : Nat)
  /-- HOD_FLOW_RESET (R279). -/
  | hodFlowReset (a : Acc) (v : W32)
  /-- FLOW_RESET_DONE (R279). -/
  | flowResetDone
  /-- MC_LEAF_SKIP (R287). -/
  | mcLeafSkip (fl : Nat)
  /-- BPM_ANSWER (R701). -/
  | bpmAnswer (id : Nat) (grant : Bool) (addr : Nat)
  /-- BPM_TIMEOUT (R291). -/
  | bpmTimeout (id : Nat)
  /-- HOD_RX_RELEASE (R294). -/
  | hodRxRelease (a : Acc) (v : W32)
  /-- MAILBOX_CFG_WRITE (R292). -/
  | mailboxCfgWrite (a : Acc) (r : RegName) (i j : Nat) (v : W32)
  /-- RCB_EXPIRE (R333). -/
  | rcbExpire (ten k : Nat)
  /-- RCB_CFG_WRITE (R333). -/
  | rcbCfgWrite (a : Acc) (v : W32)
  /-- BOND_CFG_VALID (R344). -/
  | bondCfgValid (a : Acc) (i : Nat) (v : W32)
  /-- BOND_ENTRY_WRITE (R343). -/
  | bondEntryWrite (a : Acc) (r : RegName) (i j : Nat) (v : W32)
  /-- BND_SLOT_CFG_WRITE (R348). -/
  | bndSlotCfgWrite (a : Acc) (i : Nat) (v : W32)
  /-- BND_SLOT_STORE_WRITE (R350). -/
  | bndSlotStoreWrite (a : Acc) (i : Nat) (v : W32)
  /-- STEP_DATA (R359). -/
  | stepData (q : Nat) (p : Packet)
  /-- GRANT (R356). -/
  | grant (q : Nat) (p : Packet)
  /-- STEP_ACK (R358). -/
  | stepAck (q : Nat) (p : Packet)
  /-- LATE (R389). -/
  | late (q : Nat) (p : Packet)
  /-- REFORM (R391). -/
  | reform (q : Nat) (p : Packet)
  /-- STOP (R383). -/
  | stopCtl (q : Nat) (p : Packet)
  /-- CHECK (R384). -/
  | check (q : Nat) (p : Packet)
  /-- STEP_RESEND_TIMEOUT (R358). -/
  | stepResendTimeout (s k : Nat)
  /-- BOND_STEP_TIMEOUT (R386). -/
  | bondStepTimeout (s : Nat)
  /-- LATE_RETRY_TIMEOUT (R388). -/
  | lateRetryTimeout (s : Nat)
  /-- COORD_COLLECT_END (R389). -/
  | coordCollectEnd (s : Nat)
  /-- BOND_STEP_COMPLETE (R355). -/
  | bondStepComplete (s : Nat)
  /-- KLN_SLOT_CFG_WRITE (R434). -/
  | klnSlotCfgWrite (a : Acc) (i : Nat) (v : W32)
  /-- KILN_UNIT (R430). -/
  | kilnUnit (cl ln : Nat)
  /-- KILN_DRAIN (R424). -/
  | kilnDrain (cl : Nat) (o : Nat)
  /-- KILN_END (R424). -/
  | kilnEnd (cl ln : Nat) (k : KFields)
  /-- KILN_NOP (R427). -/
  | kilnNop (cl ln : Nat) (k : KFields)
  /-- KILN_LDI (R427). -/
  | kilnLdi (cl ln : Nat) (k : KFields)
  /-- KILN_BCP (R427). -/
  | kilnBcp (cl ln : Nat) (k : KFields)
  /-- KILN_IOTA (R427). -/
  | kilnIota (cl ln : Nat) (k : KFields)
  /-- KILN_MOV (R427). -/
  | kilnMov (cl ln : Nat) (k : KFields)
  /-- KILN_ADD (R427). -/
  | kilnAdd (cl ln : Nat) (k : KFields)
  /-- KILN_SUB (R427). -/
  | kilnSub (cl ln : Nat) (k : KFields)
  /-- KILN_ADDS (R427). -/
  | kilnAdds (cl ln : Nat) (k : KFields)
  /-- KILN_SUBS (R427). -/
  | kilnSubs (cl ln : Nat) (k : KFields)
  /-- KILN_MUL (R427). -/
  | kilnMul (cl ln : Nat) (k : KFields)
  /-- KILN_MULH (R427). -/
  | kilnMulh (cl ln : Nat) (k : KFields)
  /-- KILN_MIN (R427). -/
  | kilnMin (cl ln : Nat) (k : KFields)
  /-- KILN_MAX (R427). -/
  | kilnMax (cl ln : Nat) (k : KFields)
  /-- KILN_AND (R427). -/
  | kilnAnd (cl ln : Nat) (k : KFields)
  /-- KILN_OR (R427). -/
  | kilnOr (cl ln : Nat) (k : KFields)
  /-- KILN_XOR (R427). -/
  | kilnXor (cl ln : Nat) (k : KFields)
  /-- KILN_ANDN (R427). -/
  | kilnAndn (cl ln : Nat) (k : KFields)
  /-- KILN_SHL (R427). -/
  | kilnShl (cl ln : Nat) (k : KFields)
  /-- KILN_SAR (R427). -/
  | kilnSar (cl ln : Nat) (k : KFields)
  /-- KILN_SHR (R427). -/
  | kilnShr (cl ln : Nat) (k : KFields)
  /-- KILN_SHLV (R427). -/
  | kilnShlv (cl ln : Nat) (k : KFields)
  /-- KILN_SARV (R427). -/
  | kilnSarv (cl ln : Nat) (k : KFields)
  /-- KILN_RSH (R427). -/
  | kilnRsh (cl ln : Nat) (k : KFields)
  /-- KILN_RSHV (R427). -/
  | kilnRshv (cl ln : Nat) (k : KFields)
  /-- KILN_SEL (R427). -/
  | kilnSel (cl ln : Nat) (k : KFields)
  /-- KILN_WIDEN (R427). -/
  | kilnWiden (cl ln : Nat) (k : KFields)
  /-- KILN_NARROW (R427). -/
  | kilnNarrow (cl ln : Nat) (k : KFields)
  /-- KILN_UNPK4 (R427). -/
  | kilnUnpk4 (cl ln : Nat) (k : KFields)
  /-- KILN_PACK4 (R427). -/
  | kilnPack4 (cl ln : Nat) (k : KFields)
  /-- KILN_EXPX (R427). -/
  | kilnExpx (cl ln : Nat) (k : KFields)
  /-- KILN_PERM (R427). -/
  | kilnPerm (cl ln : Nat) (k : KFields)
  /-- KILN_GMAX (R427). -/
  | kilnGmax (cl ln : Nat) (k : KFields)
  /-- KILN_GSUM (R427). -/
  | kilnGsum (cl ln : Nat) (k : KFields)
  /-- KILN_CMPEQ (R427). -/
  | kilnCmpeq (cl ln : Nat) (k : KFields)
  /-- KILN_CMPLT (R427). -/
  | kilnCmplt (cl ln : Nat) (k : KFields)
  /-- KILN_CMPLE (R427). -/
  | kilnCmple (cl ln : Nat) (k : KFields)
  /-- KILN_CMPLTU (R427). -/
  | kilnCmpltu (cl ln : Nat) (k : KFields)
  /-- KILN_KAND (R427). -/
  | kilnKand (cl ln : Nat) (k : KFields)
  /-- KILN_KOR (R427). -/
  | kilnKor (cl ln : Nat) (k : KFields)
  /-- KILN_KNOT (R427). -/
  | kilnKnot (cl ln : Nat) (k : KFields)
  /-- KILN_TOPM (R427). -/
  | kilnTopm (cl ln : Nat) (k : KFields)
  /-- KILN_EMIT (R427). -/
  | kilnEmit (cl ln : Nat) (k : KFields)
  /-- KILN_EMITM (R427). -/
  | kilnEmitm (cl ln : Nat) (k : KFields)
  /-- KILN_EMITK (R427). -/
  | kilnEmitk (cl ln : Nat) (k : KFields)
  /-- KILN_PACKZ (R427). -/
  | kilnPackz (cl ln : Nat) (k : KFields)
  /-- KILN_LDS (R429). -/
  | kilnLds (cl ln : Nat) (k : KFields)
  /-- TILE_RECEIVE (R444). -/
  | tileReceive (p : Nat) (r : RxTile)
  /-- TILE_SEND (R501). -/
  | tileSend (p : Nat)
  /-- PACKET_FORWARD (R487). -/
  | packetForward (q : Nat) (p : Packet)
  /-- NO_ROUTE_TIMEOUT (R496). -/
  | noRouteTimeout (k : Nat)
  /-- ROUTE_COMMIT (R490). -/
  | routeCommit (a : Acc) (v : W32)
  /-- MC_COMMIT (R507). -/
  | mcCommit (a : Acc) (v : W32)
  /-- CIR_SHADOW_WRITE (R525). -/
  | cirShadowWrite (a : Acc) (out : Bool) (p t : Nat) (v : W32)
  /-- CIR_PALLET_WRITE (R513). -/
  | cirPalletWrite (a : Acc) (r : RegName) (i j : Nat) (v : W32)
  /-- RESTORE (R523). -/
  | restore (a : Acc) (i : Nat) (v : W32)
  /-- CIR_NOTICE (R522). -/
  | cirNotice (a : Acc) (v : W32)
  /-- RTE_THROTTLE_WRITE (R504). -/
  | rteThrottleWrite (a : Acc) (v : W32)
  /-- CAPS (R467). -/
  | caps (p : Nat) (b : List Byte)
  /-- ADVERT (R462). -/
  | advert (p : Nat) (b : List Byte)
  /-- DROP (R464). -/
  | drop (p : Nat) (b : List Byte)
  /-- RESYNC_REQ (R465). -/
  | resyncReq (p : Nat) (b : List Byte)
  /-- RETRAIN_REQ (R475). -/
  | retrainReq (p : Nat) (b : List Byte)
  /-- WIDTH_REQ (R476). -/
  | widthReq (p : Nat) (b : List Byte)
  /-- WIDTH_ACK (R476). -/
  | widthAck (p : Nat) (b : List Byte)
  /-- SPARE_REQ (R472). -/
  | spareReq (p : Nat) (b : List Byte)
  /-- SPARE_ACK (R472). -/
  | spareAck (p : Nat) (b : List Byte)
  /-- SPARE_DONE (R472). -/
  | spareDone (p : Nat) (b : List Byte)
  /-- DOWN_NOTICE (R480). -/
  | downNotice (p : Nat) (b : List Byte)
  /-- LCTL_REPEAT (R458). -/
  | lctlRepeat (p k : Nat)
  /-- DROP_REPORT (R463). -/
  | dropReport (p : Nat)
  /-- RESYNC_TIMEOUT (R465). -/
  | resyncTimeout (p : Nat)
  /-- LINK_ENABLE (R466). -/
  | linkEnable (a : Acc) (i : Nat) (v : W32)
  /-- LINK_DISABLE (R625). -/
  | linkDisable (a : Acc) (i : Nat) (v : W32)
  /-- LNK_RETRAIN (R475). -/
  | lnkRetrain (a : Acc) (i : Nat) (v : W32)
  /-- LNK_WIDEN (R474). -/
  | lnkWiden (a : Acc) (i : Nat) (v : W32)
  /-- LNK_RESYNC (R465). -/
  | lnkResync (a : Acc) (i : Nat) (v : W32)
  /-- LNK_RETRY (R468). -/
  | lnkRetry (a : Acc) (i : Nat) (v : W32)
  /-- LNK_FORCE_DOWN (R480). -/
  | lnkForceDown (a : Acc) (i : Nat) (v : W32)
  /-- LNK_SPARE_GO (R471). -/
  | lnkSpareGo (a : Acc) (i : Nat) (v : W32)
  /-- LNK_CFG_WRITE (R528). -/
  | lnkCfgWrite (a : Acc) (i : Nat) (v : W32)
  /-- LNK_CREDIT_CFG_WRITE (R461). -/
  | lnkCreditCfgWrite (a : Acc) (i j : Nat) (v : W32)
  /-- DETECT_DONE (R466). -/
  | detectDone (p mask : Nat)
  /-- LOCK_DONE (R466). -/
  | lockDone (p mask : Nat)
  /-- LOCK_TIMEOUT (R466). -/
  | lockTimeout (p : Nat)
  /-- CONFIG_TIMEOUT (R466). -/
  | configTimeout (p : Nat)
  /-- EQUALIZE_DONE (R466). -/
  | equalizeDone (p : Nat)
  /-- EQUALIZE_TIMEOUT (R468). -/
  | equalizeTimeout (p : Nat)
  /-- VERIFY_DONE (R466). -/
  | verifyDone (p bad : Nat) (uncorr : Nat)
  /-- CREDIT_TIMEOUT (R466). -/
  | creditTimeout (p : Nat)
  /-- RETRAIN_TIMEOUT (R480). -/
  | retrainTimeout (p : Nat)
  /-- BACKOFF_EXPIRE (R466). -/
  | backoffExpire (p : Nat)
  /-- LANE_LOCK_LOSS (R471). -/
  | laneLockLoss (p l : Nat)
  /-- SPARE_SWITCH (R472). -/
  | spareSwitch (p : Nat)
  /-- SPARE_TIMEOUT (R473). -/
  | spareTimeout (p : Nat)
  /-- EQUALISER_CONVERGED (R622). -/
  | equaliserConverged (p l : Nat) (ok : Bool)
  /-- WIDTH_SWITCH (R478). -/
  | widthSwitch (p : Nat)
  /-- WIDTH_WITHDRAW (R479). -/
  | widthWithdraw (p : Nat)
  /-- LINK_SILENT (R480). -/
  | linkSilent (p : Nat)
  /-- OPT_PORT_CFG_WRITE (R528). -/
  | optPortCfgWrite (a : Acc) (i : Nat) (v : W32)
  /-- LOSS_OF_LIGHT (R530). -/
  | lossOfLight (p l : Nat) (los : Bool)
  /-- LANE_DARK (R530). -/
  | laneDark (p l : Nat)
  /-- LANE_LIT (R530). -/
  | laneLit (p l : Nat)
  /-- OPTICAL_DOWN (R531). -/
  | opticalDown (p : Nat)
  /-- LM_PRESENCE_CHANGE (R534). -/
  | lmPresenceChange (m : Nat) (present : Bool)
  /-- LM_PROBE_START (R534). -/
  | lmProbeStart (m : Nat)
  /-- LM_PROBE_DONE (R536). -/
  | lmProbeDone (m : Nat) (ident : List Byte)
  /-- LM_POLL (R537). -/
  | lmPoll (m : Nat) (bias : List Nat) (fail : Nat)
  /-- LM_XACT_FAIL (R535). -/
  | lmXactFail (m : Nat)
  /-- LM_HOURS_TICK (R538). -/
  | lmHoursTick (m : Nat)
  /-- LM_DISABLE (R626). -/
  | lmDisable (a : Acc) (i : Nat) (v : W32)
  /-- LM_CMD (R541). -/
  | lmCmd (a : Acc) (i : Nat) (v : W32)
  /-- LM_CMD_DONE (R541). -/
  | lmCmdDone (m data : Nat) (err : Bool)
  /-- SEC_TEN_CFG_WRITE (R572). -/
  | secTenCfgWrite (a : Acc) (i : Nat) (v : W32)
  /-- TEN_WIN_WRITE (R547). -/
  | tenWinWrite (a : Acc) (r : RegName) (i j : Nat) (v : W32)
  /-- REPORT (R575). -/
  | report (a : Acc) (v : W32)
  /-- EXCHANGE (R560). -/
  | exchange (a : Acc) (v : W32)
  /-- INSTALL (R561). -/
  | install (a : Acc) (v : W32)
  /-- CLEAR (R560). -/
  | clear (a : Acc) (v : W32)
  /-- KX_DONE (R559). -/
  | kxDone (h : List (List Byte))
  /-- SWEEP_CMD (R568). -/
  | sweepCmd (a : Acc) (v : W32)
  /-- SWEEP_DONE (R297). -/
  | sweepDone
  /-- EPOCH_ZEROISE (R567). -/
  | epochZeroise (t e : Nat)
  /-- RCOSC_STABLE (R577). -/
  | rcoscStable
  /-- ROSC_STABLE (R579). -/
  | roscStable (cyc : Nat)
  /-- ROSC_TIMEOUT (R590). -/
  | roscTimeout
  /-- PLL_LOCK (R580). -/
  | pllLock (pll : Nat)
  /-- PLL_UNLOCK (R580). -/
  | pllUnlock (pll : Nat)
  /-- MONITOR_WINDOW (R584). -/
  | monitorWindow (mon count : Nat) (noEdge : Bool)
  /-- CLOCK_SWITCH (R587). -/
  | clockSwitch (ft : Bool)
  /-- DIVIDER_STEP (R593). -/
  | dividerStep
  /-- CCLK_RETURN (R592). -/
  | cclkReturn (a : Acc) (v : W32)
  /-- CLK_OBS_CFG_WRITE (R596). -/
  | clkObsCfgWrite (a : Acc) (v : W32)
  /-- SRAM_INIT_DONE (R604). -/
  | sramInitDone
  /-- BOOT_DOOR (R606). -/
  | bootDoor (a : Acc) (v : W32)
  /-- BOOT_VERIFY_DONE (R609). -/
  | bootVerifyDone
  /-- IDENTITY_DONE (R612). -/
  | identityDone
  /-- STAGE_GO (R614). -/
  | stageGo (a : Acc) (i : Nat) (v : W32)
  /-- STAGE_DONE (R614). -/
  | stageDone (k : Nat)
  /-- STAGE_DISCARD (R616). -/
  | stageDiscard (a : Acc) (i : Nat) (v : W32)
  /-- OLD_RANGE_EXPIRE (R619). -/
  | oldRangeExpire (k : Nat)
  /-- CTR_SELECT_WRITE (R634). -/
  | ctrSelectWrite (a : Acc) (r : RegName) (i j : Nat) (v : W32)
  /-- SAMPLE_CHANNEL_WRITE (R642). -/
  | sampleChannelWrite (a : Acc) (r : RegName) (i j : Nat) (v : W32)
  /-- PC_SAMPLE (R644). -/
  | pcSample (n : Nat)
  /-- TRACE_STOPPED (R651). -/
  | traceStopped (u : Nat)
  /-- ARM (R648). -/
  | arm (a : Acc) (i : Nat) (v : W32)
  /-- DISARM (R648). -/
  | disarm (a : Acc) (i : Nat) (v : W32)
  /-- TRIG (R651). -/
  | trig (a : Acc) (i : Nat) (v : W32)
  /-- SNAP (R650). -/
  | snap (a : Acc) (i : Nat) (v : W32)
  /-- RELEASE (R650). -/
  | trcRelease (a : Acc) (i : Nat) (v : W32)
  /-- TRACE_DRAIN (R652). -/
  | traceDrain (u : Nat)
  /-- TRACE_CFG_WRITE (R653). -/
  | traceCfgWrite (a : Acc) (r : RegName) (i j : Nat) (v : W32)
  /-- HALT (R657). -/
  | halt (a : Acc) (v : W32)
  /-- RESUME (R657). -/
  | resume (a : Acc) (v : W32)
  /-- STEP (R657). -/
  | step (a : Acc) (v : W32)
  /-- DBG_REG_WRITE (R658). -/
  | dbgRegWrite (a : Acc) (i : Nat) (v : W32)
  /-- FAULT_PRESENT (R662). -/
  | faultPresent
  /-- FLT_PEND_CLEAR (R661). -/
  | fltPendClear (a : Acc) (i : Nat) (v : W32)
  /-- FLT_SEV_WRITE (R662). -/
  | fltSevWrite (a : Acc) (i : Nat) (v : W32)
  /-- FLT_FIRST_CLEAR (R664). -/
  | fltFirstClear (a : Acc) (v : W32)
  /-- FLT_SW_RAISE (R660). -/
  | fltSwRaise (a : Acc) (v : W32)
  /-- TEMP_MEASURE (R680). -/
  | tempMeasure (k : Nat) (temp : BitVec 12)
  /-- TU_REQUEST_ACCEPT (R689). -/
  | tuRequestAccept (ch : Nat)
  /-- TU_RESPONSE (R691). -/
  | tuResponse (ch tag kind : Nat) (data : List Byte)
  /-- TU_RESET_QUIESCE (R694). -/
  | tuResetQuiesce
  /-- TU_INBOUND_REQUEST (R695). -/
  | tuInboundRequest (op tag dom brick mask : Nat) (data : List Byte)
  /-- I3C_PRIVATE_WRITE (R713). -/
  | i3cPrivateWrite (bytes : List Byte)
  /-- I3C_PRIVATE_READ (R713). -/
  | i3cPrivateRead (n : Nat)
  /-- ENTDAA (R712). -/
  | entdaa (addr : Nat)
  /-- RSTDAA (R712). -/
  | rstdaa
  /-- ENEC (R712). -/
  | enec
  /-- DISEC (R712). -/
  | disec
  /-- GETPID (R712). -/
  | getpid
  /-- GETBCR (R712). -/
  | getbcr
  /-- GETDCR (R712). -/
  | getdcr
  /-- GETSTATUS (R712). -/
  | getstatus
  /-- GETMWL (R712). -/
  | getmwl
  /-- GETMRL (R712). -/
  | getmrl
  /-- BYPASS (R714). -/
  | bypass
  /-- IDCODE (R714). -/
  | idcode
  /-- SAMPLE_PRELOAD (R714). -/
  | samplePreload (bits : List Byte)
  /-- EXTEST (R714). -/
  | extest (bits : List Byte)
  /-- CLAMP (R714). -/
  | clamp
  /-- HIGHZ (R714). -/
  | highz
  /-- WIR (R715). -/
  | wir (w : Nat)
  /-- WDR (R715). -/
  | wdr (bits : List Byte)
  /-- AON_SUPPLY_VALID (R577). -/
  | aonSupplyValid
  /-- SCRATCHPAD_GRANT (R337). -/
  | scratchpadGrant (b : Nat)
  /-- BPM_REQUEST_HANDSHAKE (R700). -/
  | bpmRequestHandshake
  /-- BPM_RELEASE_HANDSHAKE (R702). -/
  | bpmReleaseHandshake
  /-- INBOUND_RESPONSE_HANDSHAKE (R695). -/
  | inboundResponseHandshake
deriving DecidableEq, Repr

end Sys2Proof
end

