-- ==== Sys2Proof/Decode.lean ====
section
/-! DEFINITION. The command that a word spells by the bits of the command table. The table gives no row any bits, so no word spells a
command; the words that the block itself decodes, Floug and kiln words, are decoded where they are issued. -/

namespace Sys2Proof

/-- The command of a word: the table gives no bits to any row. -/
def decodeTableWord (_nbits _w : Nat) : Option Instr := none

end Sys2Proof
end

