-- ==== Sys2Proof/Config.lean ====
section
/-! DEFINITION. What an implementation fixes and the free values: constants without a body, so that no proof can see
their values. Each is named in the assumption log. -/

namespace Sys2Proof

/-- The fixed transmit latency of a port at a generation and width, in 1/256 tick (R74): the spec gives no figure. (DEDUCED, log 61) -/
opaque Config.txLatency : Nat → Nat → Nat

/-- The fixed receive latency of a port at a generation and width, in 1/256 tick (R74). (DEDUCED, log 61) -/
opaque Config.rxLatency : Nat → Nat → Nat

/-- SHA-384 of a byte string (R611, R612). (DEDUCED, log 75) -/
opaque Config.sha384 : List Byte → List Byte

/-- The ROM contents whose digest the block keeps (R611). (DEDUCED, log 75) -/
opaque Config.romBytes : List Byte

/-- HKDF-SHA-384 (RFC 5869): output bytes from the input key, the salt, the info string and a length (Table - Key classes). (DEDUCED, log 75) -/
opaque Config.kdf : List Byte → List Byte → List Byte → Nat → List Byte

/-- The image root key, X ‖ Y, as the ROM is given it, and the digest of it that the ROM holds (R608): the spec does not say where the
key itself lies. (DEDUCED, log 75) -/
opaque Config.rootKey : List Byte
/-- The digest of the image root key that the ROM holds (R608). (DEDUCED, log 75) -/
opaque Config.rootDigest : List Byte

/-- ECDSA P-384 signature check: public key, message digest, signature. (DEDUCED, log 75) -/
opaque Config.ecdsaOk : List Byte → List Byte → List Byte → Bool

/-- ECDSA P-384 signature of a message under a private key. (DEDUCED, log 75) -/
opaque Config.ecdsaSign : List Byte → List Byte → List Byte

/-- The public key, X ‖ Y, of a private scalar. (DEDUCED, log 75) -/
opaque Config.ecPub : List Byte → List Byte

/-- ECDH on P-384: shared secret of a private and a public key; none where the point is invalid. (DEDUCED, log 75) -/
opaque Config.ecdh : List Byte → List Byte → Option (List Byte)

/-- The cornerstone value that the PUF and the helper data give (R557); none where reconstruction fails. (DEDUCED, log 75) -/
opaque Config.cornerstone : List Byte → Option (List Byte)

/-- AES-256 key unwrap: wrapping key, wrapped key; none where the integrity check fails (R561). (DEDUCED, log 75) -/
opaque Config.keyUnwrap : List Byte → List Byte → Option (List Byte)

/-- Authenticated encryption of a packet payload: key, nonce, associated data, text; gives text and tag (R563). (DEDUCED, log 75) -/
opaque Config.aeadSeal : List Byte → List Byte → List Byte → List Byte → List Byte

/-- The opening of a sealed payload; none where the tag fails (R569). (DEDUCED, log 75) -/
opaque Config.aeadOpen : List Byte → List Byte → List Byte → List Byte → Option (List Byte)

/-- Storage encryption of a page under a key: key, page, bytes (R568). (DEDUCED, log 75) -/
opaque Config.xts : List Byte → Nat → List Byte → List Byte

/-- The inverse of the storage encryption. (DEDUCED, log 75) -/
opaque Config.xtsInv : List Byte → Nat → List Byte → List Byte

/-- The leaves of a multicast group, as a mask of leaf indices (R285): the spec does not say how a source knows them. (DEDUCED, log 124) -/
opaque Config.groupLeaves : Nat → Nat

/-- The exponent byte that the candidate instructions read beyond the 256 bytes of v1: the spec states none. (DESIGN CHOICE, log 125) -/
opaque Config.expByte : Nat → Int

/-- The collective descriptor of collective n of a bond as a switch of its tree knows it: the spec does not say how it learns
the kind, the count and the format (R352, R375). (DESIGN CHOICE, log 84) -/
opaque Config.treeDesc : Nat → Nat → BitVec 512

/-- A value the spec leaves open, one for each number drawn. (DESIGN CHOICE, log 2) -/
opaque Config.free : Nat → Nat

end Sys2Proof
end

