-- ==== Sys2Proof/Machine/State.lean ====
section
/-! DEFINITION. The state of the block as plain data, the reasons a step can stop, and the state at power-on reset. -/

namespace Sys2Proof.Machine

open Sys2Proof

/-- Faults of the model. The spec gives every command an effect, so no meaning raises one; the type is here because the
host's interface names it. -/
inductive Fault where
  /-- Raised by nothing: the block reports every error in its own registers and statuses. Safe. -/
  | none
deriving DecidableEq, Repr

/-- Refusals of the model. -/
inductive Refusal where
  /-- Raised by an arm of `exec` whose command has no meaning yet. Safe: nothing can be proved of such a run. -/
  | notModelled (mnemonic : String)
deriving DecidableEq, Repr

/-- The tie-offs as sampled at the release of power-on reset (R2, R685); none before the first release. -/
structure Sampled where
  persona : Persona
  tuGen : Bool
  tuIlv : Nat
  i3cMfr : Nat
  i3cInst : Nat
  jtagMfr : Nat
deriving DecidableEq, Repr

/-- Commands, contexts, queues and rings (03, 04). -/
structure Prog where
  ctx : Tab Ctx
  sqTail : Tab Nat
  sqDone : Tab (List Nat)
  rings : Tab (List (Nat × Nat))
  ringBusy : Tab (Nat × Nat)
  park : Tab (List W64)
  nextCmd : Nat
deriving DecidableEq, Repr

/-- Transfers and memory accesses (05, 06, 07, 18). -/
structure Xfer where
  ops : List Op
  nextOp : Nat
  txns : List Txn
  nextTxn : Nat
  replay : Tab (List Replay)
  tx : Tab TxFlow
  rx : Tab RxFlow
  mcLeaf : List Nat
  resetPeer : Option Nat
  atomCache : List (Nat × Nat × Nat)
  msgs : List Msg
  nextMsg : Nat
  handles : Tab Handle
  bpm : List BpmReq
  bpmRel : List (Nat × Nat × Nat)
  rcb : List Rcb
  spw : List Host.Cell
  inbound : List (Nat × Nat × List Byte)
  /-- Packets whose DONE waits for coherence: flow, number, packet (R232, R276). -/
  dones : List (Nat × Nat × Packet)
deriving DecidableEq, Repr

/-- Observation and faults (16). -/
structure Obs where
  trc : Tab Trc
  smp : Tab Sample
  pcs : Tab Nat
  pcsMissed : Nat
  pcsBusy : Nat
  frozenAt : Tab Nat
  frozenIdx : List Nat
  palFrozen : Tab (Nat × Nat)
  flt : FltPort
deriving DecidableEq, Repr

/-- The 64-bit register captures of R9: path, register, index, high half held. -/
structure Capture where
  path : Nat
  reg : RegName
  i : Nat
  high : Nat
deriving DecidableEq, Repr

/-- The block. (DESIGN CHOICE, log 2) -/
structure State where
  /-- Tie-offs sampled at power-on reset release (R2). -/
  tie : Option Sampled
  /-- Registers that differ from their reset value, by array position. -/
  regs : Tab W32
  /-- Register halves captured under R9. -/
  caps : List Capture
  clk : Clk
  tim : Tim
  /-- Pending at-time actions in order of acceptance (R99 to R107). -/
  acts : List AtAction
  nextAct : Nat
  /-- View configuration values in force (R51); the registers hold the values written. -/
  views : Tab Nat
  viewDue : List Nat
  prog : Prog
  xf : Xfer
  net : Net
  obs : Obs
  boot : Boot
  opt : Opt
  sec : Sec
  tap : Tap
  i3c : I3c
  kiln : Kiln
  bnd : Bnd
  /-- Answer of the last register read: path and value (R696). -/
  rgAns : Option (Nat × W32)
  /-- Free values drawn so far: the model's own counter. -/
  free : Nat
  /-- Commands waiting, first in first out. -/
  pending : List Instr
deriving DecidableEq, Repr

def Tim.reset : Tim :=
  ⟨0, 0, 0, 0, 0, false, false, false, 0, false, 0, 0, 0, 0xFFFF, []⟩

def Clk.reset : Clk where
  aon := false
  rcosc := 0
  rcPhase := 0
  rcOk := false
  rosc := 0
  roscPhase := 0
  roscAt := 0
  roscOk := false
  cclk := 0
  ccPhase := 0
  srcCycles := 0
  refWins := 0
  gate := true
  heldOff := 0
  needRosc := false
  ftNeed := false
  por := true
  core := false
  quiesce := none
  gapCore := false
  lpllHold := 0
  toCpll := false
  cpllEver := false
  ccForced := false
  ftForced := false
  rcStop := false
  ftStart := false
  palDrops := 0

def Prog.reset : Prog := ⟨[], [], [], [], [], [], 1⟩

def Xfer.reset : Xfer :=
  ⟨[], 1, [], 1, [], [], [], [], none, [], [], 1, [], [], [], [], [], [], []⟩

def Net.reset : Net := ⟨[], [], [], [0, 0, 0, 0], [], [], 1, [], [], [], [], []⟩

def Obs.reset : Obs := ⟨[], [], [], 0, 0, [], [], [], ⟨none, 0, none, false, 0, 0⟩⟩

/-- The block with power-on reset asserted and its always-on supply not yet valid: every register at its reset value,
nothing held anywhere (R598). (DESIGN CHOICE, log 3; DESIGN CHOICE, log 17; PRESUMED, log 121) -/
def State.reset : State where
  tie := none
  regs := []
  caps := []
  clk := Clk.reset
  tim := Tim.reset
  acts := []
  nextAct := 1
  views := []
  viewDue := []
  prog := Prog.reset
  xf := Xfer.reset
  net := Net.reset
  obs := Obs.reset
  boot := ⟨[], [], [], [], 0, (0, 0), []⟩
  opt := ⟨[], [], [], []⟩
  sec := ⟨[], [], [], none, [], [], [], [], none, none, []⟩
  tap := ⟨1, [], 0, 0, [], false, 0x34E32001⟩
  i3c := ⟨none, 0, false, []⟩
  kiln := ⟨[], [], [], [], 1⟩
  bnd := ⟨[], [], [], []⟩
  rgAns := none
  free := 0
  pending := []

end Sys2Proof.Machine
end

