-- ==== Sys2Proof/Machine/Flags.lean ====
section
/-! DEFINITION. The conditions and the arithmetic of Floug: comparisons (R184), flag conditions (Table - Flag conditions) and
the ALU functions (Table - ALU functions). -/

namespace Sys2Proof.Machine

open Sys2Proof

/-- Conditions of CMP and CMPI in FN order: EQ, NE, LT, LE signed, LTU, LEU unsigned (R184). -/
def cmpCond (k : Nat) (a b : W64) : Bool :=
  match k with
  | 0 => a == b
  | 1 => a != b
  | 2 => a.slt b
  | 3 => a.sle b
  | 4 => a.ult b
  | _ => a.ule b

/-- Conditions of WAIT.FLAG (Table - Flag conditions). -/
def flagCond (k : Nat) (v c : W64) : Bool :=
  match k with
  | 0 => v == c
  | 1 => v != c
  | 2 => c.ule v
  | 3 => v.ult c
  | 4 => c.sle v
  | 5 => v.slt c
  | 6 => (v &&& c) != 0
  | _ => (v &&& c) == c

/-- Count of leading zeros, 0 to 64. -/
def clz64 (a : W64) : Nat := 64 - a.toNat.log2 - (if a = 0 then 0 else 1)

/-- Count of one bits. -/
def popc64 (a : W64) : Nat := ((List.range 64).filter (fun i => a.getLsbD i)).length

/-- The shift amount: B[5:0] (R182). -/
def shAmt (b : W64) : Nat := b.toNat % 64

/-- The ALU functions by FN (R182). -/
def alu (fn : Nat) (a b : W64) : W64 :=
  match fn with
  | 0x00 => a + b
  | 0x01 => a - b
  | 0x02 => a &&& b
  | 0x03 => a ||| b
  | 0x04 => a ^^^ b
  | 0x05 => a <<< shAmt b
  | 0x06 => a >>> shAmt b
  | 0x07 => a.sshiftRight (shAmt b)
  | 0x08 => a * b
  | 0x09 => BitVec.ofNat 64 (a.toNat * b.toNat / 2 ^ 64)
  | 0x0A => if a.sle b then a else b
  | 0x0B => if a.sle b then b else a
  | 0x0C => if a.ule b then a else b
  | 0x0D => if a.ule b then b else a
  | 0x0E => BitVec.ofNat 64 (clz64 a)
  | _ => BitVec.ofNat 64 (popc64 a)

end Sys2Proof.Machine
end

