-- ==== Sys2Proof/Machine/RegTable.lean ====
section
/-! DEFINITION. The description of every register (17_register_map.md, The map, and the register tables of the
owning chapters) and every named field. -/

namespace Sys2Proof.Machine

/-- The description of each register: offset, shape, access masks and plain reset value (R665, R598). Reset values
that depend on the personality or on the index are in `regReset`. (DESIGN CHOICE, log 116) -/
def regDesc : RegName → RegDesc
  | .GLB_IDCODE => ⟨0, 0, 1, 0, 1, 0xFFFFFFFF, 0, 0, 0, 0, 0, 0, 0x4E4C3332, false⟩
  | .GLB_ID => ⟨4, 0, 1, 0, 1, 0xFF07FF, 0, 0, 0, 0, 0, 0, 0x303FC, true⟩
  | .GLB_ACCESS_ERR => ⟨0x10, 0, 1, 0, 1, 0, 0, 0x7F, 0, 0, 0, 0, 0, false⟩
  | .GLB_ACCESS_ERR_INFO => ⟨0x14, 0, 1, 0, 1, 0x3FFFFFF, 0, 0x80000000, 0, 0, 0, 0, 0, false⟩
  | .GLB_ACCESS_ERR_DOM => ⟨0x18, 0, 1, 0, 1, 0x3FF, 0, 0, 0, 0, 0, 0, 0, false⟩
  | .GLB_LOCK => ⟨0x20, 0, 1, 0, 1, 0, 0, 0, 7, 0, 0, 0, 0, true⟩
  | .GLB_SCALE_CLASS => ⟨0x30, 0, 1, 0, 1, 0x30, 3, 0, 0, 0, 0, 0, 0, false⟩
  | .GLB_FLAT_ID => ⟨0x40, 0, 1, 0, 1, 0, 0, 0, 0, 0xFFFF, 0, 0, 0xFFFF, true⟩
  | .GLB_COORD => ⟨0x44, 0, 1, 0, 1, 0, 0, 0, 0, 0x1FFFFF, 0, 0, 0, true⟩
  | .GLB_TORUS_DIM => ⟨0x48, 0, 1, 0, 1, 0, 0, 0, 0, 0xFFF, 0, 0, 0, true⟩
  | .GLB_PORT_ROLE => ⟨0x50, 4, 2, 0, 1, 0, 0xFFFFFFFF, 0, 0, 0, 0, 0, 0, false⟩
  | .GLB_TEMP => ⟨0x60, 4, 8, 0, 1, 0x8FFF, 0, 0, 0, 0, 0, 0, 0, false⟩
  | .GLB_TEMP_CFG => ⟨0x80, 0, 1, 0, 1, 0, 0xFFF, 0, 0, 0, 0, 0, 0x348, false⟩
  | .GLB_TEMP_STATUS => ⟨0x84, 0, 1, 0, 1, 0xFF00, 0, 0xFF, 0, 0, 0, 0, 0, false⟩
  | .TIM_NOW => ⟨0x10000, 4, 2, 0, 1, 0xFFFFFFFF, 0, 0, 0, 0, 0, 0, 0, true⟩
  | .TIM_CTL => ⟨0x10010, 0, 1, 0, 1, 0, 0xFFFF000B, 0, 0, 0, 4, 0, 8, true⟩
  | .TIM_STATUS => ⟨0x10014, 0, 1, 0, 1, 0xFF01FF, 0, 0, 0, 0, 0, 0, 0xFF0178, true⟩
  | .TIM_PARENT => ⟨0x10018, 0, 1, 0, 1, 0x10000, 0x3F3F, 0, 0, 0, 0, 0, 0, true⟩
  | .TIM_LOOP => ⟨0x1001C, 0, 1, 0, 1, 0, 0xFFFFFF, 0, 0, 0, 0, 0, 0x80462, true⟩
  | .TIM_FREQ => ⟨0x10020, 0, 1, 0, 1, 0, 0xFFFFFFFF, 0, 0, 0, 0, 0, 0, true⟩
  | .TIM_OFFSET => ⟨0x10024, 0, 1, 0, 1, 0xFFFFFFFF, 0, 0, 0, 0, 0, 0, 0, true⟩
  | .TIM_DELAY => ⟨0x10028, 0, 1, 0, 1, 0xFFFFFFFF, 0, 0, 0, 0, 0, 0, 0, true⟩
  | .TIM_HOLD_CFG => ⟨0x1002C, 0, 1, 0, 1, 0, 0xFFFFFF, 0, 0, 0, 0, 0, 0x40064, true⟩
  | .TIM_SET => ⟨0x10030, 4, 2, 0, 1, 0, 0xFFFFFFFF, 0, 0, 0, 0, 0, 0, true⟩
  | .TIM_LATE_CNT => ⟨0x10038, 0, 1, 0, 1, 0, 0, 0, 0, 0, 0, 0xFFFFFFFF, 0, true⟩
  | .TIM_BAD_CNT => ⟨0x1003C, 0, 1, 0, 1, 0, 0, 0, 0, 0, 0, 0xFFFFFFFF, 0, true⟩
  | .TIM_ASYM => ⟨0x10100, 4, 32, 0, 1, 0, 0xFFFF, 0, 0, 0, 0, 0, 0, true⟩
  | .TIM_PEER_OFF => ⟨0x10180, 4, 32, 0, 1, 0x3FFFFFF, 0, 0, 0, 0, 0, 0, 0x2000000, true⟩
  | .CLK_STATUS => ⟨0x20000, 0, 1, 0, 1, 0x1FFFFF, 0, 0, 0, 0, 0, 0, 0x80000, true⟩
  | .CLK_MON_STATUS => ⟨0x20004, 0, 1, 0, 1, 0, 0, 0xFF3F, 0, 0, 0, 0, 0, true⟩
  | .CLK_CCLK_CTL => ⟨0x20008, 0, 1, 0, 1, 0, 0xF, 0, 0, 0, 0x10, 0, 0, false⟩
  | .CLK_OBS_CFG => ⟨0x2000C, 0, 1, 0, 1, 0, 0x800000FF, 0, 0, 0, 0, 0, 0, false⟩
  | .CLK_RST_CTL => ⟨0x20010, 0, 1, 0, 1, 0, 0, 0, 0, 0, 0xFF01, 0, 0, false⟩
  | .CLK_RESET_CAUSE => ⟨0x20014, 0, 1, 0, 1, 3, 0, 0, 0, 0, 0, 0, 0, true⟩
  | .CLK_BOOT_STATUS => ⟨0x20018, 0, 1, 0, 1, 0xFF, 0, 0, 0, 0, 0, 0, 0, true⟩
  | .CLK_BOOT_DOOR => ⟨0x2001C, 0, 1, 0, 1, 0, 0, 0, 0, 0, 0x80000000, 0, 0, false⟩
  | .LNK_CTL => ⟨0x100000, 0x4000, 32, 0, 1, 0, 1, 0, 0, 0, 0x3E, 0, 0, false⟩
  | .LNK_CFG => ⟨0x100004, 0x4000, 32, 0, 1, 0, 0xFF1F, 0, 0, 0, 0, 0, 0x1007, false⟩
  | .LNK_STATUS => ⟨0x100008, 0x4000, 32, 0, 1, 0xF7EFF, 0, 0x8100, 0, 0, 0, 0, 0, false⟩
  | .LNK_PARTNER => ⟨0x10000C, 0x4000, 32, 0, 1, 0xFFFFFFF, 0, 0, 0, 0, 0, 0, 0xFFFF, false⟩
  | .LNK_LANE_MAP => ⟨0x100010, 0x4000, 32, 4, 4, 0xFFFFFFFF, 0, 0, 0, 0, 0, 0, 0, false⟩
  | .LNK_LANE_STATUS => ⟨0x100020, 0x4000, 32, 0, 1, 0x3FFFF, 0, 0, 0, 0, 0, 0, 0, false⟩
  | .LNK_SPARE_STATUS => ⟨0x100024, 0x4000, 32, 0, 1, 0x3FFFF, 0, 0, 0, 0, 0, 0, 0, false⟩
  | .LNK_ERR_CFG => ⟨0x100028, 0x4000, 32, 0, 1, 0, 0xFFFFFFFF, 0, 0, 0, 0, 0, 0x40FF4010, false⟩
  | .LNK_SPARE_CTL => ⟨0x10002C, 0x4000, 32, 0, 1, 0, 0xF, 0, 0, 0, 0x80000000, 0, 0, false⟩
  | .LNK_CREDIT_CFG => ⟨0x100030, 0x4000, 32, 4, 8, 0, 0xFF03FF, 0, 0, 0, 0, 0, 0, false⟩
  | .LNK_CREDIT_STATUS => ⟨0x100050, 0x4000, 32, 4, 8, 0xFF03FF, 0, 0, 0, 0, 0, 0, 0, false⟩
  | .LNK_CNT => ⟨0x100080, 0x4000, 32, 4, 11, 0, 0, 0, 0, 0, 0, 0xFFFFFFFF, 0, false⟩
  | .LNK_SPARE_CNT => ⟨0x1000B0, 0x4000, 32, 0, 1, 0, 0, 0, 0, 0, 0, 0xFFFFFFFF, 0, false⟩
  | .LNK_WIDTH_CNT => ⟨0x1000B4, 0x4000, 32, 0, 1, 0, 0, 0, 0, 0, 0, 0xFFFFFFFF, 0, false⟩
  | .LNK_LANE_SER => ⟨0x100100, 0x4000, 32, 4, 18, 0xFFFFFF, 0, 0, 0, 0, 0, 0, 0, false⟩
  | .RTE_CFG => ⟨0x200000, 0, 1, 0, 1, 0, 0xFFFFFF, 0, 0, 0, 0, 0, 0x40030, false⟩
  | .RTE_THROTTLE => ⟨0x200004, 0, 1, 0, 1, 0, 0xFFFFFFF, 0, 0, 0, 0, 0, 0x2408040, false⟩
  | .RTE_STATUS => ⟨0x200008, 0, 1, 0, 1, 3, 0, 0xC, 0, 0, 0, 0, 0, false⟩
  | .RTE_DROP_CNT => ⟨0x200010, 4, 2, 0, 1, 0, 0, 0, 0, 0, 0, 0xFFFFFFFF, 0, false⟩
  | .RTE_TBL_IDX => ⟨0x200020, 0, 1, 0, 1, 0, 0x3FFFF, 0, 0, 0, 0, 0, 0, false⟩
  | .RTE_TBL_DATA => ⟨0x200024, 4, 4, 0, 1, 0, 0xFFFFFFFF, 0, 0, 0, 0, 0, 0, false⟩
  | .RTE_MC_IDX => ⟨0x200040, 0, 1, 0, 1, 0, 0x13FFF, 0, 0, 0, 0, 0, 0, false⟩
  | .RTE_MC_DATA => ⟨0x200044, 4, 11, 0, 1, 0, 0xFFFFFFFF, 0, 0, 0, 0, 0, 0, false⟩
  | .RTE_FENCE => ⟨0x201000, 4, 1536, 0, 1, 0xFFFFFFFF, 0, 0, 0, 0, 0, 0, 0, false⟩
  | .RTE_TX_MORTAR => ⟨0x210000, 0x100, 32, 4, 8, 0, 0, 0, 0, 0, 0, 0xFFFFFFFF, 0, false⟩
  | .RTE_TX_PALLET => ⟨0x210020, 0x100, 32, 0, 1, 0, 0, 0, 0, 0, 0, 0xFFFFFFFF, 0, false⟩
  | .RTE_TX_IDLE => ⟨0x210024, 0x100, 32, 0, 1, 0, 0, 0, 0, 0, 0, 0xFFFFFFFF, 0, false⟩
  | .RTE_TX_CTL => ⟨0x210028, 0x100, 32, 0, 1, 0, 0, 0, 0, 0, 0, 0xFFFFFFFF, 0, false⟩
  | .RTE_REROUTE_CNT => ⟨0x21002C, 0x100, 32, 0, 1, 0, 0, 0, 0, 0, 0, 0xFFFFFFFF, 0, false⟩
  | .RTE_STALL => ⟨0x210030, 0x100, 32, 4, 8, 0, 0, 0, 0, 0, 0, 0xFFFFFFFF, 0, false⟩
  | .RTE_QDEPTH => ⟨0x210050, 0x100, 32, 4, 8, 0xFFFF, 0, 0, 0, 0, 0, 0xFFFF0000, 0, false⟩
  | .RTE_THROTTLE_CYC => ⟨0x210070, 0x100, 32, 0, 1, 0, 0, 0, 0, 0, 0, 0xFFFFFFFF, 0, false⟩
  | .CIR_STATUS => ⟨0x280000, 0, 1, 0, 1, 3, 0, 0xC, 0, 0, 0, 0, 0, false⟩
  | .CIR_NOTICE => ⟨0x280004, 0, 1, 0, 1, 0, 0, 0, 0, 0, 0xFFFFFFFF, 0, 0, false⟩
  | .CIR_DEMOTE_CNT => ⟨0x280010, 0, 1, 0, 1, 0, 0, 0, 0, 0, 0, 0xFFFFFFFF, 0, false⟩
  | .CIR_DROP_CNT => ⟨0x280014, 0, 1, 0, 1, 0, 0, 0, 0, 0, 0, 0xFFFFFFFF, 0, false⟩
  | .CIR_NOTICE_CNT => ⟨0x280018, 0, 1, 0, 1, 0, 0, 0, 0, 0, 0, 0xFFFFFFFF, 0, false⟩
  | .CIR_PORT_DELAY => ⟨0x280100, 4, 32, 0, 1, 0x1FFFFFF, 0, 0, 0, 0, 0, 0, 0, false⟩
  | .CIR_OUT_SHADOW => ⟨0x290000, 0x400, 32, 4, 256, 0, 0x7FFF, 0, 0, 0, 0, 0, 0, false⟩
  | .CIR_IN_SHADOW => ⟨0x298000, 0x400, 32, 4, 256, 0, 0x7FFFFF, 0, 0, 0, 0, 0, 0, false⟩
  | .CIR_OUT_ACTIVE => ⟨0x2A0000, 0x400, 32, 4, 256, 0x7FFF, 0, 0, 0, 0, 0, 0, 0, false⟩
  | .CIR_IN_ACTIVE => ⟨0x2A8000, 0x400, 32, 4, 256, 0x7FFFFF, 0, 0, 0, 0, 0, 0, 0, false⟩
  | .CIR_PALLET_LEASE => ⟨0x2B0000, 0x10, 4096, 0, 1, 0xFF0000, 0x800003FF, 0, 0, 0, 0, 0, 0, false⟩
  | .CIR_PALLET_ENDS => ⟨0x2B0004, 0x10, 4096, 0, 1, 0, 0xFFFFFFFF, 0, 0, 0, 0, 0, 0xFFFFFFFF, false⟩
  | .CIR_PALLET_PORTS => ⟨0x2B0008, 0x10, 4096, 0, 1, 0xC0000, 0x3FFFF, 0, 0, 0, 0x100000, 0, 0x1D000, false⟩
  | .CIR_PALLET_CNT => ⟨0x2B000C, 0x10, 4096, 0, 1, 0, 0, 0, 0, 0, 0, 0xFFFFFFFF, 0, false⟩
  | .TRW_CTX_CFG => ⟨0x300000, 4, 576, 0, 1, 0xFF0000, 0x10003FF, 0, 0, 0, 0, 0, 0, false⟩
  | .TRW_CTX_STATUS => ⟨0x301000, 4, 576, 0, 1, 0xFFF7, 0, 0, 0, 0, 0, 0, 0, false⟩
  | .TRW_POLL_CFG => ⟨0x302000, 0, 1, 0, 1, 0, 0xFFFF, 0, 0, 0, 0, 0, 0x400, false⟩
  | .TRW_CODE => ⟨0x303000, 4, 513, 0, 1, 0, 0x803F3FFF, 0, 0, 0, 0, 0, 0, false⟩
  | .TRW_MOD0 => ⟨0x304000, 8, 16, 0, 1, 0x8000FFFF, 0, 0, 0, 0, 0, 0, 0, false⟩
  | .TRW_MOD1 => ⟨0x304004, 8, 16, 0, 1, 0xFFFFFFF, 0, 0, 0, 0, 0, 0, 0, false⟩
  | .TRW_STAGE0 => ⟨0x304100, 8, 2, 0, 1, 0, 0x3FFF, 0, 0, 0, 0x80000000, 0, 0, false⟩
  | .TRW_STAGE1 => ⟨0x304104, 8, 2, 0, 1, 0xFFFF0073, 0, 0x100, 0, 0, 0x80, 0, 0, false⟩
  | .TRW_LVS_CFG => ⟨0x304110, 0, 1, 0, 1, 0, 0xFF, 0, 0, 0, 0, 0, 0x40, false⟩
  | .HOD_CFG => ⟨0x400000, 4, 64, 0, 1, 0xFF0000, 0x800003FF, 0, 0, 0, 0, 0, 0, false⟩
  | .HOD_STATUS => ⟨0x400100, 4, 64, 0, 1, 0xFFFF, 0, 0, 0, 0, 0, 0, 0, false⟩
  | .HOD_XPORT_CFG => ⟨0x400200, 0, 1, 0, 1, 0, 0xFFFFF, 0, 0, 0, 0, 0, 0x70200, false⟩
  | .HOD_ROB_CFG => ⟨0x400204, 0, 1, 0, 1, 0, 0xFF, 0, 0, 0, 0, 0, 0x40, false⟩
  | .HOD_FLOW_RESET => ⟨0x400208, 0, 1, 0, 1, 0x40000000, 0xFFFF, 0, 0, 0, 0x80000000, 0, 0xFFFF, false⟩
  | .HOD_RX_RELEASE => ⟨0x40020C, 0, 1, 0, 1, 0, 0, 0, 0, 0, 0xFFFF, 0, 0, false⟩
  | .HOD_RX_STATUS => ⟨0x400210, 0, 1, 0, 1, 0, 0, 3, 0, 0, 0, 0, 0, false⟩
  | .HOD_PS_CFG => ⟨0x400214, 0, 1, 0, 1, 0, 0xFFFFFFFF, 0, 0, 0, 0, 0, 0, false⟩
  | .HOD_PS_TAGBASE_LO => ⟨0x400218, 0, 1, 0, 1, 0, 0xFFFFFFFF, 0, 0, 0, 0, 0, 0, false⟩
  | .HOD_PS_TAGBASE_HI => ⟨0x40021C, 0, 1, 0, 1, 0, 0xFFFFF, 0, 0, 0, 0, 0, 0, false⟩
  | .HOD_CNT => ⟨0x400220, 4, 8, 0, 1, 0, 0, 0, 0, 0, 0, 0xFFFFFFFF, 0, false⟩
  | .HOD_BROKEN_PEER => ⟨0x400240, 0, 1, 0, 1, 0xFFFF, 0, 0, 0, 0, 0, 0, 0xFFFF, false⟩
  | .HOD_PS_DIRBASE_LO => ⟨0x400248, 0, 1, 0, 1, 0, 0xFFFFFFFF, 0, 0, 0, 0, 0, 0, false⟩
  | .HOD_PS_DIRBASE_HI => ⟨0x40024C, 0, 1, 0, 1, 0, 0xFFFFF, 0, 0, 0, 0, 0, 0, false⟩
  | .HOD_RCB_CFG => ⟨0x400250, 0, 1, 0, 1, 0, 0x8000FFFF, 0, 0, 0, 0, 0, 0x80000040, false⟩
  | .HOD_RCB_HIT_CNT => ⟨0x400254, 0, 1, 0, 1, 0, 0, 0, 0, 0, 0, 0xFFFFFFFF, 0, false⟩
  | .HOD_RCB_MISS_CNT => ⟨0x400258, 0, 1, 0, 1, 0, 0, 0, 0, 0, 0, 0xFFFFFFFF, 0, false⟩
  | .HOD_RCB_INV_CNT => ⟨0x40025C, 0, 1, 0, 1, 0, 0, 0, 0, 0, 0, 0xFFFFFFFF, 0, false⟩
  | .HOD_RETIRE => ⟨0x400260, 4, 2, 0, 1, 0, 0xFFFFFFFF, 0, 0, 0, 0, 0, 0, false⟩
  | .HOD_MBOX_ADDR => ⟨0x410000, 0x20, 4104, 0, 1, 0, 0x3FFFFFFF, 0, 0, 0, 0, 0, 0, false⟩
  | .HOD_MBOX_RING_LO => ⟨0x410004, 0x20, 4104, 0, 1, 0, 0xFFFFF000, 0, 0, 0, 0, 0, 0, false⟩
  | .HOD_MBOX_RING_HI => ⟨0x410008, 0x20, 4104, 0, 1, 0, 0xFFFFF, 0, 0, 0, 0, 0, 0, false⟩
  | .HOD_MBOX_CFG => ⟨0x41000C, 0x20, 4104, 0, 1, 0, 0x8000FF1F, 0, 0, 0, 0, 0, 6, false⟩
  | .HOD_MBOX_TAIL => ⟨0x410010, 0x20, 4104, 0, 1, 0xFFFFFFFF, 0, 0, 0, 0, 0, 0, 0, false⟩
  | .HOD_MBOX_HEAD => ⟨0x410014, 0x20, 4104, 0, 1, 0, 0xFFFFFFFF, 0, 0, 0, 0, 0, 0, false⟩
  | .BND_BOND_CFG => ⟨0x500000, 0x20, 4096, 0, 1, 0, 0x80FF7FFF, 0, 0, 0, 0, 0, 0x80000, false⟩
  | .BND_BOND_MEM => ⟨0x500004, 0x20, 4096, 0, 1, 0, 0x1FFFFFFF, 0, 0, 0, 0, 0, 0, false⟩
  | .BND_BOND_EPOCH => ⟨0x500008, 0x20, 4096, 0, 1, 0, 0xFFFFFFFF, 0, 0, 0, 0, 0, 0, false⟩
  | .BND_BOND_BOX => ⟨0x50000C, 0x20, 4096, 0, 1, 0, 0xFFFFFF, 0, 0, 0, 0, 0, 0, false⟩
  | .BND_BOND_TREE => ⟨0x500010, 0x20, 4096, 0, 1, 0, 0x1FFFFF, 0, 0, 0, 0, 0, 0xFFFF, false⟩
  | .BND_BOND_STATUS => ⟨0x500014, 0x20, 4096, 0, 1, 0x7FFFF, 0, 0x80000, 0, 0, 0, 0, 0, false⟩
  | .BND_SLOT_CFG => ⟨0x520000, 0x10, 32, 0, 1, 0xFF0000, 0x800003FF, 0, 0, 0, 0, 0, 0, false⟩
  | .BND_SLOT_STORE => ⟨0x520004, 0x10, 32, 0, 1, 0, 0xFF, 0, 0, 0, 0, 0, 0, false⟩
  | .BND_SLOT_STATUS => ⟨0x520008, 0x10, 32, 0, 1, 0x7FFF, 0, 0, 0, 0, 0, 0, 0, false⟩
  | .BND_SLOT_STEP => ⟨0x52000C, 0x10, 32, 0, 1, 0xFFFFFFFF, 0, 0, 0, 0, 0, 0, 0, false⟩
  | .BND_VC_WEIGHT => ⟨0x520200, 0, 1, 0, 1, 0, 0xFFFFFFFF, 0, 0, 0, 0, 0, 0x11143231, false⟩
  | .BND_STORE_STATUS => ⟨0x520204, 0, 1, 0, 1, 0xFFFF, 0, 0x10000, 0, 0, 0, 0, 0xA0, false⟩
  | .BND_CNT => ⟨0x520210, 4, 6, 0, 1, 0, 0, 0, 0, 0, 0, 0xFFFFFFFF, 0, false⟩
  | .BND_INEXACT_CNT => ⟨0x520228, 0, 1, 0, 1, 0, 0, 0, 0, 0, 0, 0xFFFFFFFF, 0, false⟩
  | .BND_SAT_CNT => ⟨0x52022C, 0, 1, 0, 1, 0, 0, 0, 0, 0, 0, 0xFFFFFFFF, 0, false⟩
  | .BND_MEMBER => ⟨0x540000, 4, 65536, 0, 1, 0, 0xFFFFFFFF, 0, 0, 0, 0, 0, 0xFFFFFFFF, false⟩
  | .KLN_SLOT_CFG => ⟨0x580000, 4, 256, 0, 1, 0xFF0000, 0x800003FF, 0, 0, 0, 0, 0, 0, false⟩
  | .KLN_SLOT_STATUS => ⟨0x580400, 4, 256, 0, 1, 0x3FFFFF, 0, 0, 0, 0, 0, 0, 0, false⟩
  | .KLN_CLUSTER_STATUS => ⟨0x580800, 4, 20, 0, 1, 0x1FF1F, 0, 0, 0, 0, 0, 0, 0, false⟩
  | .KLN_UNIT_CNT => ⟨0x580900, 0, 1, 0, 1, 0, 0, 0, 0, 0, 0, 0xFFFFFFFF, 0, false⟩
  | .KLN_THROTTLE_CNT => ⟨0x580904, 0, 1, 0, 1, 0, 0, 0, 0, 0, 0, 0xFFFFFFFF, 0, false⟩
  | .KLN_OUTMAX_CNT => ⟨0x580908, 0, 1, 0, 1, 0, 0, 0, 0, 0, 0, 0xFFFFFFFF, 0, false⟩
  | .KLN_TREE => ⟨0x581000, 4, 4096, 0, 1, 0, 0x8000FFFF, 0, 0, 0, 0, 0, 0, false⟩
  | .KLN_PROG => ⟨0x590000, 0x200, 256, 4, 128, 0xFFFFFFFF, 0, 0, 0, 0, 0, 0, 0, false⟩
  | .KLN_PARAM => ⟨0x5B0000, 0x40, 256, 4, 16, 0xFFFFFFFF, 0, 0, 0, 0, 0, 0, 0, false⟩
  | .TEN_VIEW_CFG => ⟨0x600000, 4, 512, 0, 1, 0, 0x83FF07FF, 0, 0, 0, 0, 0, 0, false⟩
  | .TEN_VIEW_ERR => ⟨0x600800, 0, 1, 0, 1, 0, 0, 3, 0, 0, 0, 0, 0, false⟩
  | .SEC_TEN_CFG => ⟨0x601000, 4, 512, 0, 1, 0x37C, 0x83, 0, 0, 0, 0, 0, 0, false⟩
  | .SEC_KEY_NUM => ⟨0x602000, 8, 512, 4, 2, 0xFFFFFFFF, 0, 0, 0, 0, 0, 0, 0, false⟩
  | .SEC_KX_CTL => ⟨0x603000, 0, 1, 0, 1, 0x400F0000, 0x3FFF, 0, 0, 0, 0x80000000, 0, 0, false⟩
  | .SEC_SWEEP_CMD => ⟨0x603004, 0, 1, 0, 1, 0x40000000, 0x7FFFFFF, 0, 0, 0, 0x80000000, 0, 0, false⟩
  | .SEC_STATUS => ⟨0x603008, 0, 1, 0, 1, 1, 0, 0x7E, 0, 0, 0, 0, 0, false⟩
  | .SEC_SCRUB_CFG => ⟨0x60300C, 0, 1, 0, 1, 0, 0xFF, 0, 0, 0, 0, 0, 0x10, false⟩
  | .SEC_TAG_FAIL_CNT => ⟨0x603010, 0, 1, 0, 1, 0, 0, 0, 0, 0, 0, 0xFFFFFFFF, 0, false⟩
  | .SEC_NOKEY_CNT => ⟨0x603014, 0, 1, 0, 1, 0, 0, 0, 0, 0, 0, 0xFFFFFFFF, 0, false⟩
  | .SEC_RETIRED_CNT => ⟨0x603018, 0, 1, 0, 1, 0, 0, 0, 0, 0, 0, 0xFFFFFFFF, 0, false⟩
  | .SEC_KX_DATA => ⟨0x603100, 4, 32, 0, 1, 0, 0xFFFFFFFF, 0, 0, 0, 0, 0, 0, false⟩
  | .SEC_REPORT => ⟨0x604000, 4, 216, 0, 1, 0xFFFFFFFF, 0, 0, 0, 0, 0, 0, 0, false⟩
  | .SEC_ALIAS => ⟨0x604400, 4, 96, 0, 1, 0xFFFFFFFF, 0, 0, 0, 0, 0, 0, 0, false⟩
  | .TEN_SQ_BASE_LO => ⟨0x610000, 0x20, 4104, 0, 1, 0, 0xFFFFF000, 0, 0, 0, 0, 0, 0, false⟩
  | .TEN_SQ_BASE_HI => ⟨0x610004, 0x20, 4104, 0, 1, 0, 0xFFFFFF, 0, 0, 0, 0, 0, 0, false⟩
  | .TEN_SQ_CFG => ⟨0x610008, 0x20, 4104, 0, 1, 0, 0x8003FFFF, 0, 0, 0, 0, 0, 6, false⟩
  | .TEN_SQ_SEQ => ⟨0x61000C, 0x20, 4104, 0, 1, 0, 0xFFFFFFFF, 0, 0, 0, 0, 0, 0, false⟩
  | .TEN_SQ_DONE => ⟨0x610010, 0x20, 4104, 0, 1, 0xFFFFFFFF, 0, 0, 0, 0, 0, 0, 0xFFFFFFFF, false⟩
  | .TEN_SQ_STATUS => ⟨0x610014, 0x20, 4104, 0, 1, 3, 0, 0xFC, 0, 0, 0, 0, 0, false⟩
  | .TEN_SQ_CTL => ⟨0x610018, 0x20, 4104, 0, 1, 0, 0, 0, 0, 0, 1, 0, 0, false⟩
  | .TEN_SQ_HEAD => ⟨0x61001C, 0x20, 4104, 0, 1, 0xFFFFFFFF, 0, 0, 0, 0, 0, 0, 0, false⟩
  | .TEN_WIN_BASE_LO => ⟨0x631000, 0x40, 512, 0x10, 4, 0, 0xFFFFF000, 0, 0, 0, 0, 0, 0, false⟩
  | .TEN_WIN_BASE_HI => ⟨0x631004, 0x40, 512, 0x10, 4, 0, 0xFFFFFF, 0, 0, 0, 0, 0, 0, false⟩
  | .TEN_WIN_LIMIT_LO => ⟨0x631008, 0x40, 512, 0x10, 4, 0, 0xFFFFF000, 0, 0, 0, 0, 0, 0, false⟩
  | .TEN_WIN_LIMIT_HI => ⟨0x63100C, 0x40, 512, 0x10, 4, 0, 0x8F0FFFFF, 0, 0, 0, 0, 0, 0, false⟩
  | .TEN_CQ_BASE_LO => ⟨0x640000, 0x20, 4104, 0, 1, 0, 0xFFFFF000, 0, 0, 0, 0, 0, 0, false⟩
  | .TEN_CQ_BASE_HI => ⟨0x640004, 0x20, 4104, 0, 1, 0, 0xFFFFFF, 0, 0, 0, 0, 0, 0, false⟩
  | .TEN_CQ_CFG => ⟨0x640008, 0x20, 4104, 0, 1, 0, 0x8000001F, 0, 0, 0, 0, 0, 6, false⟩
  | .TEN_CQ_STATUS => ⟨0x64000C, 0x20, 4104, 0, 1, 1, 0, 0xE, 0, 0, 0, 0xFFFF0000, 0, false⟩
  | .TEN_CQ_TAIL => ⟨0x640010, 0x20, 4104, 0, 1, 0xFFFFFFFF, 0, 0, 0, 0, 0, 0, 0, false⟩
  | .TEN_CQ_HEAD => ⟨0x640014, 0x20, 4104, 0, 1, 0xFFFFFFFF, 0, 0, 0, 0, 0, 0, 0, false⟩
  | .TEN_DB => ⟨0x670000, 4, 8208, 0, 1, 0, 0, 0, 0, 0, 0xFFFFFFFF, 0, 0, false⟩
  | .TEN_VIEW_ENTRY => ⟨0x680000, 4, 131072, 0, 1, 0, 0x3FFFFF, 0, 0, 0, 0, 0, 0xFFFF, false⟩
  | .OBS_PORT_TX => ⟨0x700000, 0x10, 32, 4, 2, 0xFFFFFFFF, 0, 0, 0, 0, 0, 0, 0, false⟩
  | .OBS_PORT_RX => ⟨0x700008, 0x10, 32, 4, 2, 0xFFFFFFFF, 0, 0, 0, 0, 0, 0, 0, false⟩
  | .OBS_TU_RD => ⟨0x700200, 4, 2, 0, 1, 0xFFFFFFFF, 0, 0, 0, 0, 0, 0, 0, false⟩
  | .OBS_TU_WR => ⟨0x700208, 4, 2, 0, 1, 0xFFFFFFFF, 0, 0, 0, 0, 0, 0, 0, false⟩
  | .OBS_ISSUE => ⟨0x700210, 4, 2, 0, 1, 0xFFFFFFFF, 0, 0, 0, 0, 0, 0, 0, false⟩
  | .OBS_HOD_BYTES => ⟨0x700218, 4, 2, 0, 1, 0xFFFFFFFF, 0, 0, 0, 0, 0, 0, 0, false⟩
  | .OBS_BND_BLOCKS => ⟨0x700220, 4, 2, 0, 1, 0xFFFFFFFF, 0, 0, 0, 0, 0, 0, 0, false⟩
  | .OBS_CCLK => ⟨0x700228, 4, 2, 0, 1, 0xFFFFFFFF, 0, 0, 0, 0, 0, 0, 0, false⟩
  | .OBS_CTR_SEL0 => ⟨0x701000, 0x10, 256, 0, 1, 0, 0x87FFFFFF, 0, 0, 0, 0, 0, 0xFFFF00, false⟩
  | .OBS_CTR_SEL1 => ⟨0x701004, 0x10, 256, 0, 1, 0, 0xFF03FF, 0, 0, 0, 0, 0, 0, false⟩
  | .OBS_CTR_SEL2 => ⟨0x701008, 0x10, 256, 0, 1, 0, 0xFFFFFFFF, 0, 0, 0, 0, 0, 0, false⟩
  | .OBS_CTR_SEL3 => ⟨0x70100C, 0x10, 256, 0, 1, 0, 0xFFFFFFFF, 0, 0, 0, 0, 0, 0, false⟩
  | .OBS_CTR => ⟨0x702000, 8, 256, 4, 2, 0, 0xFFFFFFFF, 0, 0, 0, 0, 0, 0, false⟩
  | .OBS_CTR_FROZEN => ⟨0x703000, 0x10, 256, 4, 2, 0xFFFFFFFF, 0, 0, 0, 0, 0, 0, 0, false⟩
  | .OBS_CTR_FROZEN_TEN => ⟨0x703008, 0x10, 256, 0, 1, 0x3FF, 0, 0, 0, 0, 0, 0, 0, false⟩
  | .OBS_CTR_UNIT => ⟨0x70300C, 0x10, 256, 0, 1, 0, 0xFFFF, 0, 0, 0, 0, 0, 0, false⟩
  | .OBS_CENSUS_CFG => ⟨0x704000, 0, 1, 0, 1, 0, 0x80003FFF, 0, 0, 0, 0, 0, 0, false⟩
  | .OBS_CENSUS_TAG_VAL => ⟨0x704004, 0, 1, 0, 1, 0, 0xFFFFFFFF, 0, 0, 0, 0, 0, 0, false⟩
  | .OBS_CENSUS_TAG_MASK => ⟨0x704008, 0, 1, 0, 1, 0, 0xFFFFFFFF, 0, 0, 0, 0, 0, 0, false⟩
  | .OBS_SMP_BASE_LO => ⟨0x704100, 0x20, 8, 0, 1, 0, 0xFFFFFFE0, 0, 0, 0, 0, 0, 0, false⟩
  | .OBS_SMP_BASE_HI => ⟨0x704104, 0x20, 8, 0, 1, 0, 0xFFFFFF, 0, 0, 0, 0, 0, 0, false⟩
  | .OBS_SMP_CFG => ⟨0x704108, 0x20, 8, 0, 1, 0, 0x803FFFFF, 0, 0, 0, 0, 0, 0x2006, false⟩
  | .OBS_SMP_INT => ⟨0x70410C, 0x20, 8, 0, 1, 0, 0x3FFFFFF, 0, 0, 0, 0, 0, 0x2000010, false⟩
  | .OBS_SMP_TAIL => ⟨0x704110, 0x20, 8, 0, 1, 0xFFFFFFFF, 0, 0, 0, 0, 0, 0, 0, false⟩
  | .OBS_SMP_HEAD => ⟨0x704114, 0x20, 8, 0, 1, 0, 0xFFFFFFFF, 0, 0, 0, 0, 0, 0, false⟩
  | .OBS_PCS_BASE_LO => ⟨0x704200, 0, 1, 0, 1, 0, 0xFFFFFFE0, 0, 0, 0, 0, 0, 0, false⟩
  | .OBS_PCS_BASE_HI => ⟨0x704204, 0, 1, 0, 1, 0, 0xFFFFFF, 0, 0, 0, 0, 0, 0, false⟩
  | .OBS_PCS_CFG => ⟨0x704208, 0, 1, 0, 1, 0, 0x8000001F, 0, 0, 0, 0, 0, 6, false⟩
  | .OBS_PCS_SHIFT => ⟨0x70420C, 0, 1, 0, 1, 0, 0x3FF001F, 0, 0, 0, 0, 0, 0x200000E, false⟩
  | .OBS_PCS_TAIL => ⟨0x704210, 0, 1, 0, 1, 0xFFFFFFFF, 0, 0, 0, 0, 0, 0, 0, false⟩
  | .OBS_PCS_HEAD => ⟨0x704214, 0, 1, 0, 1, 0, 0xFFFFFFFF, 0, 0, 0, 0, 0, 0, false⟩
  | .OBS_TRC_CFG => ⟨0x704400, 0x40, 4, 0, 1, 0, 0x7FFFFF, 0, 0, 0, 0, 0, 0x200, false⟩
  | .OBS_TRC_TAG_VAL => ⟨0x704404, 0x40, 4, 0, 1, 0, 0xFFFFFFFF, 0, 0, 0, 0, 0, 0, false⟩
  | .OBS_TRC_TAG_MASK => ⟨0x704408, 0x40, 4, 0, 1, 0, 0xFFFFFFFF, 0, 0, 0, 0, 0, 0, false⟩
  | .OBS_TRC_PORT_MASK => ⟨0x70440C, 0x40, 4, 0, 1, 0, 0xFFFFFFFF, 0, 0, 0, 0, 0, 0, false⟩
  | .OBS_TRC_TRIG => ⟨0x704410, 0x40, 4, 0, 1, 0, 0xFF0FFF, 0, 0, 0, 0, 0, 0, false⟩
  | .OBS_TRC_CTL => ⟨0x704414, 0x40, 4, 0, 1, 0, 0, 0, 0, 0, 0x1F, 0, 0, false⟩
  | .OBS_TRC_STATUS => ⟨0x704418, 0x40, 4, 0, 1, 0x3FFFF, 0, 0, 0, 0, 0, 0x3FC0000, 0, false⟩
  | .OBS_TRC_LOST => ⟨0x70441C, 0x40, 4, 0, 1, 0, 0, 0, 0, 0, 0, 0xFFFFFFFF, 0, false⟩
  | .OBS_DRN_BASE_LO => ⟨0x704420, 0x40, 4, 0, 1, 0, 0xFFFFFFE0, 0, 0, 0, 0, 0, 0, false⟩
  | .OBS_DRN_BASE_HI => ⟨0x704424, 0x40, 4, 0, 1, 0, 0xFFFFFF, 0, 0, 0, 0, 0, 0, false⟩
  | .OBS_DRN_CFG => ⟨0x704428, 0x40, 4, 0, 1, 0, 0x8000001F, 0, 0, 0, 0, 0, 6, false⟩
  | .OBS_DRN_TAIL => ⟨0x704430, 0x40, 4, 0, 1, 0xFFFFFFFF, 0, 0, 0, 0, 0, 0, 0, false⟩
  | .OBS_DRN_HEAD => ⟨0x704434, 0x40, 4, 0, 1, 0, 0xFFFFFFFF, 0, 0, 0, 0, 0, 0, false⟩
  | .OBS_WP_BASE_LO => ⟨0x705000, 0x20, 64, 0, 1, 0, 0xFFFFFFFF, 0, 0, 0, 0, 0, 0, false⟩
  | .OBS_WP_BASE_HI => ⟨0x705004, 0x20, 64, 0, 1, 0, 0xFFFFFF, 0, 0, 0, 0, 0, 0, false⟩
  | .OBS_WP_LIMIT_LO => ⟨0x705008, 0x20, 64, 0, 1, 0, 0xFFFFFFFF, 0, 0, 0, 0, 0, 0, false⟩
  | .OBS_WP_LIMIT_HI => ⟨0x70500C, 0x20, 64, 0, 1, 0, 0xFFFFF, 0, 0, 0, 0, 0, 0, false⟩
  | .OBS_WP_CFG => ⟨0x705010, 0x20, 64, 0, 1, 0, 0x80003FFF, 0, 0, 0, 0, 0, 0, false⟩
  | .OBS_WP_TEN => ⟨0x705014, 0x20, 64, 0, 1, 0, 0x3FF, 0, 0, 0, 0, 0, 0, false⟩
  | .OBS_WP_HIT => ⟨0x705018, 0x20, 64, 0, 1, 0, 0, 0, 0, 0, 0, 0xFFFFFFFF, 0, false⟩
  | .OBS_BP0 => ⟨0x706000, 8, 16, 0, 1, 0, 0x80000FFF, 0, 0, 0, 0, 0, 0, false⟩
  | .OBS_BP1 => ⟨0x706004, 8, 16, 0, 1, 0, 0x7FFF, 0, 0, 0, 0, 0, 0, false⟩
  | .OBS_DBG_CTL => ⟨0x706100, 0, 1, 0, 1, 0, 0x3FF, 0, 0, 0, 0x1C00, 0, 0, false⟩
  | .OBS_DBG_STATUS => ⟨0x706104, 0, 1, 0, 1, 0xFF3, 0, 0, 0, 0, 0, 0, 0, false⟩
  | .OBS_STATUS => ⟨0x706108, 0, 1, 0, 1, 0, 0, 0xF, 0, 0, 0, 0, 0, false⟩
  | .OBS_DBG_REG => ⟨0x706200, 4, 384, 0, 1, 0, 0xFFFFFFFF, 0, 0, 0, 0, 0, 0, false⟩
  | .OBS_TRC_BUF => ⟨0x740000, 0x40000, 4, 4, 65536, 0xFFFFFFFF, 0, 0, 0, 0, 0, 0, 0, false⟩
  | .FLT_SEV => ⟨0x780000, 4, 128, 0, 1, 0, 3, 0, 0, 0, 0, 0xFF00, 0, true⟩
  | .FLT_PEND => ⟨0x780200, 4, 4, 0, 1, 0, 0, 0xFFFFFFFF, 0, 0, 0, 0, 0, true⟩
  | .FLT_FIRST => ⟨0x780210, 0, 1, 0, 1, 0x4000077F, 0, 0x80000000, 0, 0, 0, 0, 0, true⟩
  | .FLT_FIRST_TIME => ⟨0x780214, 4, 2, 0, 1, 0xFFFFFFFF, 0, 0, 0, 0, 0, 0, 0, true⟩
  | .FLT_SW_RAISE => ⟨0x780220, 0, 1, 0, 1, 0, 0, 0, 0, 0, 0x7F, 0, 0, false⟩
  | .SPW_INFO => ⟨0x840000, 0, 1, 0, 1, 0xFFFFFF, 0, 0, 0, 0, 0, 0, 0x400300, false⟩
  | .SPW_ECC_CE_CNT => ⟨0x840004, 0, 1, 0, 1, 0, 0, 0, 0, 0, 0, 0xFFFFFFFF, 0, false⟩
  | .SPW_ECC_UE_CNT => ⟨0x840008, 0, 1, 0, 1, 0, 0, 0, 0, 0, 0, 0xFFFFFFFF, 0, false⟩
  | .SPW_ECC_LOC => ⟨0x84000C, 0, 1, 0, 1, 0xFFFFFFF, 0, 0x80000000, 0, 0, 0, 0, 0, false⟩
  | .OPT_PORT_CFG => ⟨0x900000, 4, 32, 0, 1, 0, 0, 0, 0, 1, 0, 0, 0, true⟩
  | .OPT_PORT_STATUS => ⟨0x900080, 4, 32, 0, 1, 0x3FFFFF, 0, 0, 0, 0, 0, 0, 0x200000, false⟩
  | .OPT_LM_CFG => ⟨0x901000, 0x100, 8, 0, 1, 0, 0xFFFFFF07, 0, 0, 0, 0, 0, 0x140A4004, false⟩
  | .OPT_LM_STATUS => ⟨0x901004, 0x100, 8, 0, 1, 0xFCF, 0, 0x30, 0, 0, 0, 0, 0, false⟩
  | .OPT_LM_HOURS => ⟨0x901008, 0x100, 8, 0, 1, 0, 0xFFFFFFFF, 0, 0, 0, 0, 0, 0, false⟩
  | .OPT_LM_HOURS_LIM => ⟨0x90100C, 0x100, 8, 0, 1, 0, 0xFFFFFFFF, 0, 0, 0, 0, 0, 0xC3509C40, false⟩
  | .OPT_LM_BIAS => ⟨0x901010, 0x100, 8, 4, 6, 0xFFFF, 0xFFFF0000, 0, 0, 0, 0, 0, 0, false⟩
  | .OPT_LM_DRIFT => ⟨0x901028, 0x100, 8, 0, 1, 0x7FF, 0, 0, 0, 0, 0, 0, 0, false⟩
  | .OPT_LM_ID => ⟨0x901040, 0x100, 8, 4, 14, 0xFFFFFFFF, 0, 0, 0, 0, 0, 0, 0, false⟩
  | .OPT_LM_CMD => ⟨0x901080, 0x100, 8, 0, 1, 0x40000000, 0x1FFFFFF, 0, 0, 0, 0x80000000, 0, 0, false⟩
  | .OPT_LM_CMD_RD => ⟨0x901084, 0x100, 8, 0, 1, 0xFF, 0, 0x100, 0, 0, 0, 0, 0, false⟩

/-- Every register name, in the order of the map, in parts. -/
def regAll0 : List RegName :=
  [.GLB_IDCODE, .GLB_ID, .GLB_ACCESS_ERR, .GLB_ACCESS_ERR_INFO, .GLB_ACCESS_ERR_DOM, .GLB_LOCK, .GLB_SCALE_CLASS, .GLB_FLAT_ID, .GLB_COORD, .GLB_TORUS_DIM, .GLB_PORT_ROLE, .GLB_TEMP, .GLB_TEMP_CFG, .GLB_TEMP_STATUS, .TIM_NOW, .TIM_CTL, .TIM_STATUS, .TIM_PARENT, .TIM_LOOP, .TIM_FREQ, .TIM_OFFSET, .TIM_DELAY, .TIM_HOLD_CFG, .TIM_SET]

def regAll1 : List RegName :=
  [.TIM_LATE_CNT, .TIM_BAD_CNT, .TIM_ASYM, .TIM_PEER_OFF, .CLK_STATUS, .CLK_MON_STATUS, .CLK_CCLK_CTL, .CLK_OBS_CFG, .CLK_RST_CTL, .CLK_RESET_CAUSE, .CLK_BOOT_STATUS, .CLK_BOOT_DOOR, .LNK_CTL, .LNK_CFG, .LNK_STATUS, .LNK_PARTNER, .LNK_LANE_MAP, .LNK_LANE_STATUS, .LNK_SPARE_STATUS, .LNK_ERR_CFG, .LNK_SPARE_CTL, .LNK_CREDIT_CFG, .LNK_CREDIT_STATUS, .LNK_CNT]

def regAll2 : List RegName :=
  [.LNK_SPARE_CNT, .LNK_WIDTH_CNT, .LNK_LANE_SER, .RTE_CFG, .RTE_THROTTLE, .RTE_STATUS, .RTE_DROP_CNT, .RTE_TBL_IDX, .RTE_TBL_DATA, .RTE_MC_IDX, .RTE_MC_DATA, .RTE_FENCE, .RTE_TX_MORTAR, .RTE_TX_PALLET, .RTE_TX_IDLE, .RTE_TX_CTL, .RTE_REROUTE_CNT, .RTE_STALL, .RTE_QDEPTH, .RTE_THROTTLE_CYC, .CIR_STATUS, .CIR_NOTICE, .CIR_DEMOTE_CNT, .CIR_DROP_CNT]

def regAll3 : List RegName :=
  [.CIR_NOTICE_CNT, .CIR_PORT_DELAY, .CIR_OUT_SHADOW, .CIR_IN_SHADOW, .CIR_OUT_ACTIVE, .CIR_IN_ACTIVE, .CIR_PALLET_LEASE, .CIR_PALLET_ENDS, .CIR_PALLET_PORTS, .CIR_PALLET_CNT, .TRW_CTX_CFG, .TRW_CTX_STATUS, .TRW_POLL_CFG, .TRW_CODE, .TRW_MOD0, .TRW_MOD1, .TRW_STAGE0, .TRW_STAGE1, .TRW_LVS_CFG, .HOD_CFG, .HOD_STATUS, .HOD_XPORT_CFG, .HOD_ROB_CFG, .HOD_FLOW_RESET]

def regAll4 : List RegName :=
  [.HOD_RX_RELEASE, .HOD_RX_STATUS, .HOD_PS_CFG, .HOD_PS_TAGBASE_LO, .HOD_PS_TAGBASE_HI, .HOD_CNT, .HOD_BROKEN_PEER, .HOD_PS_DIRBASE_LO, .HOD_PS_DIRBASE_HI, .HOD_RCB_CFG, .HOD_RCB_HIT_CNT, .HOD_RCB_MISS_CNT, .HOD_RCB_INV_CNT, .HOD_RETIRE, .HOD_MBOX_ADDR, .HOD_MBOX_RING_LO, .HOD_MBOX_RING_HI, .HOD_MBOX_CFG, .HOD_MBOX_TAIL, .HOD_MBOX_HEAD, .BND_BOND_CFG, .BND_BOND_MEM, .BND_BOND_EPOCH, .BND_BOND_BOX]

def regAll5 : List RegName :=
  [.BND_BOND_TREE, .BND_BOND_STATUS, .BND_SLOT_CFG, .BND_SLOT_STORE, .BND_SLOT_STATUS, .BND_SLOT_STEP, .BND_VC_WEIGHT, .BND_STORE_STATUS, .BND_CNT, .BND_INEXACT_CNT, .BND_SAT_CNT, .BND_MEMBER, .KLN_SLOT_CFG, .KLN_SLOT_STATUS, .KLN_CLUSTER_STATUS, .KLN_UNIT_CNT, .KLN_THROTTLE_CNT, .KLN_OUTMAX_CNT, .KLN_TREE, .KLN_PROG, .KLN_PARAM, .TEN_VIEW_CFG, .TEN_VIEW_ERR, .SEC_TEN_CFG]

def regAll6 : List RegName :=
  [.SEC_KEY_NUM, .SEC_KX_CTL, .SEC_SWEEP_CMD, .SEC_STATUS, .SEC_SCRUB_CFG, .SEC_TAG_FAIL_CNT, .SEC_NOKEY_CNT, .SEC_RETIRED_CNT, .SEC_KX_DATA, .SEC_REPORT, .SEC_ALIAS, .TEN_SQ_BASE_LO, .TEN_SQ_BASE_HI, .TEN_SQ_CFG, .TEN_SQ_SEQ, .TEN_SQ_DONE, .TEN_SQ_STATUS, .TEN_SQ_CTL, .TEN_SQ_HEAD, .TEN_WIN_BASE_LO, .TEN_WIN_BASE_HI, .TEN_WIN_LIMIT_LO, .TEN_WIN_LIMIT_HI, .TEN_CQ_BASE_LO]

def regAll7 : List RegName :=
  [.TEN_CQ_BASE_HI, .TEN_CQ_CFG, .TEN_CQ_STATUS, .TEN_CQ_TAIL, .TEN_CQ_HEAD, .TEN_DB, .TEN_VIEW_ENTRY, .OBS_PORT_TX, .OBS_PORT_RX, .OBS_TU_RD, .OBS_TU_WR, .OBS_ISSUE, .OBS_HOD_BYTES, .OBS_BND_BLOCKS, .OBS_CCLK, .OBS_CTR_SEL0, .OBS_CTR_SEL1, .OBS_CTR_SEL2, .OBS_CTR_SEL3, .OBS_CTR, .OBS_CTR_FROZEN, .OBS_CTR_FROZEN_TEN, .OBS_CTR_UNIT, .OBS_CENSUS_CFG]

def regAll8 : List RegName :=
  [.OBS_CENSUS_TAG_VAL, .OBS_CENSUS_TAG_MASK, .OBS_SMP_BASE_LO, .OBS_SMP_BASE_HI, .OBS_SMP_CFG, .OBS_SMP_INT, .OBS_SMP_TAIL, .OBS_SMP_HEAD, .OBS_PCS_BASE_LO, .OBS_PCS_BASE_HI, .OBS_PCS_CFG, .OBS_PCS_SHIFT, .OBS_PCS_TAIL, .OBS_PCS_HEAD, .OBS_TRC_CFG, .OBS_TRC_TAG_VAL, .OBS_TRC_TAG_MASK, .OBS_TRC_PORT_MASK, .OBS_TRC_TRIG, .OBS_TRC_CTL, .OBS_TRC_STATUS, .OBS_TRC_LOST, .OBS_DRN_BASE_LO, .OBS_DRN_BASE_HI]

def regAll9 : List RegName :=
  [.OBS_DRN_CFG, .OBS_DRN_TAIL, .OBS_DRN_HEAD, .OBS_WP_BASE_LO, .OBS_WP_BASE_HI, .OBS_WP_LIMIT_LO, .OBS_WP_LIMIT_HI, .OBS_WP_CFG, .OBS_WP_TEN, .OBS_WP_HIT, .OBS_BP0, .OBS_BP1, .OBS_DBG_CTL, .OBS_DBG_STATUS, .OBS_STATUS, .OBS_DBG_REG, .OBS_TRC_BUF, .FLT_SEV, .FLT_PEND, .FLT_FIRST, .FLT_FIRST_TIME, .FLT_SW_RAISE, .SPW_INFO, .SPW_ECC_CE_CNT]

def regAll10 : List RegName :=
  [.SPW_ECC_UE_CNT, .SPW_ECC_LOC, .OPT_PORT_CFG, .OPT_PORT_STATUS, .OPT_LM_CFG, .OPT_LM_STATUS, .OPT_LM_HOURS, .OPT_LM_HOURS_LIM, .OPT_LM_BIAS, .OPT_LM_DRIFT, .OPT_LM_ID, .OPT_LM_CMD, .OPT_LM_CMD_RD]

/-- Every register name, in the order of the map. -/
def regAll : List RegName := List.flatten [regAll0, regAll1, regAll2, regAll3, regAll4, regAll5, regAll6, regAll7, regAll8, regAll9, regAll10]

def GLB_IDCODE.CODE : Fld := ⟨.GLB_IDCODE, 0, 32⟩
def GLB_ID.PERSONA : Fld := ⟨.GLB_ID, 0, 2⟩
def GLB_ID.PERSONA_CAP : Fld := ⟨.GLB_ID, 2, 3⟩
def GLB_ID.LG_CAP : Fld := ⟨.GLB_ID, 5, 3⟩
def GLB_ID.TU_CAP : Fld := ⟨.GLB_ID, 8, 2⟩
def GLB_ID.TU_GEN : Fld := ⟨.GLB_ID, 10, 1⟩
def GLB_ID.REVISION : Fld := ⟨.GLB_ID, 16, 8⟩
def GLB_ACCESS_ERR.RSVD_FIELD : Fld := ⟨.GLB_ACCESS_ERR, 0, 1⟩
def GLB_ACCESS_ERR.RSVD_ENC : Fld := ⟨.GLB_ACCESS_ERR, 1, 1⟩
def GLB_ACCESS_ERR.BUSY : Fld := ⟨.GLB_ACCESS_ERR, 2, 1⟩
def GLB_ACCESS_ERR.TOPO : Fld := ⟨.GLB_ACCESS_ERR, 3, 1⟩
def GLB_ACCESS_ERR.PERSONA : Fld := ⟨.GLB_ACCESS_ERR, 4, 1⟩
def GLB_ACCESS_ERR.UNMAPPED : Fld := ⟨.GLB_ACCESS_ERR, 5, 1⟩
def GLB_ACCESS_ERR.DOMAIN : Fld := ⟨.GLB_ACCESS_ERR, 6, 1⟩
def GLB_ACCESS_ERR_INFO.PATH : Fld := ⟨.GLB_ACCESS_ERR_INFO, 0, 2⟩
def GLB_ACCESS_ERR_INFO.OFFSET : Fld := ⟨.GLB_ACCESS_ERR_INFO, 2, 22⟩
def GLB_ACCESS_ERR_INFO.WRITE : Fld := ⟨.GLB_ACCESS_ERR_INFO, 24, 1⟩
def GLB_ACCESS_ERR_INFO.BOOT : Fld := ⟨.GLB_ACCESS_ERR_INFO, 25, 1⟩
def GLB_ACCESS_ERR_INFO.VALID : Fld := ⟨.GLB_ACCESS_ERR_INFO, 31, 1⟩
def GLB_ACCESS_ERR_DOM.DOMAIN : Fld := ⟨.GLB_ACCESS_ERR_DOM, 0, 10⟩
def GLB_LOCK.TOPO : Fld := ⟨.GLB_LOCK, 0, 1⟩
def GLB_LOCK.TEST : Fld := ⟨.GLB_LOCK, 1, 1⟩
def GLB_LOCK.I3C : Fld := ⟨.GLB_LOCK, 2, 1⟩
def GLB_SCALE_CLASS.CLASS : Fld := ⟨.GLB_SCALE_CLASS, 0, 2⟩
def GLB_SCALE_CLASS.CUR : Fld := ⟨.GLB_SCALE_CLASS, 4, 2⟩
def GLB_FLAT_ID.FLAT_ID : Fld := ⟨.GLB_FLAT_ID, 0, 16⟩
def GLB_COORD.X : Fld := ⟨.GLB_COORD, 0, 4⟩
def GLB_COORD.Y : Fld := ⟨.GLB_COORD, 4, 4⟩
def GLB_COORD.Z : Fld := ⟨.GLB_COORD, 8, 4⟩
def GLB_COORD.POD : Fld := ⟨.GLB_COORD, 12, 8⟩
def GLB_COORD.TIER : Fld := ⟨.GLB_COORD, 20, 1⟩
def GLB_TORUS_DIM.XSIZE_M1 : Fld := ⟨.GLB_TORUS_DIM, 0, 4⟩
def GLB_TORUS_DIM.YSIZE_M1 : Fld := ⟨.GLB_TORUS_DIM, 4, 4⟩
def GLB_TORUS_DIM.ZSIZE_M1 : Fld := ⟨.GLB_TORUS_DIM, 8, 4⟩
def GLB_PORT_ROLE.ROLES : Fld := ⟨.GLB_PORT_ROLE, 0, 32⟩
def GLB_TEMP.TEMP : Fld := ⟨.GLB_TEMP, 0, 12⟩
def GLB_TEMP.VALID : Fld := ⟨.GLB_TEMP, 15, 1⟩
def GLB_TEMP_CFG.HIGH : Fld := ⟨.GLB_TEMP_CFG, 0, 12⟩
def GLB_TEMP_STATUS.OVER : Fld := ⟨.GLB_TEMP_STATUS, 0, 8⟩
def GLB_TEMP_STATUS.HOT : Fld := ⟨.GLB_TEMP_STATUS, 8, 8⟩
def TIM_NOW.TICKS : Fld := ⟨.TIM_NOW, 0, 32⟩
def TIM_CTL.MODE : Fld := ⟨.TIM_CTL, 0, 2⟩
def TIM_CTL.LOAD : Fld := ⟨.TIM_CTL, 2, 1⟩
def TIM_CTL.EXCH_EN : Fld := ⟨.TIM_CTL, 3, 1⟩
def TIM_CTL.MASTER_EPOCH : Fld := ⟨.TIM_CTL, 16, 16⟩
def TIM_STATUS.STATE : Fld := ⟨.TIM_STATUS, 0, 3⟩
def TIM_STATUS.DEPTH : Fld := ⟨.TIM_STATUS, 3, 4⟩
def TIM_STATUS.EVER_LOCKED : Fld := ⟨.TIM_STATUS, 7, 1⟩
def TIM_STATUS.UNSURE : Fld := ⟨.TIM_STATUS, 8, 1⟩
def TIM_STATUS.EST_ERR : Fld := ⟨.TIM_STATUS, 16, 8⟩
def TIM_PARENT.PRIMARY : Fld := ⟨.TIM_PARENT, 0, 5⟩
def TIM_PARENT.PRIMARY_EN : Fld := ⟨.TIM_PARENT, 5, 1⟩
def TIM_PARENT.BACKUP : Fld := ⟨.TIM_PARENT, 8, 5⟩
def TIM_PARENT.BACKUP_EN : Fld := ⟨.TIM_PARENT, 13, 1⟩
def TIM_PARENT.ACTIVE : Fld := ⟨.TIM_PARENT, 16, 1⟩
def TIM_LOOP.KP_SHIFT : Fld := ⟨.TIM_LOOP, 0, 4⟩
def TIM_LOOP.KI_SHIFT : Fld := ⟨.TIM_LOOP, 4, 4⟩
def TIM_LOOP.LOCK_WIN : Fld := ⟨.TIM_LOOP, 8, 8⟩
def TIM_LOOP.LOSS_COURSES : Fld := ⟨.TIM_LOOP, 16, 8⟩
def TIM_FREQ.F : Fld := ⟨.TIM_FREQ, 0, 32⟩
def TIM_OFFSET.X : Fld := ⟨.TIM_OFFSET, 0, 32⟩
def TIM_DELAY.D : Fld := ⟨.TIM_DELAY, 0, 32⟩
def TIM_HOLD_CFG.DRIFT_PPB : Fld := ⟨.TIM_HOLD_CFG, 0, 16⟩
def TIM_HOLD_CFG.PALLET_LIMIT : Fld := ⟨.TIM_HOLD_CFG, 16, 8⟩
def TIM_SET.TICKS : Fld := ⟨.TIM_SET, 0, 32⟩
def TIM_LATE_CNT.COUNT : Fld := ⟨.TIM_LATE_CNT, 0, 32⟩
def TIM_BAD_CNT.COUNT : Fld := ⟨.TIM_BAD_CNT, 0, 32⟩
def TIM_ASYM.A : Fld := ⟨.TIM_ASYM, 0, 16⟩
def TIM_PEER_OFF.X : Fld := ⟨.TIM_PEER_OFF, 0, 24⟩
def TIM_PEER_OFF.VALID : Fld := ⟨.TIM_PEER_OFF, 24, 1⟩
def TIM_PEER_OFF.UNSAFE : Fld := ⟨.TIM_PEER_OFF, 25, 1⟩
def CLK_STATUS.REF_OK : Fld := ⟨.CLK_STATUS, 0, 1⟩
def CLK_STATUS.CPLL_LOCK : Fld := ⟨.CLK_STATUS, 1, 1⟩
def CLK_STATUS.TPLL_LOCK : Fld := ⟨.CLK_STATUS, 2, 1⟩
def CLK_STATUS.HOLD : Fld := ⟨.CLK_STATUS, 3, 1⟩
def CLK_STATUS.CCLK_SRC : Fld := ⟨.CLK_STATUS, 4, 2⟩
def CLK_STATUS.FT_SRC : Fld := ⟨.CLK_STATUS, 6, 1⟩
def CLK_STATUS.ROSC_ON : Fld := ⟨.CLK_STATUS, 7, 1⟩
def CLK_STATUS.LPLL_LOCK : Fld := ⟨.CLK_STATUS, 8, 8⟩
def CLK_STATUS.D : Fld := ⟨.CLK_STATUS, 16, 4⟩
def CLK_STATUS.CLOCK_LOST : Fld := ⟨.CLK_STATUS, 20, 1⟩
def CLK_MON_STATUS.REF : Fld := ⟨.CLK_MON_STATUS, 0, 1⟩
def CLK_MON_STATUS.CCLK : Fld := ⟨.CLK_MON_STATUS, 1, 1⟩
def CLK_MON_STATUS.FT : Fld := ⟨.CLK_MON_STATUS, 2, 1⟩
def CLK_MON_STATUS.ROSC : Fld := ⟨.CLK_MON_STATUS, 3, 1⟩
def CLK_MON_STATUS.RC : Fld := ⟨.CLK_MON_STATUS, 4, 1⟩
def CLK_MON_STATUS.FORCED : Fld := ⟨.CLK_MON_STATUS, 5, 1⟩
def CLK_MON_STATUS.LPLL : Fld := ⟨.CLK_MON_STATUS, 8, 8⟩
def CLK_CCLK_CTL.DIV : Fld := ⟨.CLK_CCLK_CTL, 0, 3⟩
def CLK_CCLK_CTL.GATE_DIS : Fld := ⟨.CLK_CCLK_CTL, 3, 1⟩
def CLK_CCLK_CTL.RETURN : Fld := ⟨.CLK_CCLK_CTL, 4, 1⟩
def CLK_OBS_CFG.SEL : Fld := ⟨.CLK_OBS_CFG, 0, 4⟩
def CLK_OBS_CFG.N : Fld := ⟨.CLK_OBS_CFG, 4, 4⟩
def CLK_OBS_CFG.EN : Fld := ⟨.CLK_OBS_CFG, 31, 1⟩
def CLK_RST_CTL.CORE : Fld := ⟨.CLK_RST_CTL, 0, 1⟩
def CLK_RST_CTL.KEY : Fld := ⟨.CLK_RST_CTL, 8, 8⟩
def CLK_RESET_CAUSE.CAUSE : Fld := ⟨.CLK_RESET_CAUSE, 0, 2⟩
def CLK_BOOT_STATUS.PHASE : Fld := ⟨.CLK_BOOT_STATUS, 0, 3⟩
def CLK_BOOT_STATUS.SOURCE : Fld := ⟨.CLK_BOOT_STATUS, 3, 1⟩
def CLK_BOOT_STATUS.ERR : Fld := ⟨.CLK_BOOT_STATUS, 4, 4⟩
def CLK_BOOT_DOOR.GO : Fld := ⟨.CLK_BOOT_DOOR, 31, 1⟩
def LNK_CTL.EN : Fld := ⟨.LNK_CTL, 0, 1⟩
def LNK_CTL.RETRAIN : Fld := ⟨.LNK_CTL, 1, 1⟩
def LNK_CTL.WIDEN : Fld := ⟨.LNK_CTL, 2, 1⟩
def LNK_CTL.RESYNC : Fld := ⟨.LNK_CTL, 3, 1⟩
def LNK_CTL.RETRY : Fld := ⟨.LNK_CTL, 4, 1⟩
def LNK_CTL.FORCE_DOWN : Fld := ⟨.LNK_CTL, 5, 1⟩
def LNK_CFG.GEN_EN : Fld := ⟨.LNK_CFG, 0, 3⟩
def LNK_CFG.MAX_WIDTH : Fld := ⟨.LNK_CFG, 3, 2⟩
def LNK_CFG.BACKOFF : Fld := ⟨.LNK_CFG, 8, 8⟩
def LNK_STATUS.STATE : Fld := ⟨.LNK_STATUS, 0, 4⟩
def LNK_STATUS.GEN : Fld := ⟨.LNK_STATUS, 4, 2⟩
def LNK_STATUS.WIDTH : Fld := ⟨.LNK_STATUS, 6, 2⟩
def LNK_STATUS.ROLE_MISMATCH : Fld := ⟨.LNK_STATUS, 8, 1⟩
def LNK_STATUS.LEAD : Fld := ⟨.LNK_STATUS, 9, 1⟩
def LNK_STATUS.RESYNC : Fld := ⟨.LNK_STATUS, 10, 1⟩
def LNK_STATUS.SPARING : Fld := ⟨.LNK_STATUS, 11, 1⟩
def LNK_STATUS.GEN_EXCL : Fld := ⟨.LNK_STATUS, 12, 3⟩
def LNK_STATUS.CREDIT_LOST : Fld := ⟨.LNK_STATUS, 15, 1⟩
def LNK_STATUS.DOWN_REASON : Fld := ⟨.LNK_STATUS, 16, 4⟩
def LNK_PARTNER.FLAT_ID : Fld := ⟨.LNK_PARTNER, 0, 16⟩
def LNK_PARTNER.PORT : Fld := ⟨.LNK_PARTNER, 16, 5⟩
def LNK_PARTNER.PERSONA : Fld := ⟨.LNK_PARTNER, 21, 2⟩
def LNK_PARTNER.ROLE : Fld := ⟨.LNK_PARTNER, 23, 2⟩
def LNK_PARTNER.GEN_CAP : Fld := ⟨.LNK_PARTNER, 25, 3⟩
def LNK_LANE_MAP.MAP : Fld := ⟨.LNK_LANE_MAP, 0, 32⟩
def LNK_LANE_STATUS.HEALTHY : Fld := ⟨.LNK_LANE_STATUS, 0, 18⟩
def LNK_SPARE_STATUS.READY : Fld := ⟨.LNK_SPARE_STATUS, 0, 18⟩
def LNK_ERR_CFG.LANE_SPARE_THR : Fld := ⟨.LNK_ERR_CFG, 0, 8⟩
def LNK_ERR_CFG.CRC_RETRAIN : Fld := ⟨.LNK_ERR_CFG, 8, 8⟩
def LNK_ERR_CFG.UNCORR_DOWN : Fld := ⟨.LNK_ERR_CFG, 16, 8⟩
def LNK_ERR_CFG.VERIFY_SER : Fld := ⟨.LNK_ERR_CFG, 24, 8⟩
def LNK_SPARE_CTL.LANE : Fld := ⟨.LNK_SPARE_CTL, 0, 4⟩
def LNK_SPARE_CTL.GO : Fld := ⟨.LNK_SPARE_CTL, 31, 1⟩
def LNK_CREDIT_CFG.DATA : Fld := ⟨.LNK_CREDIT_CFG, 0, 10⟩
def LNK_CREDIT_CFG.HDR : Fld := ⟨.LNK_CREDIT_CFG, 16, 8⟩
def LNK_CREDIT_STATUS.DATA_AVAIL : Fld := ⟨.LNK_CREDIT_STATUS, 0, 10⟩
def LNK_CREDIT_STATUS.HDR_AVAIL : Fld := ⟨.LNK_CREDIT_STATUS, 16, 8⟩
def LNK_CNT.COUNT : Fld := ⟨.LNK_CNT, 0, 32⟩
def LNK_SPARE_CNT.DONE : Fld := ⟨.LNK_SPARE_CNT, 0, 16⟩
def LNK_SPARE_CNT.FAIL : Fld := ⟨.LNK_SPARE_CNT, 16, 8⟩
def LNK_SPARE_CNT.NONE : Fld := ⟨.LNK_SPARE_CNT, 24, 8⟩
def LNK_WIDTH_CNT.DONE : Fld := ⟨.LNK_WIDTH_CNT, 0, 16⟩
def LNK_WIDTH_CNT.RETRY : Fld := ⟨.LNK_WIDTH_CNT, 16, 16⟩
def LNK_LANE_SER.COUNT : Fld := ⟨.LNK_LANE_SER, 0, 24⟩
def RTE_CFG.HOP_MAX : Fld := ⟨.RTE_CFG, 0, 8⟩
def RTE_CFG.HOLD : Fld := ⟨.RTE_CFG, 8, 16⟩
def RTE_THROTTLE.HIGH : Fld := ⟨.RTE_THROTTLE, 0, 10⟩
def RTE_THROTTLE.LOW : Fld := ⟨.RTE_THROTTLE, 10, 10⟩
def RTE_THROTTLE.GAP : Fld := ⟨.RTE_THROTTLE, 20, 8⟩
def RTE_STATUS.BANK : Fld := ⟨.RTE_STATUS, 0, 1⟩
def RTE_STATUS.ROUTE_PEND : Fld := ⟨.RTE_STATUS, 1, 1⟩
def RTE_STATUS.ENTRY_ERR : Fld := ⟨.RTE_STATUS, 2, 1⟩
def RTE_STATUS.MC_ERR : Fld := ⟨.RTE_STATUS, 3, 1⟩
def RTE_DROP_CNT.C0 : Fld := ⟨.RTE_DROP_CNT, 0, 8⟩
def RTE_DROP_CNT.C1 : Fld := ⟨.RTE_DROP_CNT, 8, 8⟩
def RTE_DROP_CNT.C2 : Fld := ⟨.RTE_DROP_CNT, 16, 8⟩
def RTE_DROP_CNT.C3 : Fld := ⟨.RTE_DROP_CNT, 24, 8⟩
def RTE_TBL_IDX.INDEX : Fld := ⟨.RTE_TBL_IDX, 0, 16⟩
def RTE_TBL_IDX.READ_SHADOW : Fld := ⟨.RTE_TBL_IDX, 16, 1⟩
def RTE_TBL_IDX.AUTOINC : Fld := ⟨.RTE_TBL_IDX, 17, 1⟩
def RTE_TBL_DATA.SET : Fld := ⟨.RTE_TBL_DATA, 0, 32⟩
def RTE_MC_IDX.GROUP : Fld := ⟨.RTE_MC_IDX, 0, 14⟩
def RTE_MC_IDX.AUTOINC : Fld := ⟨.RTE_MC_IDX, 16, 1⟩
def RTE_MC_DATA.WORD : Fld := ⟨.RTE_MC_DATA, 0, 32⟩
def RTE_FENCE.BITS : Fld := ⟨.RTE_FENCE, 0, 32⟩
def RTE_TX_MORTAR.COUNT : Fld := ⟨.RTE_TX_MORTAR, 0, 32⟩
def RTE_TX_PALLET.COUNT : Fld := ⟨.RTE_TX_PALLET, 0, 32⟩
def RTE_TX_IDLE.COUNT : Fld := ⟨.RTE_TX_IDLE, 0, 32⟩
def RTE_TX_CTL.COUNT : Fld := ⟨.RTE_TX_CTL, 0, 32⟩
def RTE_REROUTE_CNT.COUNT : Fld := ⟨.RTE_REROUTE_CNT, 0, 32⟩
def RTE_STALL.COUNT : Fld := ⟨.RTE_STALL, 0, 32⟩
def RTE_QDEPTH.CUR : Fld := ⟨.RTE_QDEPTH, 0, 16⟩
def RTE_QDEPTH.MAX : Fld := ⟨.RTE_QDEPTH, 16, 16⟩
def RTE_THROTTLE_CYC.COUNT : Fld := ⟨.RTE_THROTTLE_CYC, 0, 32⟩
def CIR_STATUS.BANK : Fld := ⟨.CIR_STATUS, 0, 1⟩
def CIR_STATUS.SCHED_PEND : Fld := ⟨.CIR_STATUS, 1, 1⟩
def CIR_STATUS.ENTRY_ERR : Fld := ⟨.CIR_STATUS, 2, 1⟩
def CIR_STATUS.NOTICE_ERR : Fld := ⟨.CIR_STATUS, 3, 1⟩
def CIR_NOTICE.PALLET : Fld := ⟨.CIR_NOTICE, 0, 12⟩
def CIR_NOTICE.REASON : Fld := ⟨.CIR_NOTICE, 12, 4⟩
def CIR_NOTICE.REPORTER : Fld := ⟨.CIR_NOTICE, 16, 16⟩
def CIR_DEMOTE_CNT.COUNT : Fld := ⟨.CIR_DEMOTE_CNT, 0, 32⟩
def CIR_DROP_CNT.COUNT : Fld := ⟨.CIR_DROP_CNT, 0, 32⟩
def CIR_NOTICE_CNT.COUNT : Fld := ⟨.CIR_NOTICE_CNT, 0, 32⟩
def CIR_PORT_DELAY.D : Fld := ⟨.CIR_PORT_DELAY, 0, 24⟩
def CIR_PORT_DELAY.VALID : Fld := ⟨.CIR_PORT_DELAY, 24, 1⟩
def CIR_OUT_SHADOW.PALLET : Fld := ⟨.CIR_OUT_SHADOW, 0, 12⟩
def CIR_OUT_SHADOW.VALID : Fld := ⟨.CIR_OUT_SHADOW, 12, 1⟩
def CIR_OUT_SHADOW.LOCAL : Fld := ⟨.CIR_OUT_SHADOW, 13, 1⟩
def CIR_OUT_SHADOW.PROT : Fld := ⟨.CIR_OUT_SHADOW, 14, 1⟩
def CIR_IN_SHADOW.PALLET : Fld := ⟨.CIR_IN_SHADOW, 0, 12⟩
def CIR_IN_SHADOW.VALID : Fld := ⟨.CIR_IN_SHADOW, 12, 1⟩
def CIR_IN_SHADOW.LOCAL : Fld := ⟨.CIR_IN_SHADOW, 13, 1⟩
def CIR_IN_SHADOW.OUT_PORT : Fld := ⟨.CIR_IN_SHADOW, 14, 5⟩
def CIR_IN_SHADOW.DELTA : Fld := ⟨.CIR_IN_SHADOW, 19, 4⟩
def CIR_OUT_ACTIVE.PALLET : Fld := ⟨.CIR_OUT_ACTIVE, 0, 12⟩
def CIR_OUT_ACTIVE.VALID : Fld := ⟨.CIR_OUT_ACTIVE, 12, 1⟩
def CIR_OUT_ACTIVE.LOCAL : Fld := ⟨.CIR_OUT_ACTIVE, 13, 1⟩
def CIR_OUT_ACTIVE.PROT : Fld := ⟨.CIR_OUT_ACTIVE, 14, 1⟩
def CIR_IN_ACTIVE.PALLET : Fld := ⟨.CIR_IN_ACTIVE, 0, 12⟩
def CIR_IN_ACTIVE.VALID : Fld := ⟨.CIR_IN_ACTIVE, 12, 1⟩
def CIR_IN_ACTIVE.LOCAL : Fld := ⟨.CIR_IN_ACTIVE, 13, 1⟩
def CIR_IN_ACTIVE.OUT_PORT : Fld := ⟨.CIR_IN_ACTIVE, 14, 5⟩
def CIR_IN_ACTIVE.DELTA : Fld := ⟨.CIR_IN_ACTIVE, 19, 4⟩
def CIR_PALLET_LEASE.TENANT : Fld := ⟨.CIR_PALLET_LEASE, 0, 10⟩
def CIR_PALLET_LEASE.GEN : Fld := ⟨.CIR_PALLET_LEASE, 16, 8⟩
def CIR_PALLET_LEASE.EN : Fld := ⟨.CIR_PALLET_LEASE, 31, 1⟩
def CIR_PALLET_ENDS.DST : Fld := ⟨.CIR_PALLET_ENDS, 0, 16⟩
def CIR_PALLET_ENDS.SRC : Fld := ⟨.CIR_PALLET_ENDS, 16, 16⟩
def CIR_PALLET_PORTS.PORT : Fld := ⟨.CIR_PALLET_PORTS, 0, 5⟩
def CIR_PALLET_PORTS.PROT_PORT : Fld := ⟨.CIR_PALLET_PORTS, 5, 5⟩
def CIR_PALLET_PORTS.PROT_EN : Fld := ⟨.CIR_PALLET_PORTS, 10, 1⟩
def CIR_PALLET_PORTS.BUDGET : Fld := ⟨.CIR_PALLET_PORTS, 11, 7⟩
def CIR_PALLET_PORTS.STATE : Fld := ⟨.CIR_PALLET_PORTS, 18, 2⟩
def CIR_PALLET_PORTS.RESTORE : Fld := ⟨.CIR_PALLET_PORTS, 20, 1⟩
def CIR_PALLET_CNT.DEMOTED : Fld := ⟨.CIR_PALLET_CNT, 0, 16⟩
def CIR_PALLET_CNT.NOTICES : Fld := ⟨.CIR_PALLET_CNT, 16, 16⟩
def TRW_CTX_CFG.TENANT : Fld := ⟨.TRW_CTX_CFG, 0, 10⟩
def TRW_CTX_CFG.GEN : Fld := ⟨.TRW_CTX_CFG, 16, 8⟩
def TRW_CTX_CFG.BIND : Fld := ⟨.TRW_CTX_CFG, 24, 1⟩
def TRW_CTX_STATUS.STATE : Fld := ⟨.TRW_CTX_STATUS, 0, 3⟩
def TRW_CTX_STATUS.STALL : Fld := ⟨.TRW_CTX_STATUS, 4, 4⟩
def TRW_CTX_STATUS.QUEUE : Fld := ⟨.TRW_CTX_STATUS, 8, 3⟩
def TRW_CTX_STATUS.INFLIGHT : Fld := ⟨.TRW_CTX_STATUS, 11, 5⟩
def TRW_POLL_CFG.INTERVAL : Fld := ⟨.TRW_POLL_CFG, 0, 16⟩
def TRW_CODE.BASE_4K : Fld := ⟨.TRW_CODE, 0, 14⟩
def TRW_CODE.SIZE_4K_M1 : Fld := ⟨.TRW_CODE, 16, 6⟩
def TRW_CODE.EN : Fld := ⟨.TRW_CODE, 31, 1⟩
def TRW_MOD0.MOD_ID : Fld := ⟨.TRW_MOD0, 0, 16⟩
def TRW_MOD0.VALID : Fld := ⟨.TRW_MOD0, 31, 1⟩
def TRW_MOD1.BASE_4K : Fld := ⟨.TRW_MOD1, 0, 14⟩
def TRW_MOD1.SIZE_4K : Fld := ⟨.TRW_MOD1, 14, 14⟩
def TRW_STAGE0.OFF_4K : Fld := ⟨.TRW_STAGE0, 0, 14⟩
def TRW_STAGE0.GO : Fld := ⟨.TRW_STAGE0, 31, 1⟩
def TRW_STAGE1.STATE : Fld := ⟨.TRW_STAGE1, 0, 2⟩
def TRW_STAGE1.ERR : Fld := ⟨.TRW_STAGE1, 4, 3⟩
def TRW_STAGE1.DISCARD : Fld := ⟨.TRW_STAGE1, 7, 1⟩
def TRW_STAGE1.WR_ERR : Fld := ⟨.TRW_STAGE1, 8, 1⟩
def TRW_STAGE1.MOD_ID : Fld := ⟨.TRW_STAGE1, 16, 16⟩
def TRW_LVS_CFG.RETAIN : Fld := ⟨.TRW_LVS_CFG, 0, 8⟩
def HOD_CFG.TENANT : Fld := ⟨.HOD_CFG, 0, 10⟩
def HOD_CFG.GEN : Fld := ⟨.HOD_CFG, 16, 8⟩
def HOD_CFG.EN : Fld := ⟨.HOD_CFG, 31, 1⟩
def HOD_STATUS.OPS : Fld := ⟨.HOD_STATUS, 0, 5⟩
def HOD_STATUS.REPLAY : Fld := ⟨.HOD_STATUS, 5, 9⟩
def HOD_STATUS.STATE : Fld := ⟨.HOD_STATUS, 14, 2⟩
def HOD_XPORT_CFG.RTO : Fld := ⟨.HOD_XPORT_CFG, 0, 16⟩
def HOD_XPORT_CFG.REPLAY_MAX : Fld := ⟨.HOD_XPORT_CFG, 16, 4⟩
def HOD_ROB_CFG.SIZE_64K : Fld := ⟨.HOD_ROB_CFG, 0, 8⟩
def HOD_FLOW_RESET.PEER : Fld := ⟨.HOD_FLOW_RESET, 0, 16⟩
def HOD_FLOW_RESET.BUSY : Fld := ⟨.HOD_FLOW_RESET, 30, 1⟩
def HOD_FLOW_RESET.GO : Fld := ⟨.HOD_FLOW_RESET, 31, 1⟩
def HOD_RX_RELEASE.HANDLE : Fld := ⟨.HOD_RX_RELEASE, 0, 16⟩
def HOD_RX_STATUS.DOMAIN_ERR : Fld := ⟨.HOD_RX_STATUS, 0, 1⟩
def HOD_RX_STATUS.BAD_RELEASE : Fld := ⟨.HOD_RX_STATUS, 1, 1⟩
def HOD_PS_CFG.PAGES : Fld := ⟨.HOD_PS_CFG, 0, 26⟩
def HOD_PS_CFG.DIR_LOG2 : Fld := ⟨.HOD_PS_CFG, 26, 6⟩
def HOD_PS_TAGBASE_LO.ADDR : Fld := ⟨.HOD_PS_TAGBASE_LO, 0, 32⟩
def HOD_PS_TAGBASE_HI.ADDR : Fld := ⟨.HOD_PS_TAGBASE_HI, 0, 20⟩
def HOD_CNT.COUNT : Fld := ⟨.HOD_CNT, 0, 32⟩
def HOD_BROKEN_PEER.PEER : Fld := ⟨.HOD_BROKEN_PEER, 0, 16⟩
def HOD_PS_DIRBASE_LO.ADDR : Fld := ⟨.HOD_PS_DIRBASE_LO, 0, 32⟩
def HOD_PS_DIRBASE_HI.ADDR : Fld := ⟨.HOD_PS_DIRBASE_HI, 0, 20⟩
def HOD_RCB_CFG.LIFETIME : Fld := ⟨.HOD_RCB_CFG, 0, 16⟩
def HOD_RCB_CFG.EN : Fld := ⟨.HOD_RCB_CFG, 31, 1⟩
def HOD_RCB_HIT_CNT.COUNT : Fld := ⟨.HOD_RCB_HIT_CNT, 0, 32⟩
def HOD_RCB_MISS_CNT.COUNT : Fld := ⟨.HOD_RCB_MISS_CNT, 0, 32⟩
def HOD_RCB_INV_CNT.COUNT : Fld := ⟨.HOD_RCB_INV_CNT, 0, 32⟩
def HOD_RETIRE.BITS : Fld := ⟨.HOD_RETIRE, 0, 32⟩
def HOD_MBOX_ADDR.ADDR : Fld := ⟨.HOD_MBOX_ADDR, 0, 30⟩
def HOD_MBOX_RING_LO.BASE : Fld := ⟨.HOD_MBOX_RING_LO, 12, 20⟩
def HOD_MBOX_RING_HI.BASE : Fld := ⟨.HOD_MBOX_RING_HI, 0, 20⟩
def HOD_MBOX_CFG.LOG2_SIZE : Fld := ⟨.HOD_MBOX_CFG, 0, 5⟩
def HOD_MBOX_CFG.SHARE : Fld := ⟨.HOD_MBOX_CFG, 8, 8⟩
def HOD_MBOX_CFG.EN : Fld := ⟨.HOD_MBOX_CFG, 31, 1⟩
def HOD_MBOX_TAIL.COUNT : Fld := ⟨.HOD_MBOX_TAIL, 0, 32⟩
def HOD_MBOX_HEAD.COUNT : Fld := ⟨.HOD_MBOX_HEAD, 0, 32⟩
def BND_BOND_CFG.TENANT : Fld := ⟨.BND_BOND_CFG, 0, 10⟩
def BND_BOND_CFG.ALG : Fld := ⟨.BND_BOND_CFG, 10, 2⟩
def BND_BOND_CFG.POLICY : Fld := ⟨.BND_BOND_CFG, 12, 1⟩
def BND_BOND_CFG.PFMT : Fld := ⟨.BND_BOND_CFG, 13, 1⟩
def BND_BOND_CFG.ADMITTED : Fld := ⟨.BND_BOND_CFG, 14, 1⟩
def BND_BOND_CFG.STEP_TO : Fld := ⟨.BND_BOND_CFG, 16, 8⟩
def BND_BOND_CFG.VALID : Fld := ⟨.BND_BOND_CFG, 31, 1⟩
def BND_BOND_MEM.BASE : Fld := ⟨.BND_BOND_MEM, 0, 16⟩
def BND_BOND_MEM.COUNT : Fld := ⟨.BND_BOND_MEM, 16, 13⟩
def BND_BOND_EPOCH.EPOCH : Fld := ⟨.BND_BOND_EPOCH, 0, 32⟩
def BND_BOND_BOX.NX : Fld := ⟨.BND_BOND_BOX, 0, 5⟩
def BND_BOND_BOX.NY : Fld := ⟨.BND_BOND_BOX, 5, 5⟩
def BND_BOND_BOX.NZ : Fld := ⟨.BND_BOND_BOX, 10, 5⟩
def BND_BOND_BOX.NPOD : Fld := ⟨.BND_BOND_BOX, 15, 9⟩
def BND_BOND_TREE.PARENT : Fld := ⟨.BND_BOND_TREE, 0, 16⟩
def BND_BOND_TREE.SLOT : Fld := ⟨.BND_BOND_TREE, 16, 5⟩
def BND_BOND_STATUS.SELF : Fld := ⟨.BND_BOND_STATUS, 0, 12⟩
def BND_BOND_STATUS.MEMBER : Fld := ⟨.BND_BOND_STATUS, 12, 1⟩
def BND_BOND_STATUS.SLOT : Fld := ⟨.BND_BOND_STATUS, 13, 5⟩
def BND_BOND_STATUS.RUNNING : Fld := ⟨.BND_BOND_STATUS, 18, 1⟩
def BND_BOND_STATUS.CFG_ERR : Fld := ⟨.BND_BOND_STATUS, 19, 1⟩
def BND_SLOT_CFG.TENANT : Fld := ⟨.BND_SLOT_CFG, 0, 10⟩
def BND_SLOT_CFG.GEN : Fld := ⟨.BND_SLOT_CFG, 16, 8⟩
def BND_SLOT_CFG.EN : Fld := ⟨.BND_SLOT_CFG, 31, 1⟩
def BND_SLOT_STORE.STORE_64K : Fld := ⟨.BND_SLOT_STORE, 0, 8⟩
def BND_SLOT_STATUS.STATE : Fld := ⟨.BND_SLOT_STATUS, 0, 3⟩
def BND_SLOT_STATUS.BOND : Fld := ⟨.BND_SLOT_STATUS, 3, 12⟩
def BND_SLOT_STEP.STEP : Fld := ⟨.BND_SLOT_STEP, 0, 32⟩
def BND_VC_WEIGHT.WEIGHTS : Fld := ⟨.BND_VC_WEIGHT, 0, 32⟩
def BND_STORE_STATUS.AVAIL : Fld := ⟨.BND_STORE_STATUS, 0, 8⟩
def BND_STORE_STATUS.LEASED : Fld := ⟨.BND_STORE_STATUS, 8, 8⟩
def BND_STORE_STATUS.OVER : Fld := ⟨.BND_STORE_STATUS, 16, 1⟩
def BND_CNT.COUNT : Fld := ⟨.BND_CNT, 0, 32⟩
def BND_INEXACT_CNT.COUNT : Fld := ⟨.BND_INEXACT_CNT, 0, 32⟩
def BND_SAT_CNT.COUNT : Fld := ⟨.BND_SAT_CNT, 0, 32⟩
def BND_MEMBER.FLAT_ID : Fld := ⟨.BND_MEMBER, 0, 16⟩
def BND_MEMBER.LEAF : Fld := ⟨.BND_MEMBER, 16, 16⟩
def KLN_SLOT_CFG.TENANT : Fld := ⟨.KLN_SLOT_CFG, 0, 10⟩
def KLN_SLOT_CFG.GEN : Fld := ⟨.KLN_SLOT_CFG, 16, 8⟩
def KLN_SLOT_CFG.EN : Fld := ⟨.KLN_SLOT_CFG, 31, 1⟩
def KLN_SLOT_STATUS.COST : Fld := ⟨.KLN_SLOT_STATUS, 0, 8⟩
def KLN_SLOT_STATUS.LOADED : Fld := ⟨.KLN_SLOT_STATUS, 8, 1⟩
def KLN_SLOT_STATUS.DRAIN : Fld := ⟨.KLN_SLOT_STATUS, 9, 6⟩
def KLN_SLOT_STATUS.INPLACE : Fld := ⟨.KLN_SLOT_STATUS, 15, 1⟩
def KLN_SLOT_STATUS.EMITK_ONLY : Fld := ⟨.KLN_SLOT_STATUS, 16, 1⟩
def KLN_SLOT_STATUS.BOUND : Fld := ⟨.KLN_SLOT_STATUS, 17, 5⟩
def KLN_CLUSTER_STATUS.OPS : Fld := ⟨.KLN_CLUSTER_STATUS, 0, 5⟩
def KLN_CLUSTER_STATUS.QUEUED : Fld := ⟨.KLN_CLUSTER_STATUS, 8, 9⟩
def KLN_UNIT_CNT.COUNT : Fld := ⟨.KLN_UNIT_CNT, 0, 32⟩
def KLN_THROTTLE_CNT.COUNT : Fld := ⟨.KLN_THROTTLE_CNT, 0, 32⟩
def KLN_OUTMAX_CNT.COUNT : Fld := ⟨.KLN_OUTMAX_CNT, 0, 32⟩
def KLN_TREE.SLOT : Fld := ⟨.KLN_TREE, 0, 8⟩
def KLN_TREE.GEN : Fld := ⟨.KLN_TREE, 8, 8⟩
def KLN_TREE.EN : Fld := ⟨.KLN_TREE, 31, 1⟩
def KLN_PROG.WORD : Fld := ⟨.KLN_PROG, 0, 32⟩
def KLN_PARAM.WORD : Fld := ⟨.KLN_PARAM, 0, 32⟩
def TEN_VIEW_CFG.BASE_64 : Fld := ⟨.TEN_VIEW_CFG, 0, 11⟩
def TEN_VIEW_CFG.SIZE_64 : Fld := ⟨.TEN_VIEW_CFG, 16, 10⟩
def TEN_VIEW_CFG.EN : Fld := ⟨.TEN_VIEW_CFG, 31, 1⟩
def TEN_VIEW_ERR.RANGE : Fld := ⟨.TEN_VIEW_ERR, 0, 1⟩
def TEN_VIEW_ERR.OVERLAP : Fld := ⟨.TEN_VIEW_ERR, 1, 1⟩
def SEC_TEN_CFG.EN : Fld := ⟨.SEC_TEN_CFG, 0, 1⟩
def SEC_TEN_CFG.CONF : Fld := ⟨.SEC_TEN_CFG, 1, 1⟩
def SEC_TEN_CFG.CUR : Fld := ⟨.SEC_TEN_CFG, 2, 1⟩
def SEC_TEN_CFG.LIVE0 : Fld := ⟨.SEC_TEN_CFG, 3, 1⟩
def SEC_TEN_CFG.LIVE1 : Fld := ⟨.SEC_TEN_CFG, 4, 1⟩
def SEC_TEN_CFG.RETIRING0 : Fld := ⟨.SEC_TEN_CFG, 5, 1⟩
def SEC_TEN_CFG.RETIRING1 : Fld := ⟨.SEC_TEN_CFG, 6, 1⟩
def SEC_TEN_CFG.SWEEP : Fld := ⟨.SEC_TEN_CFG, 7, 1⟩
def SEC_TEN_CFG.KEYED : Fld := ⟨.SEC_TEN_CFG, 8, 1⟩
def SEC_TEN_CFG.ACTIVE : Fld := ⟨.SEC_TEN_CFG, 9, 1⟩
def SEC_KEY_NUM.NUM : Fld := ⟨.SEC_KEY_NUM, 0, 32⟩
def SEC_KX_CTL.TENANT : Fld := ⟨.SEC_KX_CTL, 0, 10⟩
def SEC_KX_CTL.OP : Fld := ⟨.SEC_KX_CTL, 10, 3⟩
def SEC_KX_CTL.EPOCH : Fld := ⟨.SEC_KX_CTL, 13, 1⟩
def SEC_KX_CTL.ERR : Fld := ⟨.SEC_KX_CTL, 16, 4⟩
def SEC_KX_CTL.BUSY : Fld := ⟨.SEC_KX_CTL, 30, 1⟩
def SEC_KX_CTL.GO : Fld := ⟨.SEC_KX_CTL, 31, 1⟩
def SEC_SWEEP_CMD.PAGE : Fld := ⟨.SEC_SWEEP_CMD, 0, 26⟩
def SEC_SWEEP_CMD.TO : Fld := ⟨.SEC_SWEEP_CMD, 26, 1⟩
def SEC_SWEEP_CMD.BUSY : Fld := ⟨.SEC_SWEEP_CMD, 30, 1⟩
def SEC_SWEEP_CMD.GO : Fld := ⟨.SEC_SWEEP_CMD, 31, 1⟩
def SEC_STATUS.CS_FAIL : Fld := ⟨.SEC_STATUS, 0, 1⟩
def SEC_STATUS.DOMAIN_ERR : Fld := ⟨.SEC_STATUS, 1, 1⟩
def SEC_STATUS.LEASE_ERR : Fld := ⟨.SEC_STATUS, 2, 1⟩
def SEC_STATUS.EPOCH_ERR : Fld := ⟨.SEC_STATUS, 3, 1⟩
def SEC_STATUS.RETIRE_DEFER : Fld := ⟨.SEC_STATUS, 4, 1⟩
def SEC_STATUS.SWEEP_ERR : Fld := ⟨.SEC_STATUS, 5, 1⟩
def SEC_STATUS.CONF_ERR : Fld := ⟨.SEC_STATUS, 6, 1⟩
def SEC_SCRUB_CFG.READOUT : Fld := ⟨.SEC_SCRUB_CFG, 0, 8⟩
def SEC_TAG_FAIL_CNT.COUNT : Fld := ⟨.SEC_TAG_FAIL_CNT, 0, 32⟩
def SEC_NOKEY_CNT.COUNT : Fld := ⟨.SEC_NOKEY_CNT, 0, 32⟩
def SEC_RETIRED_CNT.COUNT : Fld := ⟨.SEC_RETIRED_CNT, 0, 32⟩
def SEC_KX_DATA.BYTES : Fld := ⟨.SEC_KX_DATA, 0, 32⟩
def SEC_REPORT.BYTES : Fld := ⟨.SEC_REPORT, 0, 32⟩
def SEC_ALIAS.BYTES : Fld := ⟨.SEC_ALIAS, 0, 32⟩
def TEN_SQ_BASE_LO.BASE : Fld := ⟨.TEN_SQ_BASE_LO, 12, 20⟩
def TEN_SQ_BASE_HI.BASE : Fld := ⟨.TEN_SQ_BASE_HI, 0, 20⟩
def TEN_SQ_BASE_HI.SPACE : Fld := ⟨.TEN_SQ_BASE_HI, 20, 4⟩
def TEN_SQ_CFG.LOG2_SIZE : Fld := ⟨.TEN_SQ_CFG, 0, 5⟩
def TEN_SQ_CFG.CTX : Fld := ⟨.TEN_SQ_CFG, 5, 10⟩
def TEN_SQ_CFG.ERR_RING : Fld := ⟨.TEN_SQ_CFG, 15, 3⟩
def TEN_SQ_CFG.EN : Fld := ⟨.TEN_SQ_CFG, 31, 1⟩
def TEN_SQ_SEQ.NEXT : Fld := ⟨.TEN_SQ_SEQ, 0, 32⟩
def TEN_SQ_DONE.SEQ : Fld := ⟨.TEN_SQ_DONE, 0, 32⟩
def TEN_SQ_STATUS.STATE : Fld := ⟨.TEN_SQ_STATUS, 0, 2⟩
def TEN_SQ_STATUS.DB_ERR : Fld := ⟨.TEN_SQ_STATUS, 2, 1⟩
def TEN_SQ_STATUS.BIND_ERR : Fld := ⟨.TEN_SQ_STATUS, 3, 1⟩
def TEN_SQ_STATUS.CFG_ERR : Fld := ⟨.TEN_SQ_STATUS, 4, 1⟩
def TEN_SQ_STATUS.DOMAIN_ERR : Fld := ⟨.TEN_SQ_STATUS, 5, 1⟩
def TEN_SQ_STATUS.LOST : Fld := ⟨.TEN_SQ_STATUS, 6, 1⟩
def TEN_SQ_STATUS.FETCH_ERR : Fld := ⟨.TEN_SQ_STATUS, 7, 1⟩
def TEN_SQ_CTL.ABORT : Fld := ⟨.TEN_SQ_CTL, 0, 1⟩
def TEN_SQ_HEAD.COUNT : Fld := ⟨.TEN_SQ_HEAD, 0, 32⟩
def TEN_WIN_BASE_LO.BASE : Fld := ⟨.TEN_WIN_BASE_LO, 12, 20⟩
def TEN_WIN_BASE_HI.BASE : Fld := ⟨.TEN_WIN_BASE_HI, 0, 20⟩
def TEN_WIN_BASE_HI.SPACE : Fld := ⟨.TEN_WIN_BASE_HI, 20, 4⟩
def TEN_WIN_LIMIT_LO.LIMIT : Fld := ⟨.TEN_WIN_LIMIT_LO, 12, 20⟩
def TEN_WIN_LIMIT_HI.LIMIT : Fld := ⟨.TEN_WIN_LIMIT_HI, 0, 20⟩
def TEN_WIN_LIMIT_HI.RD : Fld := ⟨.TEN_WIN_LIMIT_HI, 24, 1⟩
def TEN_WIN_LIMIT_HI.WR : Fld := ⟨.TEN_WIN_LIMIT_HI, 25, 1⟩
def TEN_WIN_LIMIT_HI.ATOM : Fld := ⟨.TEN_WIN_LIMIT_HI, 26, 1⟩
def TEN_WIN_LIMIT_HI.REMOTE : Fld := ⟨.TEN_WIN_LIMIT_HI, 27, 1⟩
def TEN_WIN_LIMIT_HI.EN : Fld := ⟨.TEN_WIN_LIMIT_HI, 31, 1⟩
def TEN_CQ_BASE_LO.BASE : Fld := ⟨.TEN_CQ_BASE_LO, 12, 20⟩
def TEN_CQ_BASE_HI.BASE : Fld := ⟨.TEN_CQ_BASE_HI, 0, 20⟩
def TEN_CQ_BASE_HI.SPACE : Fld := ⟨.TEN_CQ_BASE_HI, 20, 4⟩
def TEN_CQ_CFG.LOG2_SIZE : Fld := ⟨.TEN_CQ_CFG, 0, 5⟩
def TEN_CQ_CFG.EN : Fld := ⟨.TEN_CQ_CFG, 31, 1⟩
def TEN_CQ_STATUS.FULL : Fld := ⟨.TEN_CQ_STATUS, 0, 1⟩
def TEN_CQ_STATUS.DB_ERR : Fld := ⟨.TEN_CQ_STATUS, 1, 1⟩
def TEN_CQ_STATUS.CFG_ERR : Fld := ⟨.TEN_CQ_STATUS, 2, 1⟩
def TEN_CQ_STATUS.DOMAIN_ERR : Fld := ⟨.TEN_CQ_STATUS, 3, 1⟩
def TEN_CQ_STATUS.FULL_CNT : Fld := ⟨.TEN_CQ_STATUS, 16, 16⟩
def TEN_CQ_TAIL.COUNT : Fld := ⟨.TEN_CQ_TAIL, 0, 32⟩
def TEN_CQ_HEAD.COUNT : Fld := ⟨.TEN_CQ_HEAD, 0, 32⟩
def TEN_DB.COUNT : Fld := ⟨.TEN_DB, 0, 32⟩
def TEN_VIEW_ENTRY.FLAT_ID : Fld := ⟨.TEN_VIEW_ENTRY, 0, 16⟩
def TEN_VIEW_ENTRY.VALID : Fld := ⟨.TEN_VIEW_ENTRY, 16, 1⟩
def TEN_VIEW_ENTRY.RD : Fld := ⟨.TEN_VIEW_ENTRY, 17, 1⟩
def TEN_VIEW_ENTRY.WR : Fld := ⟨.TEN_VIEW_ENTRY, 18, 1⟩
def TEN_VIEW_ENTRY.ATOM : Fld := ⟨.TEN_VIEW_ENTRY, 19, 1⟩
def TEN_VIEW_ENTRY.COLL : Fld := ⟨.TEN_VIEW_ENTRY, 20, 1⟩
def TEN_VIEW_ENTRY.MCAST : Fld := ⟨.TEN_VIEW_ENTRY, 21, 1⟩
def OBS_PORT_TX.VALUE : Fld := ⟨.OBS_PORT_TX, 0, 32⟩
def OBS_PORT_RX.VALUE : Fld := ⟨.OBS_PORT_RX, 0, 32⟩
def OBS_TU_RD.VALUE : Fld := ⟨.OBS_TU_RD, 0, 32⟩
def OBS_TU_WR.VALUE : Fld := ⟨.OBS_TU_WR, 0, 32⟩
def OBS_ISSUE.VALUE : Fld := ⟨.OBS_ISSUE, 0, 32⟩
def OBS_HOD_BYTES.VALUE : Fld := ⟨.OBS_HOD_BYTES, 0, 32⟩
def OBS_BND_BLOCKS.VALUE : Fld := ⟨.OBS_BND_BLOCKS, 0, 32⟩
def OBS_CCLK.VALUE : Fld := ⟨.OBS_CCLK, 0, 32⟩
def OBS_CTR_SEL0.EVENT : Fld := ⟨.OBS_CTR_SEL0, 0, 8⟩
def OBS_CTR_SEL0.PARAM_A : Fld := ⟨.OBS_CTR_SEL0, 8, 8⟩
def OBS_CTR_SEL0.PARAM_B : Fld := ⟨.OBS_CTR_SEL0, 16, 8⟩
def OBS_CTR_SEL0.FILT_TEN : Fld := ⟨.OBS_CTR_SEL0, 24, 1⟩
def OBS_CTR_SEL0.FILT_TAG : Fld := ⟨.OBS_CTR_SEL0, 25, 1⟩
def OBS_CTR_SEL0.FILT_UNIT : Fld := ⟨.OBS_CTR_SEL0, 26, 1⟩
def OBS_CTR_SEL0.EN : Fld := ⟨.OBS_CTR_SEL0, 31, 1⟩
def OBS_CTR_SEL1.TENANT : Fld := ⟨.OBS_CTR_SEL1, 0, 10⟩
def OBS_CTR_SEL1.UKIND : Fld := ⟨.OBS_CTR_SEL1, 16, 8⟩
def OBS_CTR_SEL2.TAG_VAL : Fld := ⟨.OBS_CTR_SEL2, 0, 32⟩
def OBS_CTR_SEL3.TAG_MASK : Fld := ⟨.OBS_CTR_SEL3, 0, 32⟩
def OBS_CTR.VALUE : Fld := ⟨.OBS_CTR, 0, 32⟩
def OBS_CTR_FROZEN.VALUE : Fld := ⟨.OBS_CTR_FROZEN, 0, 32⟩
def OBS_CTR_FROZEN_TEN.TENANT : Fld := ⟨.OBS_CTR_FROZEN_TEN, 0, 10⟩
def OBS_CTR_UNIT.INDEX : Fld := ⟨.OBS_CTR_UNIT, 0, 16⟩
def OBS_CENSUS_CFG.BASE : Fld := ⟨.OBS_CENSUS_CFG, 0, 2⟩
def OBS_CENSUS_CFG.FILT_TEN : Fld := ⟨.OBS_CENSUS_CFG, 2, 1⟩
def OBS_CENSUS_CFG.FILT_TAG : Fld := ⟨.OBS_CENSUS_CFG, 3, 1⟩
def OBS_CENSUS_CFG.TENANT : Fld := ⟨.OBS_CENSUS_CFG, 4, 10⟩
def OBS_CENSUS_CFG.EN : Fld := ⟨.OBS_CENSUS_CFG, 31, 1⟩
def OBS_CENSUS_TAG_VAL.TAG_VAL : Fld := ⟨.OBS_CENSUS_TAG_VAL, 0, 32⟩
def OBS_CENSUS_TAG_MASK.TAG_MASK : Fld := ⟨.OBS_CENSUS_TAG_MASK, 0, 32⟩
def OBS_SMP_BASE_LO.BASE : Fld := ⟨.OBS_SMP_BASE_LO, 5, 27⟩
def OBS_SMP_BASE_HI.BASE : Fld := ⟨.OBS_SMP_BASE_HI, 0, 20⟩
def OBS_SMP_BASE_HI.SPACE : Fld := ⟨.OBS_SMP_BASE_HI, 20, 4⟩
def OBS_SMP_CFG.LOG2_SIZE : Fld := ⟨.OBS_SMP_CFG, 0, 5⟩
def OBS_SMP_CFG.FIRST : Fld := ⟨.OBS_SMP_CFG, 5, 8⟩
def OBS_SMP_CFG.COUNT : Fld := ⟨.OBS_SMP_CFG, 13, 9⟩
def OBS_SMP_CFG.EN : Fld := ⟨.OBS_SMP_CFG, 31, 1⟩
def OBS_SMP_INT.INTERVAL : Fld := ⟨.OBS_SMP_INT, 0, 16⟩
def OBS_SMP_INT.OWNER : Fld := ⟨.OBS_SMP_INT, 16, 10⟩
def OBS_SMP_TAIL.TAIL : Fld := ⟨.OBS_SMP_TAIL, 0, 32⟩
def OBS_SMP_HEAD.HEAD : Fld := ⟨.OBS_SMP_HEAD, 0, 32⟩
def OBS_PCS_BASE_LO.BASE : Fld := ⟨.OBS_PCS_BASE_LO, 5, 27⟩
def OBS_PCS_BASE_HI.BASE : Fld := ⟨.OBS_PCS_BASE_HI, 0, 20⟩
def OBS_PCS_BASE_HI.SPACE : Fld := ⟨.OBS_PCS_BASE_HI, 20, 4⟩
def OBS_PCS_CFG.LOG2_SIZE : Fld := ⟨.OBS_PCS_CFG, 0, 5⟩
def OBS_PCS_CFG.EN : Fld := ⟨.OBS_PCS_CFG, 31, 1⟩
def OBS_PCS_SHIFT.SHIFT : Fld := ⟨.OBS_PCS_SHIFT, 0, 5⟩
def OBS_PCS_SHIFT.OWNER : Fld := ⟨.OBS_PCS_SHIFT, 16, 10⟩
def OBS_PCS_TAIL.TAIL : Fld := ⟨.OBS_PCS_TAIL, 0, 32⟩
def OBS_PCS_HEAD.HEAD : Fld := ⟨.OBS_PCS_HEAD, 0, 32⟩
def OBS_TRC_CFG.SRC : Fld := ⟨.OBS_TRC_CFG, 0, 4⟩
def OBS_TRC_CFG.POLICY : Fld := ⟨.OBS_TRC_CFG, 4, 2⟩
def OBS_TRC_CFG.PRE : Fld := ⟨.OBS_TRC_CFG, 6, 5⟩
def OBS_TRC_CFG.FILT_TEN : Fld := ⟨.OBS_TRC_CFG, 11, 1⟩
def OBS_TRC_CFG.FILT_TAG : Fld := ⟨.OBS_TRC_CFG, 12, 1⟩
def OBS_TRC_CFG.TENANT : Fld := ⟨.OBS_TRC_CFG, 13, 10⟩
def OBS_TRC_TAG_VAL.TAG_VAL : Fld := ⟨.OBS_TRC_TAG_VAL, 0, 32⟩
def OBS_TRC_TAG_MASK.TAG_MASK : Fld := ⟨.OBS_TRC_TAG_MASK, 0, 32⟩
def OBS_TRC_PORT_MASK.PORT_MASK : Fld := ⟨.OBS_TRC_PORT_MASK, 0, 32⟩
def OBS_TRC_TRIG.TSRC : Fld := ⟨.OBS_TRC_TRIG, 0, 4⟩
def OBS_TRC_TRIG.TARG : Fld := ⟨.OBS_TRC_TRIG, 4, 8⟩
def OBS_TRC_TRIG.XIN : Fld := ⟨.OBS_TRC_TRIG, 16, 4⟩
def OBS_TRC_TRIG.XOUT : Fld := ⟨.OBS_TRC_TRIG, 20, 4⟩
def OBS_TRC_CTL.CTL : Fld := ⟨.OBS_TRC_CTL, 0, 5⟩
def OBS_TRC_STATUS.STATE : Fld := ⟨.OBS_TRC_STATUS, 0, 2⟩
def OBS_TRC_STATUS.FROZEN_A : Fld := ⟨.OBS_TRC_STATUS, 2, 1⟩
def OBS_TRC_STATUS.FROZEN_B : Fld := ⟨.OBS_TRC_STATUS, 3, 1⟩
def OBS_TRC_STATUS.HELD : Fld := ⟨.OBS_TRC_STATUS, 4, 14⟩
def OBS_TRC_STATUS.SNAP_MISS : Fld := ⟨.OBS_TRC_STATUS, 18, 8⟩
def OBS_TRC_LOST.COUNT : Fld := ⟨.OBS_TRC_LOST, 0, 32⟩
def OBS_DRN_BASE_LO.BASE : Fld := ⟨.OBS_DRN_BASE_LO, 5, 27⟩
def OBS_DRN_BASE_HI.BASE : Fld := ⟨.OBS_DRN_BASE_HI, 0, 20⟩
def OBS_DRN_BASE_HI.SPACE : Fld := ⟨.OBS_DRN_BASE_HI, 20, 4⟩
def OBS_DRN_CFG.LOG2_SIZE : Fld := ⟨.OBS_DRN_CFG, 0, 5⟩
def OBS_DRN_CFG.DRAIN_EN : Fld := ⟨.OBS_DRN_CFG, 31, 1⟩
def OBS_DRN_TAIL.TAIL : Fld := ⟨.OBS_DRN_TAIL, 0, 32⟩
def OBS_DRN_HEAD.HEAD : Fld := ⟨.OBS_DRN_HEAD, 0, 32⟩
def OBS_WP_BASE_LO.BASE : Fld := ⟨.OBS_WP_BASE_LO, 0, 32⟩
def OBS_WP_BASE_HI.BASE : Fld := ⟨.OBS_WP_BASE_HI, 0, 20⟩
def OBS_WP_BASE_HI.SPACE : Fld := ⟨.OBS_WP_BASE_HI, 20, 4⟩
def OBS_WP_LIMIT_LO.LIMIT : Fld := ⟨.OBS_WP_LIMIT_LO, 0, 32⟩
def OBS_WP_LIMIT_HI.LIMIT : Fld := ⟨.OBS_WP_LIMIT_HI, 0, 20⟩
def OBS_WP_CFG.KIND : Fld := ⟨.OBS_WP_CFG, 0, 3⟩
def OBS_WP_CFG.ORIGIN : Fld := ⟨.OBS_WP_CFG, 3, 3⟩
def OBS_WP_CFG.FILT_TEN : Fld := ⟨.OBS_WP_CFG, 6, 1⟩
def OBS_WP_CFG.ACTION : Fld := ⟨.OBS_WP_CFG, 7, 3⟩
def OBS_WP_CFG.TMASK : Fld := ⟨.OBS_WP_CFG, 10, 4⟩
def OBS_WP_CFG.EN : Fld := ⟨.OBS_WP_CFG, 31, 1⟩
def OBS_WP_TEN.TENANT : Fld := ⟨.OBS_WP_TEN, 0, 10⟩
def OBS_WP_HIT.COUNT : Fld := ⟨.OBS_WP_HIT, 0, 32⟩
def OBS_BP0.CONTEXT : Fld := ⟨.OBS_BP0, 0, 10⟩
def OBS_BP0.ALL : Fld := ⟨.OBS_BP0, 10, 1⟩
def OBS_BP0.SEG : Fld := ⟨.OBS_BP0, 11, 1⟩
def OBS_BP0.EN : Fld := ⟨.OBS_BP0, 31, 1⟩
def OBS_BP1.WORD : Fld := ⟨.OBS_BP1, 0, 15⟩
def OBS_DBG_CTL.CONTEXT : Fld := ⟨.OBS_DBG_CTL, 0, 10⟩
def OBS_DBG_CTL.CMD : Fld := ⟨.OBS_DBG_CTL, 10, 3⟩
def OBS_DBG_STATUS.HALTED : Fld := ⟨.OBS_DBG_STATUS, 0, 1⟩
def OBS_DBG_STATUS.DRAINED : Fld := ⟨.OBS_DBG_STATUS, 1, 1⟩
def OBS_DBG_STATUS.CAUSE : Fld := ⟨.OBS_DBG_STATUS, 4, 4⟩
def OBS_DBG_STATUS.INDEX : Fld := ⟨.OBS_DBG_STATUS, 8, 4⟩
def OBS_STATUS.DOMAIN_ERR : Fld := ⟨.OBS_STATUS, 0, 1⟩
def OBS_STATUS.CFG_ERR : Fld := ⟨.OBS_STATUS, 1, 1⟩
def OBS_STATUS.CONF_REFUSED : Fld := ⟨.OBS_STATUS, 2, 1⟩
def OBS_STATUS.BUSY : Fld := ⟨.OBS_STATUS, 3, 1⟩
def OBS_DBG_REG.VALUE : Fld := ⟨.OBS_DBG_REG, 0, 32⟩
def OBS_TRC_BUF.WORD : Fld := ⟨.OBS_TRC_BUF, 0, 32⟩
def FLT_SEV.SEV : Fld := ⟨.FLT_SEV, 0, 2⟩
def FLT_SEV.COUNT : Fld := ⟨.FLT_SEV, 8, 8⟩
def FLT_PEND.BITS : Fld := ⟨.FLT_PEND, 0, 32⟩
def FLT_FIRST.SRC : Fld := ⟨.FLT_FIRST, 0, 7⟩
def FLT_FIRST.SEV : Fld := ⟨.FLT_FIRST, 8, 2⟩
def FLT_FIRST.UNSURE : Fld := ⟨.FLT_FIRST, 10, 1⟩
def FLT_FIRST.OVERFLOW : Fld := ⟨.FLT_FIRST, 30, 1⟩
def FLT_FIRST.VALID : Fld := ⟨.FLT_FIRST, 31, 1⟩
def FLT_FIRST_TIME.TICKS : Fld := ⟨.FLT_FIRST_TIME, 0, 32⟩
def FLT_SW_RAISE.INDEX : Fld := ⟨.FLT_SW_RAISE, 0, 7⟩
def SPW_INFO.SIZE_64K : Fld := ⟨.SPW_INFO, 0, 16⟩
def SPW_INFO.BANKS : Fld := ⟨.SPW_INFO, 16, 8⟩
def SPW_ECC_CE_CNT.COUNT : Fld := ⟨.SPW_ECC_CE_CNT, 0, 32⟩
def SPW_ECC_UE_CNT.COUNT : Fld := ⟨.SPW_ECC_UE_CNT, 0, 32⟩
def SPW_ECC_LOC.MEM : Fld := ⟨.SPW_ECC_LOC, 0, 4⟩
def SPW_ECC_LOC.WORD : Fld := ⟨.SPW_ECC_LOC, 4, 24⟩
def SPW_ECC_LOC.VALID : Fld := ⟨.SPW_ECC_LOC, 31, 1⟩
def OPT_PORT_CFG.MEDIUM : Fld := ⟨.OPT_PORT_CFG, 0, 1⟩
def OPT_PORT_STATUS.DARK : Fld := ⟨.OPT_PORT_STATUS, 0, 18⟩
def OPT_PORT_STATUS.FIBRE_DARK : Fld := ⟨.OPT_PORT_STATUS, 18, 3⟩
def OPT_PORT_STATUS.TX_DARK : Fld := ⟨.OPT_PORT_STATUS, 21, 1⟩
def OPT_LM_CFG.EN : Fld := ⟨.OPT_LM_CFG, 0, 1⟩
def OPT_LM_CFG.FAST : Fld := ⟨.OPT_LM_CFG, 1, 1⟩
def OPT_LM_CFG.AUTO_ON : Fld := ⟨.OPT_LM_CFG, 2, 1⟩
def OPT_LM_CFG.POLL : Fld := ⟨.OPT_LM_CFG, 8, 8⟩
def OPT_LM_CFG.DRIFT_WARN : Fld := ⟨.OPT_LM_CFG, 16, 8⟩
def OPT_LM_CFG.DRIFT_EOL : Fld := ⟨.OPT_LM_CFG, 24, 8⟩
def OPT_LM_STATUS.STATE : Fld := ⟨.OPT_LM_STATUS, 0, 3⟩
def OPT_LM_STATUS.PRESENT : Fld := ⟨.OPT_LM_STATUS, 3, 1⟩
def OPT_LM_STATUS.NEW : Fld := ⟨.OPT_LM_STATUS, 4, 1⟩
def OPT_LM_STATUS.COMM_ERR : Fld := ⟨.OPT_LM_STATUS, 5, 1⟩
def OPT_LM_STATUS.CH_FAIL : Fld := ⟨.OPT_LM_STATUS, 6, 6⟩
def OPT_LM_HOURS.COUNT : Fld := ⟨.OPT_LM_HOURS, 0, 32⟩
def OPT_LM_HOURS_LIM.WARN : Fld := ⟨.OPT_LM_HOURS_LIM, 0, 16⟩
def OPT_LM_HOURS_LIM.EOL : Fld := ⟨.OPT_LM_HOURS_LIM, 16, 16⟩
def OPT_LM_BIAS.CUR : Fld := ⟨.OPT_LM_BIAS, 0, 16⟩
def OPT_LM_BIAS.REF : Fld := ⟨.OPT_LM_BIAS, 16, 16⟩
def OPT_LM_DRIFT.MAX : Fld := ⟨.OPT_LM_DRIFT, 0, 8⟩
def OPT_LM_DRIFT.CHANNEL : Fld := ⟨.OPT_LM_DRIFT, 8, 3⟩
def OPT_LM_ID.BYTES : Fld := ⟨.OPT_LM_ID, 0, 32⟩
def OPT_LM_CMD.ADDR : Fld := ⟨.OPT_LM_CMD, 0, 8⟩
def OPT_LM_CMD.PAGE : Fld := ⟨.OPT_LM_CMD, 8, 8⟩
def OPT_LM_CMD.DATA : Fld := ⟨.OPT_LM_CMD, 16, 8⟩
def OPT_LM_CMD.WRITE : Fld := ⟨.OPT_LM_CMD, 24, 1⟩
def OPT_LM_CMD.BUSY : Fld := ⟨.OPT_LM_CMD, 30, 1⟩
def OPT_LM_CMD.GO : Fld := ⟨.OPT_LM_CMD, 31, 1⟩
def OPT_LM_CMD_RD.DATA : Fld := ⟨.OPT_LM_CMD_RD, 0, 8⟩
def OPT_LM_CMD_RD.ERR : Fld := ⟨.OPT_LM_CMD_RD, 8, 1⟩

end Sys2Proof.Machine
end

