-- ==== Sys2Proof/Machine/Tab.lean ====
section
/-! DEFINITION. Sparse tables in canonical form: reading, writing, and the predicate of the form. Writing the default
removes the entry, so equal contents are equal data. -/

namespace Sys2Proof.Machine

/-- The value at index k; the default d where k is not listed. -/
def tabGet {α : Type} (d : α) (k : Nat) : Tab α → α
  | [] => d
  | (j, v) :: r => if j = k then v else tabGet d k r

/-- Places v at index k, keeping the indices strictly rising. -/
def tabPut {α : Type} (k : Nat) (v : α) : Tab α → Tab α
  | [] => [(k, v)]
  | (j, w) :: r => if k < j then (k, v) :: (j, w) :: r else if k = j then (k, v) :: r else (j, w) :: tabPut k v r

/-- Removes every entry of index k. -/
def tabDel {α : Type} (k : Nat) : Tab α → Tab α
  | [] => []
  | (j, w) :: r => if j = k then tabDel k r else (j, w) :: tabDel k r

/-- Writes v at index k of a table whose default there is d: writing the default removes the entry. -/
def tabSet {α : Type} [DecidableEq α] (d : α) (k : Nat) (v : α) (t : Tab α) : Tab α :=
  if v = d then tabDel k t else tabPut k v t

/-- The listed index, if any. -/
def tabFind {α : Type} (k : Nat) : Tab α → Option α
  | [] => none
  | (j, v) :: r => if j = k then some v else tabFind k r

/-- The indices rise strictly and every one is above the bound. -/
def tabAbove {α : Type} (b : Nat) : Tab α → Bool
  | [] => true
  | (j, _) :: r => decide (b ≤ j) && tabAbove (j + 1) r

/-- The canonical form: indices strictly rising, no listed value equal to the default d. -/
def tabWf {α : Type} [DecidableEq α] (d : α) (t : Tab α) : Bool :=
  tabAbove 0 t && t.all (fun p => decide (p.2 ≠ d))

/-- Changes the value at index k. -/
def tabMod {α : Type} [DecidableEq α] (d : α) (k : Nat) (f : α → α) (t : Tab α) : Tab α :=
  tabSet d k (f (tabGet d k t)) t

end Sys2Proof.Machine
end

