-- ==== Sys2Proof/Machine/Ops.lean ====
section
/-! DEFINITION. The named operations over registers, time, faults, trace and counters that every family uses. -/

namespace Sys2Proof.Machine

open Sys2Proof

/-! ### Registers -/

/-- The personality in force; before the first sampling the endpoint's reset values apply (log entry 4). (DESIGN CHOICE, log 4; DEDUCED, log 111) -/
def persona (s : State) : Persona :=
  match s.tie with
  | some t => t.persona
  | none => .ep

def isEp (s : State) : Bool := persona s == .ep
def isSw (s : State) : Bool := persona s == .sw
def isMem (s : State) : Bool := persona s == .mem

/-- Reset severities of the fault sources (Table - Fault sources). -/
def fltSevReset (i : Nat) : Nat :=
  if i = 1 ∨ i = 2 ∨ i = 4 ∨ i = 8 ∨ i = 9 then 3
  else if i = 3 ∨ i = 5 ∨ i = 6 ∨ i = 10 ∨ (16 ≤ i ∧ i ≤ 55) then 2
  else if i = 7 ∨ i = 11 ∨ (112 ≤ i ∧ i ≤ 127) then 1
  else 0

/-- Reset credit advertisements (Table - LNK_CREDIT_CFG). -/
def creditReset (v : Nat) : Nat :=
  match v with
  | 0 => 0x00080012
  | 1 => 0x00180070
  | 2 => 0x00100030
  | 3 => 0x00180070
  | 4 => 0x00100070
  | 5 => 0x00080012
  | 6 => 0x00100030
  | _ => 0x0010002C

/-- The reset value of entry (i, j) of a register (R598), the personality and index dependent ones included. (DESIGN CHOICE, log 4) -/
def regReset (p : Persona) (r : RegName) (i j : Nat) : Nat :=
  match r with
  | .GLB_PORT_ROLE =>
    match p with
    | .ep => if i = 0 then 0x55555555 else 0xAAAA5555
    | .mem => 0xAAAAAAAA
    | _ => 0
  | .LNK_LANE_MAP => 0x03020100 + 0x04040404 * j
  | .LNK_CREDIT_CFG => creditReset j
  | .TRW_CTX_CFG => if i < 512 then 0 else 0x01000200
  | .HOD_CFG => if p = .mem then 0x80000200 else 0
  | .FLT_SEV => fltSevReset i
  | _ => (regDesc r).reset

/-- The byte offset of entry (i, j) in the register window (R665). -/
def regOff (r : RegName) (i j : Nat) : Nat := (regDesc r).base + (regDesc r).s1 * i + (regDesc r).s2 * j

/-- A register as it stands. -/
def State.rg (s : State) (r : RegName) (i : Nat := 0) (j : Nat := 0) : W32 :=
  tabGet (BitVec.ofNat 32 (regReset (persona s) r i j)) (regOff r i j) s.regs

/-- Places a value in a register. -/
def State.setRg (s : State) (r : RegName) (v : W32) (i : Nat := 0) (j : Nat := 0) : State :=
  { s with regs := tabSet (BitVec.ofNat 32 (regReset (persona s) r i j)) (regOff r i j) v s.regs }

/-- A field of a register. -/
def State.get (s : State) (f : Fld) (i : Nat := 0) (j : Nat := 0) : Nat :=
  bits (s.rg f.reg i j).toNat f.lo f.w

/-- Places a value in a field of a register. -/
def State.put (s : State) (f : Fld) (v : Nat) (i : Nat := 0) (j : Nat := 0) : State :=
  s.setRg f.reg (BitVec.ofNat 32 (setBits (s.rg f.reg i j).toNat f.lo f.w v)) i j

/-- Adds to a counting field, modulo its width. -/
def State.inc (s : State) (f : Fld) (i : Nat := 0) (j : Nat := 0) (n : Nat := 1) : State :=
  s.put f (s.get f i j + n) i j

/-- Adds to a counting field that stays at its greatest value. -/
def State.incSat (s : State) (f : Fld) (i : Nat := 0) (j : Nat := 0) (n : Nat := 1) : State :=
  s.put f (satAdd (2 ^ f.w - 1) (s.get f i j) n) i j

def State.on (s : State) (f : Fld) (i : Nat := 0) (j : Nat := 0) : Bool := s.get f i j != 0

/-- A 64-bit value in a register pair (R8): the pair's halves are entries j = 0 and 1. -/
def State.get64 (s : State) (r : RegName) (i : Nat) : Nat :=
  (s.rg r i 0).toNat + 2 ^ 32 * (s.rg r i 1).toNat

def State.put64 (s : State) (r : RegName) (i v : Nat) : State :=
  (s.setRg r (BitVec.ofNat 32 v) i 0).setRg r (BitVec.ofNat 32 (v / 2 ^ 32)) i 1

/-- A 64-bit pair that is one array (entries i = 0 and 1). -/
def State.getPair (s : State) (r : RegName) : Nat := (s.rg r 0).toNat + 2 ^ 32 * (s.rg r 1).toNat

def State.putPair (s : State) (r : RegName) (v : Nat) : State :=
  (s.setRg r (BitVec.ofNat 32 v) 0).setRg r (BitVec.ofNat 32 (v / 2 ^ 32)) 1

def State.addPair (s : State) (r : RegName) (n : Nat) : State := s.putPair r (s.getPair r + n)

/-! ### Time -/

/-- Fabric time: the integer part of the counter (R62, R68). -/
def now (s : State) : Nat := s.tim.ticks

/-- The current course and slot (R11, R12). -/
def course (s : State) : Nat := now s / 65536
def slotNow (s : State) : Nat := now s / 256 % 256

/-- The time is sure in LOCKED and MASTER (R70). -/
def sure (s : State) : Bool := s.get TIM_STATUS.STATE == 2 || s.get TIM_STATUS.STATE == 4

/-- CORE runs: CCLK has a source and its gate is open (R588, R590). -/
def coreRuns (s : State) : Bool :=
  s.get CLK_STATUS.CCLK_SRC != 0 && !s.clk.gate && s.clk.heldOff == 0 && !(s.on CLK_STATUS.CLOCK_LOST) &&
  !s.clk.core && !s.clk.por

/-- Arbitration of R13 and R14: the requester whose (index - r) mod n is smallest. (DESIGN CHOICE, log 135) -/
def arbPick (s : State) (n : Nat) (req : List Nat) : Option Nat :=
  let r := course s % n
  (List.range n).findSome? (fun k => let i := (r + k) % n; if req.contains i then some i else none)

/-- A number the spec leaves open, and the state that has drawn it. (DESIGN CHOICE, log 2) -/
def drawFree (s : State) : Nat × State := (Config.free s.free, { s with free := s.free + 1 })

/-- A tenant is confidential (R572). -/
def conf (s : State) (t : Nat) : Bool := t < 512 && s.on SEC_TEN_CFG.CONF t

def serviceDom : Nat := 0x200

/-- The index that a tenant field stands for in per-tenant arrays: the service domain counts as 512. -/
def tenIdx (t : Nat) : Nat := if t = serviceDom then 512 else t

/-- The tenant field of an index. -/
def idxTen (t : Nat) : Nat := if t = 512 then serviceDom else t

/-! ### Leased units (13) -/

/-- Unit kinds (Table - Unit kinds). -/
def ukBond : Nat := 1
def ukKiln : Nat := 2
def ukPage : Nat := 3
def ukHod : Nat := 4
def ukPallet : Nat := 5
def ukCtx : Nat := 6

def unitKey (k i : Nat) : Nat := k * 65536 + i

/-- The lease of a unit at reset: hods of a memory device belong to the service domain. -/
def unitDefault (s : State) (k : Nat) : Lease := if k = 4 && isMem s then ⟨serviceDom, true, 0, false⟩ else ⟨0, false, 0, false⟩

/-- The lease of a unit, as held. (DEDUCED, log 103) -/
def unitOf (s : State) (k i : Nat) : Lease := (tabFind (unitKey k i) s.sec.units).getD (unitDefault s k)

def setUnit (s : State) (k i : Nat) (l : Lease) : State :=
  { s with sec := { s.sec with units := tabPut (unitKey k i) l s.sec.units } }

def ownFlat (s : State) : Nat := s.get GLB_FLAT_ID.FLAT_ID

/-! ### Trace units (R646 to R651) -/

def Trc.zero : Trc := ⟨[], 0, false, false, 0, 0, none, 0, [], [], none, 0⟩

def trcOf (s : State) (u : Nat) : Trc := tabGet Trc.zero u s.obs.trc
def setTrc (s : State) (u : Nat) (t : Trc) : State :=
  { s with obs := { s.obs with trc := tabSet Trc.zero u t s.obs.trc } }

/-- HELD counts the records held, the frozen halves included. -/
def trcHeld (t : Trc) : Nat := t.recs.length + t.frozenA.length + t.frozenB.length

def putHeld (s : State) (u : Nat) : State := s.put OBS_TRC_STATUS.HELD (trcHeld (trcOf s u)) u

/-- A record taken off the oldest end. -/
def trcPopOldest (t : Trc) : Trc := { t with recs := t.recs.drop 1 }

/-- Appends a record at the unit's next buffer index, within its ring (8192 entries, or half of them under SNAP). -/
def trcAppend (snap : Bool) (t : Trc) (r : TrcRec) : Trc :=
  if snap then
    { t with recs := t.recs ++ [(t.half * 4096 + t.head % 4096, r)], head := (t.head + 1) % 4096 }
  else { t with recs := t.recs ++ [(t.head % 8192, r)], head := (t.head + 1) % 8192 }

/-- One more event lost, in the register and toward the next LOST record (R647 to R649). -/
def trcLose (s : State) (u : Nat) : State :=
  (setTrc s u { trcOf s u with lost := (trcOf s u).lost + 1 }).inc OBS_TRC_LOST.COUNT u

def lostRec (s : State) (n : Nat) : TrcRec :=
  ⟨now s, 0, 4 + (if sure s then 0 else 2), 0x3FF, 0, leBytes 16 n⟩

/-- Stores one record under the unit's policy (R648 to R650). -/
def trcStore (s : State) (u : Nat) (r : TrcRec) : State :=
  let t := trcOf s u
  let pre := s.get OBS_TRC_CFG.PRE u * 512
  match s.get OBS_TRC_CFG.POLICY u with
  | 0 =>
    if 8192 ≤ t.recs.length then
      let s1 := trcLose (setTrc s u (trcPopOldest t)) u
      setTrc s1 u (trcAppend false (trcOf s1 u) r)
    else setTrc s u (trcAppend false t r)
  | 1 =>
    if t.trig then
      if 8192 ≤ t.recs.length then trcLose s u else setTrc s u (trcAppend false t r)
    else if pre ≤ t.recs.length then
      let s1 := trcLose (setTrc s u (trcPopOldest t)) u
      if pre = 0 then s1 else setTrc s1 u (trcAppend false (trcOf s1 u) r)
    else setTrc s u (trcAppend false t r)
  | _ =>
    if 4096 ≤ t.recs.length then setTrc s u (trcAppend true (trcPopOldest t) r)
    else setTrc s u (trcAppend true t r)

/-- Stores the LOST record that is due, where the policy stores one now (R649). -/
def trcLostDue (s : State) (u : Nat) (before : Bool) : State :=
  let t := trcOf s u
  let pol := s.get OBS_TRC_CFG.POLICY u
  if t.lost = 0 then s
  else if (before && pol == 1 && t.recs.length < 8192) || (!before && pol == 0) then
    trcStore (setTrc s u { t with lost := 0 }) u (lostRec s t.lost)
  else s

/-- A snap of unit u (R650): freezes the current half unless the other half is still frozen. -/
def trcSnap (s : State) (u : Nat) : State :=
  let t := trcOf s u
  if s.get OBS_TRC_CFG.POLICY u ≠ 2 then s
  else if t.half = 0 then
    if s.on OBS_TRC_STATUS.FROZEN_B u then s.incSat OBS_TRC_STATUS.SNAP_MISS u
    else putHeld ((setTrc s u { t with frozenA := t.recs, recs := [], head := 0, half := 1 }).put
      OBS_TRC_STATUS.FROZEN_A 1 u) u
  else
    if s.on OBS_TRC_STATUS.FROZEN_A u then s.incSat OBS_TRC_STATUS.SNAP_MISS u
    else putHeld ((setTrc s u { t with frozenB := t.recs, recs := [], head := 0, half := 0 }).put
      OBS_TRC_STATUS.FROZEN_B 1 u) u

/-- The unit is armed and records. -/
def trcLive (s : State) (u : Nat) : Bool :=
  s.get OBS_TRC_STATUS.STATE u == 1 || s.get OBS_TRC_STATUS.STATE u == 2

/-- Fires the trigger of one unit, at most once per arming (R651). -/
def trcFireOne (s : State) (u : Nat) : State :=
  let t := trcOf s u
  if !(trcLive s u) || t.trig then s
  else if s.get OBS_TRC_CFG.POLICY u = 2 then
    trcSnap (setTrc s u { t with mark := true }) u
  else
    (setTrc s u { t with mark := true, trig := true, left := 8192 - s.get OBS_TRC_CFG.PRE u * 512 }).put
      OBS_TRC_STATUS.STATE 2 u

/-- Fires unit u and the units its XOUT signals, which fire under TSRC CROSS with u in XIN (R651). -/
def trcFire : Nat → State → Nat → State
  | 0, s, _ => s
  | n + 1, s, u =>
    let s1 := trcFireOne s u
    if !(trcLive s u) || (trcOf s u).trig then s
    else
      [0, 1, 2, 3].foldl (fun acc v =>
        if bit (acc.get OBS_TRC_TRIG.XOUT u) v && v != u && acc.get OBS_TRC_TRIG.TSRC v == 5
            && bit (acc.get OBS_TRC_TRIG.XIN v) u then trcFire n acc v
        else acc) s1

/-- Offers a trigger condition of source src and target targ to every unit (R651). -/
def trcOffer (s : State) (src targ : Nat) : State :=
  [0, 1, 2, 3].foldl (fun acc u =>
    if trcLive acc u && acc.get OBS_TRC_TRIG.TSRC u == src && acc.get OBS_TRC_TRIG.TARG u == targ
    then trcFire 4 acc u else acc) s

/-- The unit's filters of tenant, tag and port pass (R646). -/
def trcPasses (s : State) (u src ten tag : Nat) (port : Option Nat) : Bool :=
  (s.get OBS_TRC_CFG.SRC u == src) &&
  (!(s.on OBS_TRC_CFG.FILT_TEN u) || s.get OBS_TRC_CFG.TENANT u == ten) &&
  (!(s.on OBS_TRC_CFG.FILT_TAG u) ||
    (ten != 0x3FF && ((tag ^^^ (s.rg .OBS_TRC_TAG_VAL u).toNat) &&& (s.rg .OBS_TRC_TAG_MASK u).toNat) == 0)) &&
  (match port with
   | some p => bit (s.rg .OBS_TRC_PORT_MASK u).toNat p
   | none => true)

/-- Unit u takes one matching event: at most one in a CCLK cycle, then the record, the trigger mark and the KIND trigger
(R646, R647, R651). -/
def trcTake (s : State) (u kind : Nat) (r : TrcRec) : State :=
  let t := trcOf s u
  if t.trig && t.left = 0 then s
  else if t.cycle = some s.clk.cclk then trcLose s u
  else
    let s0 := setTrc s u { t with cycle := some s.clk.cclk }
    let s1 := if s0.get OBS_TRC_TRIG.TSRC u == 1 && s0.get OBS_TRC_TRIG.TARG u == kind then trcFire 4 s0 u else s0
    let s2 := trcLostDue s1 u true
    let t2 := trcOf s2 u
    let r2 := if t2.mark then { r with flags := r.flags + 8 } else r
    let s3 := trcStore (setTrc s2 u { t2 with mark := false, left := t2.left - (if t2.trig then 1 else 0) }) u r2
    putHeld (trcLostDue s3 u false) u

/-- An event of a trace source: event number evt within source src, tenant (0x3FF for none), tag, detail (R646, R653). -/
def traceEv (s : State) (src evt ten tag : Nat) (port : Option Nat) (detail : List Byte) : State :=
  let kind := src + 16 * evt
  let masked := conf s ten
  let fl := (if sure s then 0 else 2) + (if masked then 16 else 0) + (if s.clk.gapCore then 1 else 0)
  let r : TrcRec := ⟨now s, kind, fl, ten, if masked then 0 else tag,
    if masked then leBytes 16 0 else (detail ++ leBytes 16 0).take 16⟩
  let s1 := [0, 1, 2, 3].foldl (fun acc u => if trcLive acc u && trcPasses acc u src ten tag port then trcTake acc u kind r else acc) s
  if [0, 1, 2, 3].any (fun u => trcLive s u && trcPasses s u src ten tag port) then { s1 with clk := { s1.clk with gapCore := false } } else s1

/-! ### Selectable counters (R634, R635, R638) -/

/-- The counters that some write has configured and enabled: only they can count. -/
def ctrLive (s : State) : List Nat :=
  (s.regs.filterMap (fun p =>
    if regOff .OBS_CTR_SEL0 0 0 ≤ p.1 ∧ p.1 < regOff .OBS_CTR_SEL0 256 0 ∧ (p.1 - regOff .OBS_CTR_SEL0 0 0) % 16 = 0
        ∧ p.2.toNat.testBit 31 = true
    then some ((p.1 - regOff .OBS_CTR_SEL0 0 0) / 16) else none))

/-- Whether counter i is one of the census counters (R638), whose select registers are ignored. -/
def inCensus (s : State) (i : Nat) : Bool :=
  s.on OBS_CENSUS_CFG.EN && (64 * s.get OBS_CENSUS_CFG.BASE ≤ i) && (i ≤ 64 * s.get OBS_CENSUS_CFG.BASE + 39)

/-- Counter i matches an event of this kind, parameters, tenant, tag and unit (kind, index). -/
def ctrMatch (s : State) (i ev pa pb : Nat) (ten tag : Option Nat) (unit : Nat × Nat) : Bool :=
  !(inCensus s i) && !(s.obs.frozenIdx.contains i) && s.on OBS_CTR_SEL0.EN i && s.get OBS_CTR_SEL0.EVENT i == ev &&
  (s.get OBS_CTR_SEL0.PARAM_A i == 255 || s.get OBS_CTR_SEL0.PARAM_A i == pa) &&
  (s.get OBS_CTR_SEL0.PARAM_B i == 255 || s.get OBS_CTR_SEL0.PARAM_B i == pb) &&
  (!(s.on OBS_CTR_SEL0.FILT_TEN i) || ten == some (s.get OBS_CTR_SEL1.TENANT i)) &&
  (!(s.on OBS_CTR_SEL0.FILT_TAG i) ||
    (match tag with
     | some g => ((g ^^^ (s.rg .OBS_CTR_SEL2 i).toNat) &&& (s.rg .OBS_CTR_SEL3 i).toNat) == 0
     | none => false)) &&
  (!(s.on OBS_CTR_SEL0.FILT_UNIT i) ||
    (s.get OBS_CTR_SEL1.UKIND i == unit.1 && s.get OBS_CTR_UNIT.INDEX i == unit.2))

/-- An event counts n in every matching counter (R634). (DEDUCED, log 94) -/
def count (s : State) (ev pa pb : Nat) (ten tag : Option Nat) (unit : Nat × Nat) (n : Nat := 1) : State :=
  (ctrLive s).foldl (fun acc i => if ctrMatch acc i ev pa pb ten tag unit then
    acc.put64 .OBS_CTR i (acc.get64 .OBS_CTR i + n) else acc) s

/-- Census point k counts n payload bytes of a packet with this tenant and tag (R638). -/
def census (s : State) (k ten tag n : Nat) : State :=
  if !(s.on OBS_CENSUS_CFG.EN) then s
  else if (!(s.on OBS_CENSUS_CFG.FILT_TEN) || s.get OBS_CENSUS_CFG.TENANT == ten) &&
      (!(s.on OBS_CENSUS_CFG.FILT_TAG) ||
        ((tag ^^^ (s.rg .OBS_CENSUS_TAG_VAL).toNat) &&& (s.rg .OBS_CENSUS_TAG_MASK).toNat) == 0) then
    let i := 64 * s.get OBS_CENSUS_CFG.BASE + k
    s.put64 .OBS_CTR i (s.get64 .OBS_CTR i + n)
  else s

/-! ### Faults (R660 to R664) -/

def fltPending (s : State) (src : Nat) : Bool := bit (s.rg .FLT_PEND (src / 32)).toNat (src % 32)

/-- Source a would be presented before source b: higher severity, then lower index (R662). -/
def fltBefore (s : State) (a b : Nat) : Bool :=
  s.get FLT_SEV.SEV b < s.get FLT_SEV.SEV a || (s.get FLT_SEV.SEV a == s.get FLT_SEV.SEV b && a < b)

/-- Takes the first-raise capture for source src (R664). -/
def fltCapture (s : State) (src : Nat) : State :=
  let s1 := (((s.put FLT_FIRST.SRC src).put FLT_FIRST.SEV (s.get FLT_SEV.SEV src)).put FLT_FIRST.UNSURE
    (b2n (!(sure s)))).put FLT_FIRST.VALID 1
  (s1.putPair .FLT_FIRST_TIME (now s))

/-- Raises a fault source: pending bit, count, first-raise capture, trace and triggers (R661, R664, R646). -/
def raise (s : State) (src : Nat) : State :=
  let s1 := (s.setRg .FLT_PEND (BitVec.ofNat 32 (maskSet (s.rg .FLT_PEND (src / 32)).toNat (src % 32))) (src / 32)).incSat
    FLT_SEV.COUNT src
  let sev := s.get FLT_SEV.SEV src
  let s2 :=
    if sev = 0 then s1
    else if !(s1.on FLT_FIRST.VALID) then
      { fltCapture s1 src with obs := { s1.obs with flt := { s1.obs.flt with firstAt := s1.clk.rcosc } } }
    else
      let s3 := s1.put FLT_FIRST.OVERFLOW 1
      if s1.obs.flt.firstAt = s1.clk.rcosc && fltBefore s1 src (s1.get FLT_FIRST.SRC) then fltCapture s3 src else s3
  trcOffer (traceEv s2 8 0 0x3FF 0 none [BitVec.ofNat 8 src, BitVec.ofNat 8 sev]) 3 src

/-! ### Access errors (R675) -/

/-- A register access as the error capture sees it. -/
structure AccInfo where
  path : Nat
  dom : Nat
  off : Nat
  write : Bool
  boot : Bool
deriving DecidableEq, Repr

/-- Sets a bit of GLB_ACCESS_ERR, captures the causing access where none is held, and raises ACCESS_ERR (R675, R660). (DEDUCED, log 128) -/
def accErr (s : State) (a : AccInfo) (f : Fld) : State :=
  let s1 := s.put f 1
  let s2 :=
    if s1.on GLB_ACCESS_ERR_INFO.VALID then s1
    else
      (((((s1.put GLB_ACCESS_ERR_INFO.PATH a.path).put GLB_ACCESS_ERR_INFO.OFFSET (a.off / 4)).put
        GLB_ACCESS_ERR_INFO.WRITE (b2n a.write)).put GLB_ACCESS_ERR_INFO.BOOT (b2n a.boot)).put
        GLB_ACCESS_ERR_INFO.VALID 1).put GLB_ACCESS_ERR_DOM.DOMAIN a.dom
  raise s2 11

end Sys2Proof.Machine
end

