-- ==== Sys2Proof/Machine/Mem.lean ====
section
/-! DEFINITION. The block's accesses to its own device's memory: addresses, translation, windows, watchpoints, and the
accesses under way with their order (01, 07, 13, 16, 18). HOST bytes lie outside the block; the scratchpad is held here. -/

namespace Sys2Proof.Machine

open Sys2Proof

/-! ### Addresses and rights -/

/-- SPACE and OFFSET of a target address (R43). -/
def spaceOf (a : Nat) : Nat := bits a 52 4
def offsetOf (a : Nat) : Nat := a % 2 ^ 52
/-- A reserved SPACE value, or a set bit above it (R44). -/
def badSpace (a : Nat) : Bool := 3 ≤ spaceOf a || 2 ^ 56 ≤ a

def spwSize : Nat := 0x3000000
def regSize : Nat := 0x1000000

/-- The range lies within its space (R45). -/
def inSpace (space off len : Nat) : Bool :=
  match space with
  | 0 => off + len ≤ 2 ^ 52
  | 1 => off + len ≤ spwSize
  | _ => off + len ≤ regSize

/-- The outcome of translating a VEID (R55): a flat ID or a status. -/
def translate (s : State) (t veid : Nat) (op : Nat) : Except Nat Nat :=
  let fin (dst : Nat) : Except Nat Nat := if 0xC000 ≤ dst && op != 1 && op != 3 then .error 0x0F else .ok dst
  if t = serviceDom then fin veid
  else
    let cfg := tabGet 0 t s.views
    if !(bit cfg 31) || bits cfg 16 10 * 64 ≤ veid then .error 0x07
    else
      let e := (s.rg .TEN_VIEW_ENTRY (bits cfg 0 11 * 64 + veid)).toNat
      if !(bit e 16) || !(bit e (17 + op)) then .error 0x07
      else fin (e % 65536)

/-- Window k of tenant t permits the bytes with a permission bit, and REMOTE where it must (R545). -/
def winPermits (s : State) (t k space off len perm : Nat) (remote : Bool) : Bool :=
  let lo := (s.get TEN_WIN_BASE_LO.BASE t k) * 4096 + 2 ^ 32 * s.get TEN_WIN_BASE_HI.BASE t k
  let hi := (s.get TEN_WIN_LIMIT_LO.LIMIT t k) * 4096 + 2 ^ 32 * s.get TEN_WIN_LIMIT_HI.LIMIT t k + 0xFFF
  s.on TEN_WIN_LIMIT_HI.EN t k && s.get TEN_WIN_BASE_HI.SPACE t k == space && lo ≤ off && off + len ≤ hi + 1 &&
  bit (s.rg .TEN_WIN_LIMIT_HI t k).toNat (24 + perm) && (!remote || s.on TEN_WIN_LIMIT_HI.REMOTE t k)

/-- The windows permit an access of a tenant: perm 0 RD, 1 WR, 2 ATOM. The service domain has no windows. (DEDUCED, log 43) -/
def winOk (s : State) (t space off len perm : Nat) (remote : Bool) : Bool :=
  t == serviceDom || [0, 1, 2, 3].any (fun k => winPermits s t k space off len perm remote)

/-- Ranges of the scratchpad that R615 protects: module ranges, old ranges and the staging slots' load ranges. -/
def protRanges (s : State) : List (Nat × Nat) :=
  ((List.range 16).filterMap (fun k => if s.on TRW_MOD0.VALID k then
      some (s.get TRW_MOD1.BASE_4K k, s.get TRW_MOD1.SIZE_4K k) else none)) ++
  s.boot.old.map (fun r => (r.1, r.2.1)) ++
  s.boot.stage.map (fun p => (p.2.base, p.2.size))

def overlaps (a n b m : Nat) : Bool := a < b + m && b < a + n

/-- A write of these scratchpad bytes is refused under R615. (DEDUCED, log 92) -/
def spwProtected (s : State) (off len : Nat) : Bool :=
  (protRanges s).any (fun r => overlaps off len (r.1 * 4096) (r.2 * 4096))

/-! ### The scratchpad bytes -/

/-- A byte of the scratchpad. (DEDUCED, log 16) -/
def spwGet (s : State) (a : Nat) : Byte := tabGet 0 a s.xf.spw

def spwRead (s : State) (a n : Nat) : List Byte := (List.range n).map (fun k => spwGet s (a + k))

def spwPut (m : List Host.Cell) (a : Nat) : List Byte → List Host.Cell
  | [] => m
  | b :: r => spwPut (tabSet 0 a b m) (a + 1) r

def spwWrite (s : State) (a : Nat) (d : List Byte) : State :=
  { s with xf := { s.xf with spw := spwPut s.xf.spw a d } }

def spwZero (s : State) (a n : Nat) : State :=
  { s with xf := { s.xf with spw := s.xf.spw.filter (fun c => c.1 < a || a + n ≤ c.1) } }

/-- The 64-bit word at an 8-byte aligned scratchpad offset. -/
def spwWord (s : State) (a : Nat) : W64 := BitVec.ofNat 64 (ofLe (spwRead s a 8))

/-! ### Atomic arithmetic (R239) -/

/-- The new value of an operand of w bits under an atomic operation with operand a and comparand c. -/
def atomNew (op w m a c : Nat) : Nat :=
  let a' := a % 2 ^ w
  match op with
  | 0 => (m + a') % 2 ^ w
  | 1 => a'
  | 2 => if m = c % 2 ^ w then a' else m
  | 3 => if sgn w m ≤ sgn w a' then m else a'
  | 4 => if sgn w a' ≤ sgn w m then m else a'
  | 5 => Nat.min m a'
  | 6 => Nat.max m a'
  | 7 => m &&& a'
  | 8 => m ||| a'
  | _ => m ^^^ a'

/-! ### Contexts -/

def Ctx.zero : Ctx :=
  ⟨none, [], 1, [], 0, 0, ⟨false, 1⟩, [], none, [], none, none, none, none, 0, none, none, none, false, false, 0, []⟩

/-- The context as it is at reset: service contexts are bound to the service domain (R110, R111). -/
def ctxDefault (c : Nat) : Ctx := if 512 ≤ c then { Ctx.zero with ten := some serviceDom } else Ctx.zero

def ctxOf (s : State) (c : Nat) : Ctx := tabGet (ctxDefault c) c s.prog.ctx
def setCtx (s : State) (c : Nat) (x : Ctx) : State :=
  { s with prog := { s.prog with ctx := tabSet (ctxDefault c) c x s.prog.ctx } }
def updCtx (s : State) (c : Nat) (f : Ctx → Ctx) : State := setCtx s c (f (ctxOf s c))

/-! ### Accesses -/

/-- The brick parts of a range, in address order (R318). -/
def brickParts : Nat → Nat → Nat → List Byte → List Part
  | 0, _, _, _ => []
  | f + 1, a, n, d =>
    if n = 0 then []
    else
      let k := Nat.min n (128 - a % 128)
      ⟨a, k, d.take k, .waiting⟩ :: brickParts f (a + k) (n - k) (d.drop k)

def partWaits (p : Part) : Bool :=
  match p.st with
  | .waiting => true
  | .beat => true
  | _ => false

/-- Every memory request of the access has been accepted (07, Accepted and coherent). (DEDUCED, log 138) -/
def txnAccepted (t : Txn) : Bool := t.parts.all (fun p => !(partWaits p))

def txnById (s : State) (id : Nat) : Option Txn := s.xf.txns.find? (fun t => t.id == id)

/-- The access is accepted, or finished and gone. -/
def idAccepted (s : State) (id : Nat) : Bool :=
  match txnById s id with
  | some t => txnAccepted t
  | none => true

/-- The access has finished: for a write, it is coherent. -/
def idGone (s : State) (id : Nat) : Bool := (txnById s id).isNone

def isWrite (o : MemOp) : Bool := match o with | .wr => true | _ => false

/-- Starts an access: its parts wait at their channels or banks. Gives its number. (DEDUCED, log 93) -/
def newTxn (s : State) (space : Nat) (op : MemOp) (req a n : Nat) (d : List Byte) (why : Why) (after afterCoh : List Nat)
    (ctx : Option Nat) (ten : Nat) : State × Nat :=
  let id := s.xf.nextTxn
  let t : Txn := ⟨id, space, op, req, brickParts (n / 128 + 2) a n d, why, after, afterCoh, [], ctx, ten⟩
  ({ s with xf := { s.xf with txns := s.xf.txns ++ [t], nextTxn := id + 1 } }, id)

/-- The local writes of context c that have not been accepted: later local accesses wait for them (R306). -/
def ctxWrites (s : State) (c : Nat) : List Nat :=
  (s.xf.txns.filter (fun t => t.ctx == some c && !(match t.op with | .rd => true | _ => false) && !(txnAccepted t))).map (·.id)

def updTxn (s : State) (id : Nat) (f : Txn → Txn) : State :=
  { s with xf := { s.xf with txns := s.xf.txns.map (fun t => if t.id == id then f t else t) } }

def dropTxn (s : State) (id : Nat) : State :=
  { s with xf := { s.xf with txns := s.xf.txns.filter (fun t => t.id != id) } }

def opById (s : State) (id : Nat) : Option Op := s.xf.ops.find? (fun o => o.id == id)

/-- The replay entries of an operation. -/
def opEntries (s : State) (id : Nat) : List Replay :=
  ((s.xf.replay.map (fun x => x.2)).flatten).filter (fun r => r.op == id)

/-- The operation whose access of its own device's memory this is, source reads of packets aside. -/
def whyLocal (w : Why) : Option Nat :=
  match w with
  | .local o => some o
  | .move o _ => some o
  | .latom o => some o
  | _ => none

def opLocals (s : State) (id : Nat) : List Txn := s.xf.txns.filter (fun t => whyLocal t.why == some id)

/-- Everything of the operation has been sent, or it sends nothing more. -/
def opSent (o : Op) : Bool := o.stopped || (o.listed && o.pieces.isEmpty && o.sigs.isEmpty && o.reading.isNone)

/-- The bond engine or the kiln still works for the operation. -/
def opEngine (s : State) (id : Nat) : Bool :=
  s.bnd.colls.any (fun x => x.op == id) || s.kiln.jobs.any (fun j => j.mode == 1 && j.key == id)

/-- The reads of an operation have returned their data, and its local writes are accepted (R306, R313). (DEDUCED, log 138) -/
def opReturned (s : State) (id : Nat) : Bool :=
  match opById s id with
  | none => true
  | some o => opSent o && !(opEngine s id) && (opEntries s id).all (fun r => !r.rsp) && o.rcb == 0 &&
      (opLocals s id).all (fun t => txnAccepted t && (match t.why with | .move _ _ => false | .latom _ => false | _ => true))

/-- The operations of context c that a later local access waits for: acquiring reads (R316) and writers of the own memory
(R306). -/
def ctxOps (s : State) (c : Nat) : List Nat :=
  (s.xf.ops.filter (fun o => o.ctx == c && (o.local? || (ctxOf s c).acq.contains o.id) && !(opReturned s o.id))).map (·.id)

/-- Makes the access with a number wait for operations. -/
def txnAfterOps (s : State) (id : Nat) (l : List Nat) : State :=
  { s with xf := { s.xf with txns := s.xf.txns.map (fun t => if t.id == id then { t with afterOps := l } else t) } }

/-- A local access of context c, ordered under R306 and R316. -/
def localTxn (s : State) (c space : Nat) (op : MemOp) (req a n : Nat) (d : List Byte) (why : Why) : State × Nat :=
  let r := newTxn s space op req a n d why (ctxWrites s c) [] (some c) ((ctxOf s c).ten.getD 0)
  (txnAfterOps r.1 r.2 (ctxOps s c), r.2)

/-- The first part that waits, where the order rules let it issue: earlier parts accepted, named accesses accepted or
coherent (R305, R306, R246). -/
def readyPart (s : State) (t : Txn) : Option (Nat × Part) :=
  if t.after.all (idAccepted s) && t.afterCoh.all (idGone s) && t.afterOps.all (opReturned s) then
    match (t.parts.zipIdx.find? (fun p => partWaits p.1)) with
    | some (p, k) => some (k, p)
    | none => none
  else none

def setPart (t : Txn) (k : Nat) (f : Part → Part) : Txn :=
  { t with parts := t.parts.zipIdx.map (fun p => if p.2 == k then f p.1 else p.1) }

/-- The data of a finished access, in address order. -/
def txnData (t : Txn) : List Byte := (t.parts.map (·.data)).flatten

def txnDone (t : Txn) : Bool := t.parts.all (fun p => match p.st with | .done => true | .refused => true | _ => false)
def txnRefused (t : Txn) : Bool := t.parts.any (fun p => p.st == .refused)

/-- Accesses whose reason has ended: they go on, and their completion has no effect. -/
def inertTxns (s : State) (c : Why → Bool) : State :=
  { s with xf := { s.xf with txns := s.xf.txns.map (fun t => if c t.why then { t with why := .none } else t) } }

/-! ### Turulut channels (R686 to R691) -/

def tuGen2 (s : State) : Bool := match s.tie with | some t => t.tuGen | none => false
def tuIlv (s : State) : Nat := match s.tie with | some t => t.tuIlv | none => 0

/-- The channel of the brick at an address (R687). -/
def channelOf (s : State) (a : Nat) : Nat := bits a (7 + tuIlv s) 5

/-- The tags outstanding on a channel. -/
def tagsOut (s : State) (ch : Nat) : List Nat :=
  (s.xf.txns.map (fun t => t.parts.filterMap (fun p => match p.st with | .sent c g => if c == ch then some g else none | _ => none))).flatten

/-- The accesses of a channel in the order in which they were made; a part whose first T1 beat has transferred comes
first (R688). -/
def channelNext (s : State) (ch : Nat) : Option (Nat × Nat × Part) :=
  let half := s.xf.txns.findSome? (fun t =>
    match t.parts.zipIdx.find? (fun p => p.1.st == .beat && channelOf s p.1.addr == ch) with
    | some (p, k) => some (t.id, k, p)
    | none => none)
  match half with
  | some x => some x
  | none =>
    s.xf.txns.findSome? (fun t =>
      if t.space != 0 then none
      else match readyPart s t with
        | some (k, p) => if channelOf s p.addr == ch then some (t.id, k, p) else none
        | none => none)

def freeTag (s : State) (ch : Nat) : Option Nat :=
  let used := tagsOut s ch
  (List.range 256).find? (fun g => !(used.contains g))

/-! ### Watchpoints (R654, R655) -/

/-- The watchpoints that a write has configured and enabled. -/
def wpLive (s : State) : List Nat :=
  s.regs.filterMap (fun p =>
    if regOff .OBS_WP_CFG 0 0 ≤ p.1 ∧ p.1 < regOff .OBS_WP_CFG 64 0 ∧ (p.1 - regOff .OBS_WP_CFG 0 0) % 32 = 0
        ∧ p.2.toNat.testBit 31 = true
    then some ((p.1 - regOff .OBS_WP_CFG 0 0) / 32) else none)

/-- Watchpoint w matches an access: kind 0 RD, 1 WR, 2 ATOM; origin 0 context, 1 packet, 2 host inbound. -/
def wpMatch (s : State) (w kind origin space a n ten : Nat) : Bool :=
  let lo := (s.rg .OBS_WP_BASE_LO w).toNat + 2 ^ 32 * s.get OBS_WP_BASE_HI.BASE w
  let hi := (s.rg .OBS_WP_LIMIT_LO w).toNat + 2 ^ 32 * s.get OBS_WP_LIMIT_HI.LIMIT w
  s.on OBS_WP_CFG.EN w && bit (s.get OBS_WP_CFG.KIND w) kind && bit (s.get OBS_WP_CFG.ORIGIN w) origin &&
  s.get OBS_WP_BASE_HI.SPACE w == space && a ≤ hi && lo < a + n && 0 < n &&
  (!(s.on OBS_WP_CFG.FILT_TEN w) || s.get OBS_WP_TEN.TENANT w == ten) && !(conf s ten)

/-- A watchpoint hit: count, and the TRACE, TRIG and HALT actions (R655). -/
def wpHit (s : State) (w kind ten tag src addr : Nat) (ctx : Option Nat) : State :=
  let s0 := count (s.inc OBS_WP_HIT.COUNT w) 0x11 w 255 (some ten) (some tag) (0, 0)
  let act := s0.get OBS_WP_CFG.ACTION w
  let s1 := if bit act 0 then
      [0, 1, 2, 3].foldl (fun acc u => if bit (acc.get OBS_WP_CFG.TMASK w) u && trcLive acc u && trcPasses acc u 9 ten tag none then
        trcTake acc u 9 ⟨now acc, 9, if sure acc then 0 else 2, ten, tag,
          [BitVec.ofNat 8 w, BitVec.ofNat 8 kind] ++ leBytes 2 src ++ leBytes 4 0 ++ leBytes 8 addr⟩ else acc) s0
    else s0
  let s2 := if bit act 1 then trcOffer s1 2 w else s1
  match ctx with
  | some c => if bit act 2 then updCtx s2 c (fun x => { x with haltReq := some (2, w % 16) }) else s2
  | none => s2

/-- Every watchpoint is offered one performed access, once (R654). -/
def watch (s : State) (kind origin space a n ten tag src : Nat) (ctx : Option Nat) : State :=
  (wpLive s).foldl (fun acc w => if wpMatch acc w kind origin space a n ten then wpHit acc w kind ten tag src (a + space * 2 ^ 52) ctx else acc) s

end Sys2Proof.Machine
end

