-- ==== Sys2Proof/Machine/Prog.lean ====
section
/-! DEFINITION. Commands, submission queues, doorbells, completion and completion rings (03). -/

namespace Sys2Proof.Machine

open Sys2Proof

/-! ### Statuses -/

/-- The rank of a status code (Table - Status codes); 1 is the highest precedence. -/
def rank (code : Nat) : Nat :=
  match code with
  | 0x00 => 16
  | 0x01 => 11
  | 0x02 => 4
  | 0x03 => 5
  | 0x04 => 8
  | 0x05 => 9
  | 0x06 => 3
  | 0x07 => 2
  | 0x08 => 13
  | 0x09 => 12
  | 0x0A => 14
  | 0x0B => 10
  | 0x0C => 7
  | 0x0D => 6
  | 0x0E => 15
  | _ => 1

/-- A stopping status (R152). -/
def stopping (code : Nat) : Bool := rank code ≤ 10

/-- The status of highest precedence; of several of one rank the first raised (R151, log entry 9). (DESIGN CHOICE, log 9) -/
def topStat (l : List Stat) : Stat :=
  l.foldl (fun best x => if rank x.code < rank best.code then x else best) ⟨0, 0⟩

def badCmd (word reason : Nat) : Stat := ⟨0x0F, word + reason * 65536⟩
/-- Status ACCESS with its detail (R151). (DEDUCED, log 35) -/
def accessSt (word dst : Nat) : Stat := ⟨0x07, word + dst * 65536⟩
/-- Status STALE_ROLE with its detail (R151). (DEDUCED, log 34) -/
def staleSt (kind gen idx : Nat) : Stat := ⟨0x02, kind + gen * 256 + idx * 65536⟩
def limitSt (word reason : Nat) : Stat := ⟨0x05, word + reason * 65536 + 2 ^ 63⟩
/-- Status ABORTED with its detail (R146). (DEDUCED, log 127) -/
def abortedSt (word : Nat) : Stat := ⟨0x0B, word⟩

/-! ### Commands of a context -/

def cmdOf (s : State) (c k : Nat) : Option Cmd := (ctxOf s c).cmds.find? (fun m => m.id == k)

def updCmd (s : State) (c k : Nat) (f : Cmd → Cmd) : State :=
  updCtx s c (fun x => { x with cmds := x.cmds.map (fun m => if m.id == k then f m else m) })

/-- The word index as a record gives it: bit 15 marks the code region (R214). -/
def ptIndex (p : Pt) : Nat := if p.code then 0x8000 + p.word % 0x8000 else p.word

/-- Removes the step limit of every bond slot whose collective this command started (R252). -/
def dropLimits (s : State) (c k : Nat) : State :=
  { s with bnd := { s.bnd with colls := s.bnd.colls.map (fun (x : Coll) => if s.xf.ops.any (fun o => o.id == x.op && o.ctx == c && o.cmd == k) then { x with limit := 0 } else x) } }

/-- Begins the next fetched command of a context that issues none: word 1, empty stack (R176, R137). -/
def beginNext (s : State) (c : Nat) : State :=
  updCtx s c (fun x =>
    match x.cur with
    | some _ => x
    | none =>
      match x.cmds.find? (fun m => !m.started && !m.ended) with
      | some m => { x with cur := some m.id, pc := ⟨false, 1⟩, stack := [], region := none, wait := none, stall := none, line := none }
      | none => { x with stall := none, wait := none })

/-- A flag wait that ends without its value: zero is written to its register and the pending bit clears (R178). -/
def dropWait (s : State) (c : Nat) : State :=
  match (ctxOf s c).wait with
  | some w =>
    (match w.kind with
     | .flag _ _ _ rd _ => updCtx (inertTxns s (fun y => y == .flag c)) c (fun x => { x with wait := none, stall := none, g := tabDel rd x.g, pendG := maskClr x.pendG rd })
     | .load slot n => updCtx (inertTxns s (fun y => y == .kilnLoad c slot n)) c (fun x => { x with wait := none, stall := none })
     | .list id => updCtx { s with xf := { s.xf with ops := s.xf.ops.map (fun o => if o.id == id then { o with stopped := true, pieces := [], sigs := [], rel := none } else o) } } c (fun x => { x with wait := none, stall := none })
     | _ => updCtx s c (fun x => { x with wait := none, stall := none }))
  | none => s

/-- Ends the execution of command k of context c (R136, R140, R148, R152); the next fetched command begins. -/
def endExec (s0 : State) (c k : Nat) : State :=
  let s := if (ctxOf s0 c).cur = some k then dropWait s0 c else s0
  let s1 := dropLimits (updCmd s c k (fun m => { m with ended := true })) c k
  if (ctxOf s1 c).cur = some k then
    beginNext (updCtx s1 c (fun x => { x with cur := none, wait := none, stall := none, region := none, stack := [] })) c
  else s1

/-- Raises a status in a command; a stopping status ends its execution (R151, R152). -/
def addStat (s : State) (c k : Nat) (st : Stat) : State :=
  let s1 := updCmd s c k (fun m => { m with stats := m.stats ++ [st] })
  if stopping st.code then
    match cmdOf s1 c k with
    | some m => if m.ended then s1 else endExec s1 c k
    | none => s1
  else s1

/-- Fails the command that context c issues, with a status. -/
def failCur (s : State) (c : Nat) (st : Stat) : State :=
  match (ctxOf s c).cur with
  | some k => addStat s c k st
  | none => s

/-! ### Queues and rings -/

/-- The tenant of a queue or ring index, as a tenant field. -/
def ownerOf (i : Nat) : Nat := idxTen (i / 8)

def sqBase (s : State) (i : Nat) : Nat := s.get TEN_SQ_BASE_LO.BASE i * 4096 + 2 ^ 32 * s.get TEN_SQ_BASE_HI.BASE i
def cqBase (s : State) (j : Nat) : Nat := s.get TEN_CQ_BASE_LO.BASE j * 4096 + 2 ^ 32 * s.get TEN_CQ_BASE_HI.BASE j

/-- Entries announced and not fetched (R122). -/
def sqPending (s : State) (i : Nat) : Nat := sub32 (tabGet 0 i s.prog.sqTail) (s.get TEN_SQ_HEAD.COUNT i)

def ringFill (s : State) (j : Nat) : Nat := sub32 (s.get TEN_CQ_TAIL.COUNT j) (s.get TEN_CQ_HEAD.COUNT j)

/-- The ring is full (R160). -/
def ringFull (s : State) (j : Nat) : Bool :=
  s.on TEN_CQ_CFG.EN j && ringFill s j == 2 ^ (s.get TEN_CQ_CFG.LOG2_SIZE j)

def tenRings (t : Nat) : List Nat := (List.range 8).map (fun r => 8 * tenIdx t + r)

/-- FULL of a ring, and SUSPENDED or ACTIVE of its tenant's queues, follow the ring counts (R160, TEN_SQ_STATUS). -/
def refreshFull (s : State) (j : Nat) : State :=
  let s1 := s.put TEN_CQ_STATUS.FULL (b2n (ringFull s j)) j
  let t := ownerOf j
  let anyFull := (tenRings t).any (ringFull s1)
  (tenRings t).foldl (fun acc i =>
    let st := acc.get TEN_SQ_STATUS.STATE i
    if st = 1 && anyFull then acc.put TEN_SQ_STATUS.STATE 3 i
    else if st = 3 && !anyFull then acc.put TEN_SQ_STATUS.STATE 1 i
    else acc) s1

/-- Commands of queue i that some context still holds. -/
def queueBusy (s : State) (i : Nat) : Bool :=
  (ctxOf s (s.get TEN_SQ_CFG.CTX i)).cmds.any (fun m => m.q == i) ||
  s.prog.ctx.any (fun p => p.2.cmds.any (fun m => m.q == i))

/-- A DRAINING queue whose last command has completed enters OFF (R139, R140). -/
def drainCheck (s : State) (i : Nat) : State :=
  if s.get TEN_SQ_STATUS.STATE i = 2 && !(queueBusy s i) then s.put TEN_SQ_STATUS.STATE 0 i else s

/-- DONE moves over every consecutive completed sequence number (R143). -/
def doneAdvance : Nat → State → Nat → State
  | 0, s, _ => s
  | n + 1, s, i =>
    let d := (s.get TEN_SQ_DONE.SEQ i + 1) % 2 ^ 32
    let l := tabGet [] i s.prog.sqDone
    if l.contains d then
      doneAdvance n ({ s with prog := { s.prog with sqDone := tabSet [] i (l.filter (fun x => x != d)) s.prog.sqDone } }.put
        TEN_SQ_DONE.SEQ d i) i
    else s

/-- Words of the segment that holds the program counter (R189). (DEDUCED, log 79) -/
def segLen (s : State) (c : Nat) : Nat :=
  let x := ctxOf s c
  if x.pc.code then (match x.region with | some (_, n) => n | none => 0)
  else match x.cur with
    | some k => (match cmdOf s c k with | some m => m.words.length | none => 0)
    | none => 0

/-- A code region line entered that was not read since the last control transfer makes the context wait (R196). -/
def lineDelay (s : State) (c : Nat) : State :=
  updCtx s c (fun x =>
    if x.pc.code && x.line != some (x.pc.word / 8) then { x with line := some (x.pc.word / 8), next := Nat.max x.next (s.clk.cclk + 16) }
    else x)

/-- Goes on at the next word: past the extension word, past the end of a command, or off the end of a region (R136, R170,
R193). (DEDUCED, log 79) -/
def advance (s : State) (c : Nat) (ext : Bool) : State :=
  let x := ctxOf s c
  let w := x.pc.word + 1 + b2n ext
  match x.cur with
  | none => s
  | some k =>
    if segLen s c ≤ w then
      if x.pc.code then failCur s c (badCmd (ptIndex x.pc) 5) else endExec s c k
    else
      lineDelay (updCtx (updCmd s c k (fun m => { m with nextWord := ptIndex ⟨x.pc.code, w⟩ })) c (fun y => { y with pc := ⟨y.pc.code, w⟩ })) c

/-- A held wait is satisfied: the context goes on at the next word (R201). -/
def releaseWait (s : State) (c : Nat) : State :=
  let ext := match (ctxOf s c).wait with | some w => w.ext | none => false
  advance (updCtx s c (fun x => { x with wait := none, stall := none, next := s.clk.cclk })) c ext

/-- WAIT.SEQ of context c is satisfied (R142, R144). -/
def seqReached (s : State) (c q n : Nat) : Bool :=
  reached32 (s.get TEN_SQ_DONE.SEQ (8 * tenIdx ((ctxOf s c).ten.getD 0) + q)) n

/-- Every context that waits on a sequence number that has been reached goes on (R197, R201). -/
def wakeSeq (s : State) : State :=
  s.prog.ctx.foldl (fun acc p =>
    match (ctxOf acc p.1).wait with
    | some w => (match w.kind with
      | .seq q n => if seqReached acc p.1 q n then releaseWait acc p.1 else acc
      | _ => acc)
    | none => acc) s

/-- Command k of context c counts as complete: it leaves the context, DONE advances, waits on it end (R143, R161). -/
def cmdDone (s : State) (c k : Nat) : State :=
  match cmdOf s c k with
  | none => s
  | some m =>
    let s1 := updCtx s c (fun x => { x with cmds := x.cmds.filter (fun y => y.id != k) })
    let l := tabGet [] m.q s1.prog.sqDone
    let s2 := { s1 with prog := { s1.prog with sqDone := tabSet [] m.q (l ++ [m.seq]) s1.prog.sqDone } }
    beginNext (wakeSeq (drainCheck (doneAdvance 64 s2 m.q) m.q)) c

/-- The ring of a due record is judged: its own ring, else the error ring with BAD_COMMAND reason 4, else no record and
LOST (R162). -/
def placeRecord (s : State) (c k : Nat) (m : Cmd) : State :=
  let j := 8 * (m.q / 8) + m.ring
  let e := 8 * (m.q / 8) + s.get TEN_SQ_CFG.ERR_RING m.q
  let enq (s : State) (r : Nat) : State :=
    { s with prog := { s.prog with rings := tabSet [] r (tabGet [] r s.prog.rings ++ [(c, k)]) s.prog.rings } }
  if s.on TEN_CQ_CFG.EN j then enq s j
  else
    let s1 := updCmd s c k (fun x => { x with stats := x.stats ++ [badCmd 0 4] })
    if s1.on TEN_CQ_CFG.EN e then enq s1 e
    else cmdDone (s1.put TEN_SQ_STATUS.LOST 1 m.q) c k

/-- A local write of command k of context c has not become coherent (R150), or a descriptor that it loads has not come (R187). -/
def cmdWrites (s : State) (c k : Nat) : Bool :=
  s.xf.txns.any (fun t => match t.why with | .dst c' k' _ => c' == c && k' == k | .dld c' k' _ _ => c' == c && k' == k | _ => false)

/-- The command has ended and every operation of it has reached its completion point (R149, R150, R311). (DEDUCED, log 47) -/
def cmdReady (s : State) (c : Nat) (m : Cmd) : Bool :=
  m.ended && m.phase == .run && m.ops == 0 && !(cmdWrites s c m.id) &&
  (!m.aborted || !((ctxOf s c).cmds.any (fun y => y.q == m.q && y.id < m.id)))

def hdrWord (m : Cmd) : Nat := (m.words.headD 0).toNat
/-- CPL, RING and the tag of the command header (R134). -/
def hdrCpl (m : Cmd) : Nat := bits (hdrWord m) 4 2
def hdrTag (m : Cmd) : Nat := bits (hdrWord m) 16 32
def hdrOrdered (m : Cmd) : Bool := bit (hdrWord m) 3
/-- A command completes (R149, R153, R164). What a service core ran from start-up belongs to no queue and leaves no record (R613). -/
def complete (s : State) (c k : Nat) (m : Cmd) : State :=
  let st := (topStat m.stats).code
  if 4104 ≤ m.q then beginNext (updCtx s c (fun x => { x with cmds := x.cmds.filter (fun y => y.id != k) })) c else
  let s1 := count s 4 st 255 (some m.ten) (some (hdrTag m)) (6, c)
  let s2 := updCmd s1 c k (fun x => { x with time := now s1, unsure := !(sure s1), phase := .due })
  if hdrCpl m = 1 && st = 0 then cmdDone s2 c k
  else placeRecord s2 c k m

/-- The 32 bytes of a completion record (R163). -/
def recordBytes (s : State) (m : Cmd) (j : Nat) (gap : Bool) : List Byte :=
  let st := topStat m.stats
  let detail := if rank st.code ≥ 13 then m.bytes else st.detail
  let tail := s.get TEN_CQ_TAIL.COUNT j
  let phase := (tail / 2 ^ (s.get TEN_CQ_CFG.LOG2_SIZE j) + 1) % 2
  let fl := phase + 2 * b2n gap + 4 * b2n m.unsure + 8 * b2n (st.code == 1)
  leBytes 4 m.seq ++ leBytes 2 st.code ++ [BitVec.ofNat 8 (m.q % 8), BitVec.ofNat 8 fl] ++ leBytes 4 (hdrTag m) ++
  leBytes 2 m.ten ++ leBytes 2 0 ++ leBytes 8 m.time ++ leBytes 8 detail

/-- Issues the write of the next record of ring j (R156, R157, R724): one record of a ring at a time. -/
def writeRecord (s : State) (j : Nat) : State :=
  match tabGet [] j s.prog.rings with
  | [] => s
  | (c, k) :: rest =>
    match cmdOf s c k with
    | none => { s with prog := { s.prog with rings := tabSet [] j rest s.prog.rings } }
    | some m =>
      if (tabFind j s.prog.ringBusy).isSome || ringFull s j || !(s.on TEN_CQ_CFG.EN j) then s
      else
        let gap := s.clk.gapCore
        let n := s.get TEN_CQ_TAIL.COUNT j
        let a := cqBase s j + 32 * (n % 2 ^ (s.get TEN_CQ_CFG.LOG2_SIZE j))
        let s1 := { s with prog := { s.prog with rings := tabSet [] j rest s.prog.rings, ringBusy := tabPut j (c, k) s.prog.ringBusy }, clk := { s.clk with gapCore := false } }
        let s2 := updCmd s1 c k (fun x => { x with phase := .writing })
        (newTxn s2 (s.get TEN_CQ_BASE_HI.SPACE j) .wr 1 a 32 (recordBytes s m j gap) (.record c k j) [] [] none m.ten).1

/-- A record write has become coherent, or was refused (R724). -/
def recordEnd (s : State) (c k j : Nat) (refused : Bool) : State :=
  let s1 := { s with prog := { s.prog with ringBusy := tabDel j s.prog.ringBusy } }
  match cmdOf s1 c k with
  | none => s1
  | some m =>
    let s2 := if refused then s1.put TEN_SQ_STATUS.LOST 1 m.q else refreshFull (s1.inc TEN_CQ_TAIL.COUNT j) j
    cmdDone s2 c k

/-! ### Doorbells -/

/-- A tail doorbell (R122, R123). -/
def tailDoorbell (s : State) (i v : Nat) : State :=
  let st := s.get TEN_SQ_STATUS.STATE i
  if st = 0 || st = 2 || 2 ^ (s.get TEN_SQ_CFG.LOG2_SIZE i) < sub32 v (s.get TEN_SQ_HEAD.COUNT i) then
    s.put TEN_SQ_STATUS.DB_ERR 1 i
  else { s with prog := { s.prog with sqTail := tabSet 0 i v s.prog.sqTail } }

/-- A head doorbell (R159): returns ring space. -/
def headDoorbell (s : State) (j v : Nat) : State :=
  if 2 ^ (s.get TEN_CQ_CFG.LOG2_SIZE j) < sub32 (s.get TEN_CQ_TAIL.COUNT j) v then s.put TEN_CQ_STATUS.DB_ERR 1 j
  else refreshFull (s.put TEN_CQ_HEAD.COUNT v j) j

/-- A write to TEN_DB[k] from a requester domain (R124, R34). -/
def doorbell (s : State) (a : AccInfo) (k v : Nat) : State :=
  let t := k / 16
  let m := k % 16
  let dom := idxTen t
  if !(isEp s) && t < 512 && m < 8 then accErr s a GLB_ACCESS_ERR.PERSONA
  else if a.dom != dom && a.dom != serviceDom then
    if m < 8 then s.put TEN_SQ_STATUS.DOMAIN_ERR 1 (8 * t + m) else s.put TEN_CQ_STATUS.DOMAIN_ERR 1 (8 * t + (m - 8))
  else if m < 8 then tailDoorbell s (8 * t + m) v
  else headDoorbell s (8 * t + (m - 8)) v

/-! ### Enable, disable, abort -/

/-- The contexts that exist on the personality (R110). -/
def ctxExists (s : State) (c : Nat) : Bool := c < 576 && (512 ≤ c || isEp s)

/-- The placement rules of a queue or ring (R117, R118, R120): size, space, extent. -/
def placeOk (s : State) (space base log2 entry : Nat) : Bool :=
  6 ≤ log2 && log2 ≤ 16 && (space == 1 || (space == 0 && !(isSw s))) && inSpace space base (entry * 2 ^ log2)

/-- EN of a queue goes from 0 to 1 with its other fields written (R120, R121). -/
def sqEnable (s : State) (i : Nat) : State :=
  if placeOk s (s.get TEN_SQ_BASE_HI.SPACE i) (sqBase s i) (s.get TEN_SQ_CFG.LOG2_SIZE i) 64
      && ctxExists s (s.get TEN_SQ_CFG.CTX i) then
    let s1 := (((s.put TEN_SQ_CFG.EN 1 i).put TEN_SQ_HEAD.COUNT 0 i).put TEN_SQ_DONE.SEQ
      (s.get TEN_SQ_SEQ.NEXT i + (2 ^ 32 - 1)) i).put TEN_SQ_STATUS.STATE 1 i
    let s2 := { s1 with prog := { s1.prog with sqTail := tabSet 0 i 0 s1.prog.sqTail, sqDone := tabSet [] i [] s1.prog.sqDone, park := tabDel i s1.prog.park } }
    refreshFull s2 (8 * (i / 8))
  else (s.put TEN_SQ_CFG.EN 0 i).put TEN_SQ_STATUS.CFG_ERR 1 i

/-- Stops a fetch of queue i that is under way: its entries are not fetched (R139, R140). -/
def dropFetch (s : State) (i : Nat) : State :=
  let s1 := { s with prog := { s.prog with park := tabDel i s.prog.park } }
  s1.prog.ctx.foldl (fun acc p =>
    match (ctxOf acc p.1).fetch with
    | some f => if f.q == i then updCtx (inertTxns acc (fun y => match y with | .fetch k _ => k == p.1 | _ => false)) p.1 (fun x => { x with fetch := none }) else acc
    | none => acc) s1

/-- EN of a queue goes from 1 to 0 (R139). -/
def sqDisable (s : State) (i : Nat) : State :=
  let s1 := dropFetch ((s.put TEN_SQ_CFG.EN 0 i).put TEN_SQ_STATUS.STATE 2 i) i
  drainCheck { s1 with prog := { s1.prog with sqTail := tabSet 0 i (s1.get TEN_SQ_HEAD.COUNT i) s1.prog.sqTail } } i

/-- The word index of the next instruction that command m would have issued (Table - Status detail, ABORTED): the one after an
instruction that holds the context, which has issued; a SCATTER or GATHER without a hod has not (R261). -/
def abortWord (s : State) (c : Nat) (m : Cmd) : Nat :=
  let x := ctxOf s c
  if !m.started then 1
  else if x.cur = some m.id then
    match x.wait with
    | some w => (match w.kind with
      | .list _ => ptIndex x.pc
      | _ => ptIndex ⟨x.pc.code, x.pc.word + 1 + b2n w.ext⟩)
    | none => ptIndex x.pc
  else m.nextWord

/-- Ends a fetched command with ABORTED where its execution had not ended (R113, R140). -/
def abortCmd (s : State) (c k : Nat) (inOrder : Bool) : State :=
  match cmdOf s c k with
  | none => s
  | some m =>
    if m.ended then updCmd s c k (fun x => { x with aborted := x.aborted || inOrder })
    else
      let w := abortWord s c m
      endExec (updCmd s c k (fun x => { x with stats := x.stats ++ [abortedSt w], aborted := inOrder })) c k

/-- A write of 1 to TEN_SQ_CTL.ABORT (R140, R659). -/
def sqAbort (s : State) (i : Nat) : State :=
  let s0 := if s.on TEN_SQ_CFG.EN i then sqDisable s i else s
  let s1 := s0.prog.ctx.foldl (fun acc p =>
    let mine := (ctxOf acc p.1).cmds.filter (fun m => m.q == i)
    let curMine := mine.any (fun m => (ctxOf acc p.1).cur == some m.id)
    let acc1 := mine.foldl (fun a m => abortCmd a p.1 m.id true) acc
    if curMine then updCtx acc1 p.1 (fun x => { x with halt := none }) else acc1) s0
  drainCheck s1 i

/-- EN of a completion ring goes from 0 to 1 (R154, R155). -/
def cqEnable (s : State) (j : Nat) : State :=
  if placeOk s (s.get TEN_CQ_BASE_HI.SPACE j) (cqBase s j) (s.get TEN_CQ_CFG.LOG2_SIZE j) 32 then
    refreshFull (((s.put TEN_CQ_CFG.EN 1 j).put TEN_CQ_TAIL.COUNT 0 j).put TEN_CQ_HEAD.COUNT 0 j) j
  else (s.put TEN_CQ_CFG.EN 0 j).put TEN_CQ_STATUS.CFG_ERR 1 j

/-- EN of a completion ring goes from 1 to 0: held records go to the error rings (R161, R162). -/
def cqDisable (s : State) (j : Nat) : State :=
  let s1 := refreshFull (s.put TEN_CQ_CFG.EN 0 j) j
  let l := tabGet [] j s1.prog.rings
  l.foldl (fun acc p =>
    match cmdOf acc p.1 p.2 with
    | some m => placeRecord acc p.1 p.2 { m with ring := j % 8 }
    | none => acc) { s1 with prog := { s1.prog with rings := tabSet [] j [] s1.prog.rings } }

/-! ### Fetch -/

/-- Start-up has reached FIRMWARE (R601, R613). -/
def inService (s : State) : Bool := s.get CLK_BOOT_STATUS.PHASE == 6

def tenActive (s : State) (t : Nat) : Bool := t == serviceDom || s.on SEC_TEN_CFG.ACTIVE t

/-- Queue i can give context c a command: enabled, ACTIVE, bound to c, entries pending, and a parked header's command wholly
pending (R127, R129). -/
def sqReady (s : State) (c i : Nat) : Bool :=
  s.on TEN_SQ_CFG.EN i && s.get TEN_SQ_STATUS.STATE i == 1 && s.get TEN_SQ_CFG.CTX i == c &&
  (match tabFind i s.prog.park with
   | some w => bits (w.headD 0).toNat 0 3 + 1 ≤ sqPending s i
   | none => 1 ≤ sqPending s i)

/-- The context may begin a fetch (R113, R116, R130, R131, R160, R543, R657). (DEDUCED, log 48) -/
def mayFetch (s : State) (c : Nat) : Bool :=
  let x := ctxOf s c
  ctxExists s c && coreRuns s && inService s &&
  (match x.ten with
   | none => false
   | some t => tenActive s t && x.cmds.all (fun m => m.ten == t) && !((tenRings t).any (ringFull s))) &&
  x.halt.isNone && !x.scrub && x.usable ≤ course s && x.fetch.isNone && x.cmds.length < 16 &&
  x.cmds.all (fun m => m.started || m.ended || x.cur == some m.id)

/-- The entry e of the command being fetched is read (R118, R127). -/
def readEntry (s : State) (c i e : Nat) : State :=
  let head := s.get TEN_SQ_HEAD.COUNT i
  let a := sqBase s i + 64 * ((head + e) % 2 ^ (s.get TEN_SQ_CFG.LOG2_SIZE i))
  (newTxn s (s.get TEN_SQ_BASE_HI.SPACE i) .rd 1 a 64 [] (.fetch c e) [] [] none (ownerOf i)).1

/-- A fetched command is held by its context under its sequence number (R133, R135). -/
def takeCommand (s : State) (c : Nat) (f : Fetch) (ten : Nat) : State :=
  let n := bits (f.got.headD 0).toNat 0 3 + 1
  let h := (f.got.headD 0).toNat
  let seq := s.get TEN_SQ_SEQ.NEXT f.q
  let badHdr := bits h 6 2 != 0 || bits h 11 5 != 0 || bits h 48 16 != 0 || 2 ≤ bits h 4 2
  let st := (if badHdr then [badCmd 0 1] else []) ++ (match f.bad with | some e => [accessSt (8 * e) 0xFFFF] | none => [])
  let m : Cmd := ⟨s.prog.nextCmd, f.q, seq, ten, f.got, false, !st.isEmpty, st, 0, 0, 1, .run, bits h 8 3, 0, false, false⟩
  let s1 := (s.inc TEN_SQ_SEQ.NEXT f.q).inc TEN_SQ_HEAD.COUNT f.q 0 n
  let s2 := { s1 with prog := { s1.prog with nextCmd := s1.prog.nextCmd + 1 } }
  beginNext (updCtx s2 c (fun x => { x with fetch := none, cmds := x.cmds ++ [m] })) c

/-- The fetch goes on: more entries, a command not wholly pending is parked, or the command is taken (R129). -/
def fetchStep (s : State) (c : Nat) (f : Fetch) : State :=
  let n := bits (f.got.headD 0).toNat 0 3 + 1
  let e := f.got.length / 8
  if n ≤ e then takeCommand s c f ((ctxOf s c).ten.getD 0)
  else if sqPending s f.q < n then
    updCtx { s with prog := { s.prog with park := tabPut f.q f.got s.prog.park } } c (fun x => { x with fetch := none })
  else readEntry (updCtx s c (fun x => { x with fetch := some f })) c f.q e

/-- COMMAND_FETCH: the context chooses a queue and reads (R127). -/
def commandFetch (s : State) (c : Nat) : State :=
  if mayFetch s c then
    let t := tenIdx ((ctxOf s c).ten.getD 0)
    match arbPick s 8 ((List.range 8).filter (fun q => sqReady s c (8 * t + q))) with
    | none => s
    | some q =>
      let i := 8 * t + q
      match tabFind i s.prog.park with
      | some w => fetchStep { s with prog := { s.prog with park := tabDel i s.prog.park } } c ⟨i, w, 0, none⟩
      | none => readEntry (updCtx s c (fun x => { x with fetch := some ⟨i, [], 0, none⟩ })) c i 0
  else s

/-- Entry e of a fetch has been read, or its read was refused (R723). -/
def fetchData (s : State) (c e : Nat) (d : List Byte) (refused : Bool) : State :=
  match (ctxOf s c).fetch with
  | none => s
  | some f =>
    let w : List W64 := (List.range 8).map (fun k => BitVec.ofNat 64 (leAt d (8 * k) 8))
    if refused then
      if e = 0 then
        let s1 := updCtx s c (fun x => { x with fetch := none })
        sqDisable (s1.put TEN_SQ_STATUS.FETCH_ERR 1 f.q) f.q
      else fetchStep s c { f with got := f.got ++ List.replicate 8 0, bad := some (f.bad.getD e) }
    else fetchStep s c { f with got := f.got ++ w }

/-! ### Meanings -/

/-- COMMAND_FETCH (R127 to R135). -/
def execCommandFetch (c : Nat) (s : State) : Host.Outcome State Fault Refusal := .next (commandFetch s c)

/-- COMMAND_COMPLETE (R149 to R153): the command with number k of context c, once its conditions hold. -/
def execCommandComplete (c k : Nat) (s : State) : Host.Outcome State Fault Refusal :=
  match cmdOf s c k with
  | some m => .next (if cmdReady s c m then complete s c k m else s)
  | none => .next s

/-- COMPLETION_RECORD_WRITE (R156, R724). -/
def execCompletionRecordWrite (j : Nat) (s : State) : Host.Outcome State Fault Refusal :=
  .next (if coreRuns s then writeRecord s j else s)

end Sys2Proof.Machine
end

