-- ==== Sys2Proof/Machine/Operands.lean ====
section
/-! DEFINITION. The register files of a context, the forms of instruction words, and the issue of one instruction with the
checks of R213 (04). -/

namespace Sys2Proof.Machine

open Sys2Proof

/-! ### Register files (R174) -/

def gReg (x : Ctx) (i : Nat) : W64 := if i = 0 then 0 else tabGet 0 i x.g
def setGReg (x : Ctx) (i : Nat) (v : W64) : Ctx := if i = 0 then x else { x with g := tabSet 0 i v x.g }
def pReg (x : Ctx) (i : Nat) : Bool := i == 0 || x.p.testBit i
def setPReg (x : Ctx) (i : Nat) (b : Bool) : Ctx :=
  if i = 0 then x else { x with p := if b then maskSet x.p i else maskClr x.p i }
def dReg (x : Ctx) (i : Nat) : BitVec 512 := tabGet 0 i x.d
def setDReg (x : Ctx) (i : Nat) (v : BitVec 512) : Ctx := { x with d := tabSet 0 i v x.d }

def setG (s : State) (c i : Nat) (v : W64) : State := updCtx s c (fun x => setGReg x i v)
def setP (s : State) (c i : Nat) (b : Bool) : State := updCtx s c (fun x => setPReg x i b)
def setD (s : State) (c i : Nat) (v : BitVec 512) : State := updCtx s c (fun x => setDReg x i v)

/-- Pending bits of general and descriptor registers (R177): g0 is never pending. -/
def pendG (s : State) (c i : Nat) : State := if i = 0 then s else updCtx s c (fun x => { x with pendG := maskSet x.pendG i })
def pendD (s : State) (c i : Nat) : State := updCtx s c (fun x => { x with pendD := maskSet x.pendD i })

/-- A pending result is written and its bit clears; a register that is not pending discards it (R113, R177). -/
def landG (s : State) (c i : Nat) (v : W64) : State :=
  if (ctxOf s c).pendG.testBit i then updCtx s c (fun x => { setGReg x i v with pendG := maskClr x.pendG i }) else s
def landD (s : State) (c i : Nat) (v : BitVec 512) : State :=
  if (ctxOf s c).pendD.testBit i then updCtx s c (fun x => { setDReg x i v with pendD := maskClr x.pendD i }) else s

/-! ### Forms (R168 to R188) -/

/-- What a register field of an instruction may name. -/
inductive FK where
  | z          -- must be zero
  | gr | gw    -- general register, read or written
  | grw        -- general register, read and written
  | ps | pd    -- predicate source, predicate destination
  | dr | dw    -- descriptor register, read or written
  | q          -- queue index
  | any        -- five bits of the instruction's own
deriving DecidableEq, Repr

/-- A form: the three register fields, the low bits of IMM that may be set, and whether an extension word is allowed. -/
structure Form where
  rd : FK
  ra : FK
  rb : FK
  imm : Nat
  ext : Bool
deriving DecidableEq, Repr

def fkBad (k : FK) (v : Nat) : Bool :=
  match k with
  | .z => v != 0
  | .ps => 8 ≤ v
  | .pd => 8 ≤ v || v == 0
  | .dr => 16 ≤ v
  | .dw => 16 ≤ v
  | .q => 8 ≤ v
  | _ => false

/-- Check 3 of R213 for a form: a field that must be zero is not, a register field out of range, X where ext is not allowed,
IMM with X (R169). -/
def formBad (f : IFields) (m : Form) : Bool :=
  fkBad m.rd f.rd || fkBad m.ra f.ra || fkBad m.rb f.rb || 2 ^ m.imm ≤ f.imm.toNat || (f.x && !m.ext) ||
  (f.x && f.imm != 0)

def fkPend (x : Ctx) (k : FK) (v : Nat) : Bool :=
  match k with
  | .gr => x.pendG.testBit v
  | .gw => x.pendG.testBit v
  | .grw => x.pendG.testBit v
  | .dr => x.pendD.testBit v
  | .dw => x.pendD.testBit v
  | _ => false

/-- The instruction names a pending register (R177). -/
def regPending (x : Ctx) (f : IFields) (m : Form) : Bool :=
  fkPend x m.rd f.rd || fkPend x m.ra f.ra || fkPend x m.rb f.rb

/-- The instruction executes (R171). -/
def guardOn (x : Ctx) (f : IFields) : Bool := pReg x f.pg != f.pn

/-- The second operand of the immediate forms: IMM sign-extended, or the extension word (R183). -/
def immB (f : IFields) : W64 := if f.x then f.ext else f.imm.signExtend 64

/-- The instruction word (R168). -/
def encodeWord (maj fn : Nat) (f : IFields) : W64 :=
  BitVec.ofNat 64 (maj % 64 * 2 ^ 58 + fn % 64 * 2 ^ 52 + f.pg % 8 * 2 ^ 49 + b2n f.pn * 2 ^ 48 + b2n f.x * 2 ^ 47 +
    f.rd % 32 * 2 ^ 42 + f.ra % 32 * 2 ^ 37 + f.rb % 32 * 2 ^ 32 + f.imm.toNat)

/-- The fields of an instruction word and its extension word. -/
def fieldsOf (w ext : W64) : IFields :=
  ⟨bits w.toNat 49 3, bit w.toNat 48, bit w.toNat 47, bits w.toNat 42 5, bits w.toNat 37 5, bits w.toNat 32 5,
   BitVec.ofNat 32 w.toNat, ext⟩

/-! ### Issue -/

/-- The command that a context issues. -/
def curCmd (s : State) (c : Nat) : Option Cmd :=
  match (ctxOf s c).cur with
  | some k => cmdOf s c k
  | none => none

/-- An ORDERED command's first instruction waits for every earlier command of its queue (R138). (DEDUCED, log 131) -/
def orderedWaits (s : State) (m : Cmd) : Bool :=
  hdrOrdered m && !m.started && !(s.get TEN_SQ_DONE.SEQ m.q == (m.seq + (2 ^ 32 - 1)) % 2 ^ 32)

/-- The context may issue its next instruction now (R114, R115, R116, R138, R657). (DESIGN CHOICE, log 7) -/
def canIssue (s : State) (c : Nat) : Bool :=
  let x := ctxOf s c
  ctxExists s c && coreRuns s && inService s && x.halt.isNone && x.haltReq.isNone && !x.scrub && x.wait.isNone &&
  x.next ≤ s.clk.cclk &&
  (match curCmd s c with
   | some m => !m.ended && !(orderedWaits s m)
   | none => false)

/-- The tag of the command that a context issues. -/
def curTag (s : State) (c : Nat) : Nat := match curCmd s c with | some m => hdrTag m | none => 0
def ctxTen (s : State) (c : Nat) : Nat := (ctxOf s c).ten.getD 0
/-- The word index at the program counter, as records give it (R214). -/
def here (s : State) (c : Nat) : Nat := ptIndex (ctxOf s c).pc

/-- Notes the stall reason of a context that cannot issue. -/
def noteStall (s : State) (c r : Nat) : State := updCtx s c (fun x => { x with stall := some r })

/-- An issue counts (R632, R634, R646), begins its command, and sets the cycle of R115. -/
def countIssue (s : State) (c : Nat) (w : W64) : State :=
  let ten := ctxTen s c
  let tag := curTag s c
  let s1 := count (s.addPair .OBS_ISSUE 1) 3 (c / 32) 255 (some ten) (some tag) (6, c)
  let s2 := traceEv s1 3 0 ten tag none (leBytes 2 c ++ leBytes 2 (here s c) ++ leBytes 8 w.toNat)
  let s3 := match (ctxOf s2 c).cur with | some k => updCmd s2 c k (fun m => { m with started := true }) | none => s2
  updCtx s3 c (fun x => { x with next := s.clk.cclk + 4, stall := none, haltReq := if x.stepOne then some (3, 0) else x.haltReq, stepOne := false })

/-- One instruction is issued by context c (R213): the checks in order, the guard, then its own meaning. `bad` is a reserved
value of the instruction's own fields. (DESIGN CHOICE, log 7) -/
def issue (s : State) (c maj fn : Nat) (f : IFields) (m : Form) (bad : Bool) (body : State → State) : State :=
  if !(canIssue s c) then s
  else if regPending (ctxOf s c) f m then noteStall s c 6
  else
    let s1 := countIssue s c (encodeWord maj fn f)
    if f.x && segLen s c ≤ (ctxOf s c).pc.word + 1 then failCur s1 c (badCmd (here s c) 3)
    else if (f.pg == 0 && f.pn) || formBad f m || bad then failCur s1 c (badCmd (here s c) 2)
    else if !(guardOn (ctxOf s c) f) then advance s1 c f.x
    else body s1

/-- Reason 3 of R213 check 1: no such instruction. -/
def issueBad (s : State) (c : Nat) (w : W64) : State :=
  if canIssue s c then failCur (countIssue s c w) c (badCmd (here s c) 3) else s

/-- A control transfer within a segment (R196). -/
def jump (s : State) (c : Nat) (p : Pt) : State :=
  let s1 := updCtx s c (fun x => { x with pc := p, line := none, next := Nat.max x.next (s.clk.cclk + 6) })
  match (ctxOf s1 c).cur with
  | some k => lineDelay (updCmd s1 c k (fun m => { m with nextWord := ptIndex p })) c
  | none => s1

/-- The context holds a wait with a stall reason; the program counter stays at the instruction. -/
def hold (s : State) (c : Nat) (w : Wait) (stall : Nat) : State :=
  updCtx s c (fun x => { x with wait := some w, stall := some stall })

end Sys2Proof.Machine
end

