-- ==== Sys2Proof/Machine/Control.lean ====
section
/-! DEFINITION. The scalar, predicate, control, wait, time and queue instructions of Floug (04): one meaning for each. An
instruction is issued by `issue`, which makes the checks of R213. -/

namespace Sys2Proof.Machine

open Sys2Proof

def fNone : Form := ⟨.z, .z, .z, 0, false⟩

/-! ### Scalar arithmetic (R182, R183) -/

/-- An ALU instruction of function fn. -/
def aluReg (s : State) (c fn : Nat) (f : IFields) : State :=
  issue s c 0x01 fn f ⟨.gw, .gr, if fn = 0x0E ∨ fn = 0x0F then .z else .gr, 0, false⟩ false (fun t =>
    advance (setG t c f.rd (alu fn (gReg (ctxOf t c) f.ra) (gReg (ctxOf t c) f.rb))) c false)

/-- An ALUI instruction of function fn. -/
def aluImm (s : State) (c fn : Nat) (f : IFields) : State :=
  issue s c 0x02 fn f ⟨.gw, .gr, .z, 32, true⟩ false (fun t =>
    advance (setG t c f.rd (alu fn (gReg (ctxOf t c) f.ra) (immB f))) c f.x)

/-- CMP of condition k (R184). -/
def cmpReg (s : State) (c k : Nat) (f : IFields) : State :=
  issue s c 0x03 k f ⟨.pd, .gr, .gr, 0, false⟩ false (fun t =>
    advance (setP t c f.rd (cmpCond k (gReg (ctxOf t c) f.ra) (gReg (ctxOf t c) f.rb))) c false)

/-- CMPI of condition k (R184). -/
def cmpImm (s : State) (c k : Nat) (f : IFields) : State :=
  issue s c 0x03 (8 + k) f ⟨.pd, .gr, .z, 32, true⟩ false (fun t =>
    advance (setP t c f.rd (cmpCond k (gReg (ctxOf t c) f.ra) (immB f))) c f.x)

/-- A predicate function of two predicates (R186). -/
def predOp (s : State) (c fn : Nat) (f : IFields) (rb : FK) (op : Bool → Bool → Bool) : State :=
  issue s c 0x03 fn f ⟨.pd, .ps, rb, 0, false⟩ false (fun t =>
    advance (setP t c f.rd (op (pReg (ctxOf t c) f.ra) (pReg (ctxOf t c) f.rb))) c false)

/-- p7 to p0 as a number: bit 0 is 1. -/
def predBits (x : Ctx) : Nat := bits x.p 1 7 * 2 + 1

/-! ### Control (R189 to R196) -/

/-- The target of a transfer within the segment that holds the program counter, where it is legal (R189). -/
def target (s : State) (c : Nat) (off : BitVec 32) : Option Pt :=
  let x := ctxOf s c
  let t : Int := (x.pc.word : Int) + off.toInt
  if (if x.pc.code then 0 else 1) ≤ t ∧ t < (segLen s c : Nat) then some ⟨x.pc.code, t.toNat⟩ else none

/-- BR. -/
def branch (s : State) (c : Nat) (f : IFields) : State :=
  issue s c 0x00 0x02 f ⟨.z, .z, .z, 32, false⟩ false (fun t =>
    match target t c f.imm with
    | some p => jump t c p
    | none => failCur t c (badCmd (here t c) 5))

/-- LOOP: the target is checked first, then the register counts down. -/
def loopOp (s : State) (c : Nat) (f : IFields) : State :=
  issue s c 0x00 0x03 f ⟨.z, .grw, .z, 32, false⟩ false (fun t =>
    match target t c f.imm with
    | none => failCur t c (badCmd (here t c) 5)
    | some p =>
      let t1 := setG t c f.ra (gReg (ctxOf t c) f.ra - 1)
      if gReg (ctxOf t1 c) f.ra ≠ 0 then jump t1 c p else advance t1 c false)

/-- The code region that a call enters: the region in force, or the tenant's `TRW_CODE` from the command segment (R191,
R195). -/
def callRegion (s : State) (c : Nat) : Option (Nat × Nat) :=
  let x := ctxOf s c
  if x.pc.code then x.region
  else
    let t := tenIdx (ctxTen s c)
    if s.on TRW_CODE.EN t then some (s.get TRW_CODE.BASE_4K t * 4096, (s.get TRW_CODE.SIZE_4K_M1 t + 1) * 512) else none

/-- CALL and CALLR to word w (R191). -/
def callTo (s : State) (c w : Nat) : State :=
  let x := ctxOf s c
  match callRegion s c with
  | some (b, n) =>
    if 8 ≤ x.stack.length || n ≤ w then failCur s c (badCmd (here s c) 5)
    else jump (updCtx s c (fun y => { y with stack := ⟨x.pc.code, x.pc.word + 1⟩ :: y.stack, region := some (b, n) })) c ⟨true, w⟩
  | none => failCur s c (badCmd (here s c) 5)

/-- RET (R192); a return point past the end of its segment ends the command or fails it (R136, R193). -/
def retOp (s : State) (c : Nat) : State :=
  let x := ctxOf s c
  match x.stack with
  | [] => failCur s c (badCmd (here s c) 5)
  | p :: rest =>
    let s1 := updCtx s c (fun y => { y with stack := rest, pc := p, region := if p.code then y.region else none })
    if segLen s1 c ≤ p.word then
      if p.code then failCur s1 c (badCmd (here s c) 5)
      else match x.cur with | some k => endExec s1 c k | none => s1
    else jump s1 c p

/-! ### GETS (R180) -/

/-- Table - GETS selectors. -/
def getsVal (s : State) (c sel : Nat) : Nat :=
  match sel with
  | 0 => c
  | 1 => ctxTen s c
  | 2 => s.get TRW_CTX_CFG.GEN c
  | 3 => (match curCmd s c with | some m => m.q % 8 | none => 0)
  | 4 => (match curCmd s c with | some m => m.seq | none => 0)
  | 5 => curTag s c
  | 6 => ownFlat s
  | 7 => (match persona s with | .ep => 0 | .sw => 1 | .mem => 2 | .rsvd => 3)
  | _ => (match curCmd s c with | some m => (topStat m.stats).code | none => 0)

/-! ### Waits (R197 to R202) -/

/-- The tick at which a limit expires (R198): the first tick at or after the issue time + 64 × IMM. -/
def limitAt (s : State) (f : IFields) : Option Nat :=
  if f.imm = 0 then none else some (ceilDiv (counter2 s) (2 ^ 32) + 64 * f.imm.toNat)
where
  /-- The issue time in 2^-32 tick. -/
  counter2 (s : State) : Nat := s.tim.ticks * 2 ^ 32 + s.tim.frac

/-- The index of queue q of the tenant of context c. -/
def ownQueue (s : State) (c q : Nat) : Nat := 8 * tenIdx (ctxTen s c) + q

/-- WAIT.SEQ (R197). -/
def waitSeqOp (s : State) (c : Nat) (f : IFields) : State :=
  issue s c 0x06 0x00 f ⟨.z, .gr, .q, 32, false⟩ false (fun t =>
    let n := (gReg (ctxOf t c) f.ra).toNat % 2 ^ 32
    let self := match curCmd t c with | some m => m.q % 8 == f.rb && reached32 m.seq n | none => false
    if self then failCur t c (limitSt (here t c) 6)
    else if seqReached t c f.rb n then advance t c false
    else hold t c ⟨.seq f.rb n, limitAt t f, now t, false, none, false⟩ 6)

/-- The own device has the bytes and the tenant's windows permit them: perm 0 RD, 1 WR (R44, R45, R545). -/
def ownMemOk (s : State) (t a len perm : Nat) : Bool :=
  inSpace (spaceOf a) (offsetOf a) len && (spaceOf a == 1 || (spaceOf a == 0 && !(isSw s))) &&
  winOk s t (spaceOf a) (offsetOf a) len perm false

/-- A read of the flag that context c waits for (R145, R146): the wait records the access. -/
def flagRead (s : State) (c : Nat) : State :=
  match (ctxOf s c).wait with
  | some w =>
    (match w.kind with
     | .flag a _ _ _ _ =>
       let r := localTxn s c (spaceOf a) .rd 1 (offsetOf a) 8 [] (.flag c)
       updCtx r.1 c (fun x => { x with wait := some { w with lastEval := now s, read := some r.2 } })
     | _ => s)
  | none => s

/-- WAIT.FLAG of a condition (R199): the address is judged by its space, its alignment, then the windows. -/
def waitFlagOp (s : State) (c cond : Nat) (acq : Bool) (f : IFields) : State :=
  issue s c 0x06 ((if acq then 0x18 else 0x08) + cond % 8) f ⟨.gw, .gr, .gr, 32, false⟩ false (fun t =>
    let a := (gReg (ctxOf t c) f.ra).toNat
    if badSpace a || spaceOf a == 2 then failCur t c (badCmd (here t c) 2)
    else if a % 8 ≠ 0 then failCur t c (badCmd (here t c) 9)
    else if !(ownMemOk t (ctxTen t c) a 8 0) then failCur t c (accessSt (here t c) 0xFFFF)
    else
      let w : Wait := ⟨.flag a (cond % 8) (gReg (ctxOf t c) f.rb).toNat f.rd acq, limitAt t f, now t, false, none, false⟩
      flagRead (pendG (hold t c w 6) c f.rd) c)

/-- A held flag wait with no read under way is evaluated again (R146). (DEDUCED, log 49) -/
def flagPoll (s : State) (c : Nat) : State :=
  match (ctxOf s c).wait with
  | some w => (match w.kind with
    | .flag _ _ _ _ _ => if w.read.isNone && !w.final then flagRead s c else s
    | _ => s)
  | none => s

/-! ### Time and queues (R203 to R208) -/

/-- A TIME trace record (source 7): event, kind byte, fire time. -/
def traceTime (s : State) (evt kind t : Nat) : State :=
  traceEv s 7 evt 0x3FF 0 none ([BitVec.ofNat 8 kind, BitVec.ofNat 8 (s.get TIM_STATUS.STATE)] ++ leBytes 6 0 ++ leBytes 8 t)

/-- The TIME trace record of a fired AT.TIME: its kind byte is a free value. (DESIGN CHOICE, log 112) -/
def traceWait (s : State) (t : Nat) : State :=
  let k := drawFree s
  traceTime k.2 0 (k.1 % 256) t

/-- AT.TIME (R203, R102, R104). -/
def atTimeOp (s : State) (c : Nat) (f : IFields) : State :=
  issue s c 0x07 0x00 f ⟨.z, .gr, .z, 32, true⟩ false (fun t =>
    let n := (gReg (ctxOf t c) f.ra + immB f).toNat
    if now t + 2 ^ 44 < n then failCur t c (badCmd (here t c) 7)
    else if n ≤ now t then advance (traceWait (t.inc TIM_LATE_CNT.COUNT) n) c f.x
    else hold t c ⟨.time n, none, now t, false, none, f.x⟩ 11)

/-- A context whose AT.TIME has fired goes on (R99). -/
def timeFire (s : State) (c : Nat) : State :=
  match (ctxOf s c).wait with
  | some w => (match w.kind with
    | .time n => if n ≤ now s then releaseWait s c else s
    | _ => s)
  | none => s

/-- TIME.READ (R204). -/
def timeReadOp (s : State) (c : Nat) (f : IFields) : State :=
  issue s c 0x07 0x01 f ⟨.gw, .z, .ps, 0, false⟩ false (fun t =>
    let t1 := setG t c f.rd (BitVec.ofNat 64 (now t))
    advance (setP t1 c f.rb (sure t)) c false)

/-- An operation that writes the memory of its own device. -/
def writesOwn (o : Op) : Bool :=
  o.local? || (match o.kind with | .get => true | .gather => true | .bond => true | _ => false)

/-- Writes of command k of context c to its own device's memory that are not coherent (R208). -/
def ringWaits (s : State) (c k : Nat) : Bool :=
  cmdWrites s c k || s.xf.ops.any (fun o => o.ctx == c && o.cmd == k && writesOwn o)

/-- The tail doorbell of Q.RING, once the earlier local writes of its command are coherent (R207, R208). -/
def ringTry (s : State) (c : Nat) : State :=
  match (ctxOf s c).wait, (ctxOf s c).cur with
  | some w, some k => (match w.kind with
    | .ring i v => if ringWaits s c k then s else releaseWait (tailDoorbell s i v) c
    | _ => s)
  | _, _ => s

/-- Q.RING (R207, R208). -/
def qRingOp (s : State) (c : Nat) (f : IFields) : State :=
  issue s c 0x08 0x01 f ⟨.z, .gr, .q, 0, false⟩ false (fun t =>
    ringTry (hold t c ⟨.ring (ownQueue t c f.rb) ((gReg (ctxOf t c) f.ra).toNat % 2 ^ 32), none, now t, false, none, false⟩ 6) c)

/-! ### Meanings -/

/-- END: ends the command's execution (R136). -/
def execEnd (c : Nat) (f : IFields) (s : State) : Host.Outcome State Fault Refusal := .next (issue s c 0x00 0x00 f fNone false (fun t => match (ctxOf t c).cur with | some k => endExec t c k | none => t))

/-- NOP: no effect. -/
def execNop (c : Nat) (f : IFields) (s : State) : Host.Outcome State Fault Refusal := .next (issue s c 0x00 0x01 f fNone false (fun t => advance t c false))

/-- BR (R189). -/
def execBr (c : Nat) (f : IFields) (s : State) : Host.Outcome State Fault Refusal := .next (branch s c f)

/-- LOOP (R189). -/
def execLoop (c : Nat) (f : IFields) (s : State) : Host.Outcome State Fault Refusal := .next (loopOp s c f)

/-- CALL: to word IMM (R191). -/
def execCall (c : Nat) (f : IFields) (s : State) : Host.Outcome State Fault Refusal := .next (issue s c 0x00 0x04 f ⟨.z, .z, .z, 32, false⟩ false (fun t => callTo t c f.imm.toNat))

/-- CALLR: to word g[RA] (R191). -/
def execCallr (c : Nat) (f : IFields) (s : State) : Host.Outcome State Fault Refusal := .next (issue s c 0x00 0x05 f ⟨.z, .gr, .z, 0, false⟩ false (fun t => callTo t c (gReg (ctxOf t c) f.ra).toNat))

/-- RET (R192). -/
def execRet (c : Nat) (f : IFields) (s : State) : Host.Outcome State Fault Refusal := .next (issue s c 0x00 0x06 f fNone false (fun t => retOp t c))

/-- ADD (R182). -/
def execAdd (c : Nat) (f : IFields) (s : State) : Host.Outcome State Fault Refusal := .next (aluReg s c 0x00 f)

/-- SUB (R182). -/
def execSub (c : Nat) (f : IFields) (s : State) : Host.Outcome State Fault Refusal := .next (aluReg s c 0x01 f)

/-- AND (R182). -/
def execAnd (c : Nat) (f : IFields) (s : State) : Host.Outcome State Fault Refusal := .next (aluReg s c 0x02 f)

/-- OR (R182). -/
def execOr (c : Nat) (f : IFields) (s : State) : Host.Outcome State Fault Refusal := .next (aluReg s c 0x03 f)

/-- XOR (R182). -/
def execXor (c : Nat) (f : IFields) (s : State) : Host.Outcome State Fault Refusal := .next (aluReg s c 0x04 f)

/-- SHL (R182). -/
def execShl (c : Nat) (f : IFields) (s : State) : Host.Outcome State Fault Refusal := .next (aluReg s c 0x05 f)

/-- SHR (R182). -/
def execShr (c : Nat) (f : IFields) (s : State) : Host.Outcome State Fault Refusal := .next (aluReg s c 0x06 f)

/-- SAR (R182). -/
def execSar (c : Nat) (f : IFields) (s : State) : Host.Outcome State Fault Refusal := .next (aluReg s c 0x07 f)

/-- MUL (R182). -/
def execMul (c : Nat) (f : IFields) (s : State) : Host.Outcome State Fault Refusal := .next (aluReg s c 0x08 f)

/-- MULHU (R182). -/
def execMulhu (c : Nat) (f : IFields) (s : State) : Host.Outcome State Fault Refusal := .next (aluReg s c 0x09 f)

/-- MIN (R182). -/
def execMin (c : Nat) (f : IFields) (s : State) : Host.Outcome State Fault Refusal := .next (aluReg s c 0x0A f)

/-- MAX (R182). -/
def execMax (c : Nat) (f : IFields) (s : State) : Host.Outcome State Fault Refusal := .next (aluReg s c 0x0B f)

/-- MINU (R182). -/
def execMinu (c : Nat) (f : IFields) (s : State) : Host.Outcome State Fault Refusal := .next (aluReg s c 0x0C f)

/-- MAXU (R182). -/
def execMaxu (c : Nat) (f : IFields) (s : State) : Host.Outcome State Fault Refusal := .next (aluReg s c 0x0D f)

/-- CLZ (R182). -/
def execClz (c : Nat) (f : IFields) (s : State) : Host.Outcome State Fault Refusal := .next (aluReg s c 0x0E f)

/-- POPC (R182). -/
def execPopc (c : Nat) (f : IFields) (s : State) : Host.Outcome State Fault Refusal := .next (aluReg s c 0x0F f)

/-- ADDI (R183). -/
def execAddi (c : Nat) (f : IFields) (s : State) : Host.Outcome State Fault Refusal := .next (aluImm s c 0x00 f)

/-- SUBI (R183). -/
def execSubi (c : Nat) (f : IFields) (s : State) : Host.Outcome State Fault Refusal := .next (aluImm s c 0x01 f)

/-- ANDI (R183). -/
def execAndi (c : Nat) (f : IFields) (s : State) : Host.Outcome State Fault Refusal := .next (aluImm s c 0x02 f)

/-- ORI (R183). -/
def execOri (c : Nat) (f : IFields) (s : State) : Host.Outcome State Fault Refusal := .next (aluImm s c 0x03 f)

/-- XORI (R183). -/
def execXori (c : Nat) (f : IFields) (s : State) : Host.Outcome State Fault Refusal := .next (aluImm s c 0x04 f)

/-- SHLI (R183). -/
def execShli (c : Nat) (f : IFields) (s : State) : Host.Outcome State Fault Refusal := .next (aluImm s c 0x05 f)

/-- SHRI (R183). -/
def execShri (c : Nat) (f : IFields) (s : State) : Host.Outcome State Fault Refusal := .next (aluImm s c 0x06 f)

/-- SARI (R183). -/
def execSari (c : Nat) (f : IFields) (s : State) : Host.Outcome State Fault Refusal := .next (aluImm s c 0x07 f)

/-- MULI (R183). -/
def execMuli (c : Nat) (f : IFields) (s : State) : Host.Outcome State Fault Refusal := .next (aluImm s c 0x08 f)

/-- MULHUI (R183). -/
def execMulhui (c : Nat) (f : IFields) (s : State) : Host.Outcome State Fault Refusal := .next (aluImm s c 0x09 f)

/-- MINI (R183). -/
def execMini (c : Nat) (f : IFields) (s : State) : Host.Outcome State Fault Refusal := .next (aluImm s c 0x0A f)

/-- MAXI (R183). -/
def execMaxi (c : Nat) (f : IFields) (s : State) : Host.Outcome State Fault Refusal := .next (aluImm s c 0x0B f)

/-- MINUI (R183). -/
def execMinui (c : Nat) (f : IFields) (s : State) : Host.Outcome State Fault Refusal := .next (aluImm s c 0x0C f)

/-- MAXUI (R183). -/
def execMaxui (c : Nat) (f : IFields) (s : State) : Host.Outcome State Fault Refusal := .next (aluImm s c 0x0D f)

/-- CMP.EQ (R184). -/
def execCmpEq (c : Nat) (f : IFields) (s : State) : Host.Outcome State Fault Refusal := .next (cmpReg s c 0 f)

/-- CMP.NE (R184). -/
def execCmpNe (c : Nat) (f : IFields) (s : State) : Host.Outcome State Fault Refusal := .next (cmpReg s c 1 f)

/-- CMP.LT (R184). -/
def execCmpLt (c : Nat) (f : IFields) (s : State) : Host.Outcome State Fault Refusal := .next (cmpReg s c 2 f)

/-- CMP.LE (R184). -/
def execCmpLe (c : Nat) (f : IFields) (s : State) : Host.Outcome State Fault Refusal := .next (cmpReg s c 3 f)

/-- CMP.LTU (R184). -/
def execCmpLtu (c : Nat) (f : IFields) (s : State) : Host.Outcome State Fault Refusal := .next (cmpReg s c 4 f)

/-- CMP.LEU (R184). -/
def execCmpLeu (c : Nat) (f : IFields) (s : State) : Host.Outcome State Fault Refusal := .next (cmpReg s c 5 f)

/-- CMPI.EQ (R184). -/
def execCmpiEq (c : Nat) (f : IFields) (s : State) : Host.Outcome State Fault Refusal := .next (cmpImm s c 0 f)

/-- CMPI.NE (R184). -/
def execCmpiNe (c : Nat) (f : IFields) (s : State) : Host.Outcome State Fault Refusal := .next (cmpImm s c 1 f)

/-- CMPI.LT (R184). -/
def execCmpiLt (c : Nat) (f : IFields) (s : State) : Host.Outcome State Fault Refusal := .next (cmpImm s c 2 f)

/-- CMPI.LE (R184). -/
def execCmpiLe (c : Nat) (f : IFields) (s : State) : Host.Outcome State Fault Refusal := .next (cmpImm s c 3 f)

/-- CMPI.LTU (R184). -/
def execCmpiLtu (c : Nat) (f : IFields) (s : State) : Host.Outcome State Fault Refusal := .next (cmpImm s c 4 f)

/-- CMPI.LEU (R184). -/
def execCmpiLeu (c : Nat) (f : IFields) (s : State) : Host.Outcome State Fault Refusal := .next (cmpImm s c 5 f)

/-- PAND (R186). -/
def execPand (c : Nat) (f : IFields) (s : State) : Host.Outcome State Fault Refusal := .next (predOp s c 0x10 f .ps (fun a b => a && b))

/-- POR (R186). -/
def execPor (c : Nat) (f : IFields) (s : State) : Host.Outcome State Fault Refusal := .next (predOp s c 0x11 f .ps (fun a b => a || b))

/-- PXOR (R186). -/
def execPxor (c : Nat) (f : IFields) (s : State) : Host.Outcome State Fault Refusal := .next (predOp s c 0x12 f .ps (fun a b => a != b))

/-- PNOT (R186). -/
def execPnot (c : Nat) (f : IFields) (s : State) : Host.Outcome State Fault Refusal := .next (predOp s c 0x13 f .z (fun a _ => !a))

/-- PGET (R186). -/
def execPget (c : Nat) (f : IFields) (s : State) : Host.Outcome State Fault Refusal := .next (issue s c 0x03 0x14 f ⟨.gw, .z, .z, 0, false⟩ false (fun t => advance (setG t c f.rd (BitVec.ofNat 64 (predBits (ctxOf t c)))) c false))

/-- PPUT (R186). -/
def execPput (c : Nat) (f : IFields) (s : State) : Host.Outcome State Fault Refusal := .next (issue s c 0x03 0x15 f ⟨.z, .gr, .z, 0, false⟩ false (fun t => advance (updCtx t c (fun x => { x with p := bits (gReg x f.ra).toNat 1 7 * 2 + 1 })) c false))

/-- GETS (R180): a reserved selector is a reserved encoding. -/
def execGets (c : Nat) (f : IFields) (s : State) : Host.Outcome State Fault Refusal := .next (issue s c 0x05 0x00 f ⟨.gw, .z, .z, 8, false⟩ (9 ≤ f.imm.toNat) (fun t => advance (setG t c f.rd (BitVec.ofNat 64 (getsVal t c f.imm.toNat))) c false))

/-- WAIT.SEQ (R197). -/
def execWaitSeq (c : Nat) (f : IFields) (s : State) : Host.Outcome State Fault Refusal := .next (waitSeqOp s c f)

/-- WAIT.FLAG (R199). -/
def execWaitFlag (c : Nat) (cond : Nat) (f : IFields) (s : State) : Host.Outcome State Fault Refusal := .next (waitFlagOp s c cond false f)

/-- WAIT.FLAG.ACQ (R200): the same wait, whose satisfying read acquires at device scope. -/
def execWaitFlagAcq (c : Nat) (cond : Nat) (f : IFields) (s : State) : Host.Outcome State Fault Refusal := .next (waitFlagOp s c cond true f)

/-- FLAG_POLL (R146). -/
def execFlagPoll (c : Nat) (s : State) : Host.Outcome State Fault Refusal := .next (flagPoll s c)

/-- AT.TIME (R203). -/
def execAtTime (c : Nat) (f : IFields) (s : State) : Host.Outcome State Fault Refusal := .next (atTimeOp s c f)

/-- TIME.READ (R204). -/
def execTimeRead (c : Nat) (f : IFields) (s : State) : Host.Outcome State Fault Refusal := .next (timeReadOp s c f)

/-- TIME.NEXT (R205). -/
def execTimeNext (c : Nat) (f : IFields) (s : State) : Host.Outcome State Fault Refusal := .next (issue s c 0x07 0x02 f ⟨.gw, .z, .z, 0, false⟩ false (fun t => advance (setG t c f.rd (BitVec.ofNat 64 (now t / 65536 * 65536 + 65536))) c false))

/-- Q.DONE (R206). -/
def execQDone (c : Nat) (f : IFields) (s : State) : Host.Outcome State Fault Refusal := .next (issue s c 0x08 0x00 f ⟨.gw, .z, .q, 0, false⟩ false (fun t => advance (setG t c f.rd (BitVec.ofNat 64 (t.get TEN_SQ_DONE.SEQ (ownQueue t c f.rb)))) c false))

/-- Q.RING (R207, R208). -/
def execQRing (c : Nat) (f : IFields) (s : State) : Host.Outcome State Fault Refusal := .next (qRingOp s c f)

end Sys2Proof.Machine
end

