-- ==== Sys2Proof/Machine/Tiles.lean ====
section
/-! DEFINITION. Tiles and packet headers as bytes: the two check codes, the 48-byte header, the discard conditions of R722,
the link header, the time tile body, and the slot geometry (10, 02). -/

namespace Sys2Proof.Machine

open Sys2Proof

/-! ### Check codes -/

def crc64Bit (c : Nat) (b : Bool) : Nat :=
  let c2 := (c <<< 1) % 2 ^ 64
  if (c.testBit 63) != b then c2 ^^^ 0x42F0E1EBA9EA3693 else c2

def crc64Byte (c : Nat) (b : Byte) : Nat :=
  [7, 6, 5, 4, 3, 2, 1, 0].foldl (fun acc k => crc64Bit acc (b.toNat.testBit k)) c

/-- The tile CRC (R440): ECMA-182, most significant bit first, register all ones, result inverted. -/
def crc64 (d : List Byte) : Nat := (d.foldl crc64Byte (2 ^ 64 - 1)) ^^^ (2 ^ 64 - 1)

def crc32cBit (c : Nat) : Nat := if c.testBit 0 then (c >>> 1) ^^^ 0x82F63B78 else c >>> 1

def crc32cByte (c : Nat) (b : Byte) : Nat :=
  [0, 1, 2, 3, 4, 5, 6, 7].foldl (fun acc _ => crc32cBit acc) (c ^^^ b.toNat)

/-- CRC-32C (R451): reflected, register all ones, result inverted. -/
def crc32c (d : List Byte) : Nat := (d.foldl crc32cByte (2 ^ 32 - 1)) ^^^ (2 ^ 32 - 1)

/-! ### Packet header (R450, R454) -/

/-- Header bytes 0 to 43 of a packet. -/
def hdr44 (p : Packet) : List Byte :=
  leBytes 2 p.dst ++ leBytes 2 p.src ++ leBytes 2 (p.ten % 1024 + 1024 * (p.vc % 8) + 8192 * (p.kep % 2)) ++
  [BitVec.ofNat 8 p.op, BitVec.ofNat 8 p.hops] ++ leBytes 2 p.pay.length ++ leBytes 2 p.flags ++ leBytes 4 p.seq ++
  leBytes 8 p.target ++ leBytes 4 p.tag ++ [BitVec.ofNat 8 p.lgen, BitVec.ofNat 8 p.hod, BitVec.ofNat 8 p.hgen, 0] ++
  leBytes 4 p.e32 ++ leBytes 4 p.e36 ++ leBytes 2 p.e40 ++ leBytes 2 0

/-- HCHK: CRC-32C of bytes 0 to 43 with byte 7 taken as zero (R451). -/
def hchk (h : List Byte) : Nat := crc32c (h.take 7 ++ [0] ++ (h.drop 8).take 36)

/-- The packet as a byte string: header and payload (R446). -/
def packetBytes (p : Packet) : List Byte := hdr44 p ++ leBytes 4 (hchk (hdr44 p)) ++ p.pay

/-- The packet that a byte string of header and payload spells. -/
def parsePacket (b : List Byte) : Packet where
  dst := leAt b 0 2
  src := leAt b 2 2
  ten := leAt b 4 2 % 1024
  vc := bits (leAt b 4 2) 10 3
  kep := bits (leAt b 4 2) 13 1
  op := leAt b 6 1
  hops := leAt b 7 1
  flags := leAt b 10 2
  seq := leAt b 12 4
  target := leAt b 16 8
  tag := leAt b 24 4
  lgen := leAt b 28 1
  hod := leAt b 29 1 % 64
  hgen := leAt b 30 1
  e32 := leAt b 32 4
  e36 := leAt b 36 4
  e40 := leAt b 40 2
  pay := (b.drop 48).take (leAt b 8 2 % 4096)

/-- The arriving HCHK holds. -/
def hchkOk (b : List Byte) : Bool := hchk b == leAt b 44 4

/-- A reserved header bit is set, or the declared length exceeds 2048 (R453). -/
def rawBad (b : List Byte) : Bool :=
  bits (leAt b 4 2) 14 2 != 0 || bits (leAt b 8 2) 12 4 != 0 || 2048 < leAt b 8 2 || bits (leAt b 10 2) 7 9 != 0 ||
  bits (leAt b 29 1) 6 2 != 0 || leAt b 31 1 != 0 || leAt b 42 2 != 0

/-- Packet flags (Table - Packet flags). -/
def flLast : Nat := 0
def flKiln : Nat := 1
def flPal : Nat := 2
def flDemoted : Nat := 3
def flReplay : Nat := 4
def flRerouted : Nat := 5
def flMcast : Nat := 6

def hasFlag (p : Packet) (f : Nat) : Bool := p.flags.testBit f
def withFlag (p : Packet) (f : Nat) : Packet := { p with flags := maskSet p.flags f }

/-- Tiles of a packet (R446). -/
def tilesOf (p : Packet) : Nat := ceilDiv (48 + p.pay.length) 240

/-- The payload rule of the opcode (Table - Opcodes). -/
def payOk (p : Packet) : Bool :=
  let n := p.pay.length
  match p.op with
  | 0x10 => 1 ≤ n
  | 0x11 => n == 0
  | 0x12 =>
    let cw := leAt p.pay 0 8
    let w := if bit cw 4 then 16 else 8
    8 ≤ n && cw < 32 && bits cw 0 4 ≤ 9 && n == 8 + w + (if bits cw 0 4 = 2 then w else 0)
  | 0x13 => n == 16
  | 0x14 => n == 0
  | 0x15 => n == 8
  | 0x16 => n == 8
  | 0x17 => 1 ≤ n
  | 0x20 => 1 ≤ n
  | 0x21 => true
  | 0x30 => 1 ≤ n
  | 0x31 => n == 8 || n == 16
  | 0x32 => n == 16
  | 0x33 => n == 16
  | 0x34 => n == 16
  | 0x35 => n == 0
  | 0x40 => 16 ≤ n
  | 0x41 => n == 160
  | _ => false

/-- The VC is one that the opcode permits (Table - Opcodes, R59). -/
def vcOk (p : Packet) : Bool :=
  match p.op with
  | 0x10 => [0, 1, 6, 7].contains p.vc || (p.vc == 2 && hasFlag p flMcast)
  | 0x11 => [0, 1, 7].contains p.vc
  | 0x12 => [1, 7].contains p.vc
  | 0x13 => [1, 6, 7].contains p.vc
  | 0x14 => p.vc == 1
  | 0x15 => p.vc == 1
  | 0x16 => [1, 6, 7].contains p.vc || (p.vc == 2 && hasFlag p flMcast)
  | 0x17 => p.vc == 0
  | 0x20 => p.vc == 2
  | 0x21 => p.vc == 2
  | 0x40 => p.vc == 4
  | 0x41 => p.vc == 5
  | _ => p.vc == 3

/-- The first discard condition of R722 that a packet meets, HCHK aside: 0 none, 1 header, 2 null destination, 3 source,
4 tenant, 5 VC class. -/
def screen (p : Packet) : Nat :=
  if !(payOk p) || 2048 < p.pay.length || 128 ≤ p.flags || 64 ≤ p.hod ||
      (4 ≤ p.vc && p.vc ≤ 5 && (bits p.e32 12 4 != 0 || 4096 ≤ p.e40)) then 1
  else if p.dst = 0xFFFF then 2
  else if 0xC000 ≤ p.src then 3
  else if 0x200 < p.ten then 4
  else if !(vcOk p) then 5
  else 0

/-- Counts a discard of R722: `LNK_HDR_ERR_CNT` of the arrival port, or a field of `RTE_DROP_CNT`. -/
def countScreen (s : State) (q c : Nat) : State :=
  match c with
  | 1 => s.incSat LNK_CNT.COUNT q 5
  | 2 => s.incSat RTE_DROP_CNT.C0 0
  | 3 => s.incSat RTE_DROP_CNT.C1 0
  | 4 => s.incSat RTE_DROP_CNT.C2 0
  | 5 => s.incSat RTE_DROP_CNT.C3 0
  | _ => s

/-- Fields of the upper word of `RTE_DROP_CNT`. -/
def dropFenced (s : State) : State := s.incSat RTE_DROP_CNT.C0 1
def dropHops (s : State) : State := s.incSat RTE_DROP_CNT.C1 1
def dropNoRoute (s : State) : State := s.incSat RTE_DROP_CNT.C2 1
def dropTurn (s : State) : State := s.incSat RTE_DROP_CNT.C3 1

/-! ### Tiles (R440, R441, R446) -/

/-- Tile types (Table - Tile types). -/
def ttIdle : Nat := 0
def ttTime : Nat := 5
def ttLctl : Nat := 6

/-- The body of tile k of a packet: 240 bytes, the last one zero beyond its end. -/
def tileBody (p : Packet) (k : Nat) : List Byte :=
  (((packetBytes p).drop (240 * k)).take 240 ++ List.replicate 240 (0 : Byte)).take 240

/-- The type of tile k of n. -/
def tileType (k n : Nat) : Nat := if n = 1 then 4 else if k = 0 then 1 else if k + 1 = n then 3 else 2

/-- Link header fields of a tile (Table - Link header). -/
structure LinkHdr where
  typ : Nat
  vc : Nat
  pal : Nat
  lseq : Nat
  crvc : Nat
  crv : Nat
  crhdr : Nat
  crdata : Nat
  bad : Nat
deriving DecidableEq, Repr

def linkHdrBytes (h : LinkHdr) : List Byte :=
  leBytes 8 (h.typ % 16 + 2 ^ 4 * (h.vc % 8) + 2 ^ 7 * (h.pal % 2) + 2 ^ 8 * (h.lseq % 4096) + 2 ^ 20 * (h.crvc % 8) + 2 ^ 23 * (h.crv % 2) +
    2 ^ 24 * (h.crhdr % 2 ^ 16) + 2 ^ 40 * (h.crdata % 2 ^ 16) + 2 ^ 56 * (h.bad % 2))

/-- The 256 bytes of a tile: link header, body, CRC least significant byte first. -/
def tileBytes (h : LinkHdr) (body : List Byte) : List Byte :=
  let b := linkHdrBytes h ++ (body ++ List.replicate 240 (0 : Byte)).take 240
  b ++ leBytes 8 (crc64 b)

def parseLinkHdr (b : List Byte) : LinkHdr :=
  let w := leAt b 0 8
  ⟨bits w 0 4, bits w 4 3, bits w 7 1, bits w 8 12, bits w 20 3, bits w 23 1, bits w 24 16, bits w 40 16, bits w 56 1⟩

def tileCrcOk (b : List Byte) : Bool := b.length == 256 && crc64 (b.take 248) == leAt b 248 8

/-! ### Time tile body (Table - Time tile body) -/

def timeBytes (t : TimeBody) : List Byte :=
  [BitVec.ofNat 8 t.kind, BitVec.ofNat 8 (t.state + 8 * t.depth)] ++ leBytes 2 t.seq ++ leBytes 2 t.master ++
  leBytes 2 t.epoch ++ leBytes 8 (t.t1 / 256) ++ leBytes 1 t.t1 ++ leBytes 1 t.t2 ++ leBytes 1 t.t3 ++ leBytes 1 t.est ++
  leBytes 8 (t.t2 / 256) ++ leBytes 8 (t.t3 / 256) ++ leBytes 2 t.sender ++ leBytes 1 t.port ++ leBytes 1 0

def parseTime (b : List Byte) : TimeBody where
  kind := leAt b 0 1
  state := leAt b 1 1 % 8
  depth := bits (leAt b 1 1) 3 4
  seq := leAt b 2 2
  master := leAt b 4 2
  epoch := leAt b 6 2
  t1 := 256 * leAt b 8 8 + leAt b 16 1
  t2 := 256 * leAt b 20 8 + leAt b 17 1
  t3 := 256 * leAt b 28 8 + leAt b 18 1
  est := leAt b 19 1
  sender := leAt b 36 2
  port := leAt b 38 1

/-! ### Slot geometry (R92, Table - Lane timing) -/

/-- Active lanes of a width code. -/
def lanesOf (code : Nat) : Nat := match code with | 0 => 16 | 1 => 8 | _ => 4

/-- Bits of one lane in one tick: generation 0 LG1, 1 LG2, 2 LG3. -/
def laneRate (gen : Nat) : Nat := match gen with | 2 => 32 | 1 => 16 | _ => 8

/-- Usable tiles of a slot: floor((256 - 6 - T) / T) with T = 2048 × 544 / (w × rate × 514) ticks. -/
def usableTiles (gen code : Nat) : Nat := (250 * lanesOf code * laneRate gen * 514) / (2048 * 544) - 1

def portGen (s : State) (p : Nat) : Nat := s.get LNK_STATUS.GEN p
def portWidth (s : State) (p : Nat) : Nat := s.get LNK_STATUS.WIDTH p
def portUsable (s : State) (p : Nat) : Nat := usableTiles (portGen s p) (portWidth s p)

/-- Link states (Table - Link states). -/
def lsDisabled : Nat := 0
def lsDetect : Nat := 1
def lsLock : Nat := 2
def lsConfig : Nat := 3
def lsHold : Nat := 4
def lsEqualize : Nat := 5
def lsVerify : Nat := 6
def lsCredit : Nat := 7
def lsActive : Nat := 8
def lsDown : Nat := 9

def linkState (s : State) (p : Nat) : Nat := s.get LNK_STATUS.STATE p
def linkActive (s : State) (p : Nat) : Bool := linkState s p == lsActive

/-- The role of a port (R30). -/
def portRole (s : State) (p : Nat) : Nat := bits (s.rg .GLB_PORT_ROLE (p / 16)).toNat (2 * (p % 16)) 2
def roleTorus : Nat := 1
def roleUp : Nat := 2
def roleDown : Nat := 3

/-- The port is time-unsafe (R96). -/
def timeUnsafe (s : State) (p : Nat) : Bool := s.on TIM_PEER_OFF.UNSAFE p

/-- A flat ID is fenced (R505). -/
def fenced (s : State) (f : Nat) : Bool := f < 0xC000 && bit (s.rg .RTE_FENCE (f / 32)).toNat (f % 32)

def partnerOf (s : State) (p : Nat) : Nat := s.get LNK_PARTNER.FLAT_ID p

end Sys2Proof.Machine
end

