-- ==== Sys2Proof/Machine/TimeState.lean ====
section
/-! DEFINITION. The time state: parents, the transition table and its evaluation, the estimated error, the discipline loop,
and the time-unsafe marks (02, R62 to R98). -/

namespace Sys2Proof.Machine

open Sys2Proof

def PortTime.zero : PortTime := ⟨0, none, 0, none, [], 0, 15, 0xFFFF, 0, 255, false, 0, 0⟩

def portT (s : State) (p : Nat) : PortTime := tabGet PortTime.zero p s.tim.ports
def setPortT (s : State) (p : Nat) (x : PortTime) : State :=
  { s with tim := { s.tim with ports := tabSet PortTime.zero p x s.tim.ports } }

/-- Time states (Table - Time state encoding). -/
def tsUnlocked : Nat := 0
def tsAcquire : Nat := 1
def tsLocked : Nat := 2
def tsHoldover : Nat := 3
def tsMaster : Nat := 4

def timState (s : State) : Nat := s.get TIM_STATUS.STATE
def everLocked (s : State) : Bool := s.on TIM_STATUS.EVER_LOCKED
def modeMaster (s : State) : Bool := s.get TIM_CTL.MODE == 1

/-- The parent port named by TIM_PARENT: 0 primary, 1 backup; none where its enable bit is 0 (R78). -/
def parentPort (s : State) (k : Nat) : Option Nat :=
  if k = 0 then (if s.on TIM_PARENT.PRIMARY_EN then some (s.get TIM_PARENT.PRIMARY) else none)
  else if s.on TIM_PARENT.BACKUP_EN then some (s.get TIM_PARENT.BACKUP) else none

def activeParent (s : State) : Option Nat := parentPort s (s.get TIM_PARENT.ACTIVE)

/-- The peer on port p is an eligible parent (R78, R79): its link is active, its state LOCKED or MASTER, its depth at most
14. -/
def eligible (s : State) (p : Nat) : Bool :=
  linkActive s p && ((portT s p).peerState == 2 || (portT s p).peerState == 4) && (portT s p).peerDepth ≤ 14

/-- The active parent is lost (R79). -/
def parentLost (s : State) : Bool :=
  match activeParent s with
  | none => true
  | some p => !(eligible s p) || Nat.max 1 (s.get TIM_LOOP.LOSS_COURSES) ≤ (portT s p).since

/-- F of TIM_FREQ as a signed number, and placing it under the clamp of R64. -/
def freqF (s : State) : Int := sgn 32 (s.rg .TIM_FREQ).toNat
def clampF (x : Int) : Int := clampI (-8589934) 8589934 x
def setF (s : State) (x : Int) : State := s.setRg .TIM_FREQ (BitVec.ofNat 32 (unsgn 32 (clampF x)))

/-- A state change: the trace record, and the fault source TIME on an entry to HOLDOVER or UNLOCKED from another state
(R660). -/
def setTimState (s : State) (x : Nat) : State :=
  if timState s = x then s
  else
    let s1 := traceTime (s.put TIM_STATUS.STATE x) 2 0 0
    if x = tsHoldover || x = tsUnlocked then raise s1 3 else s1

/-- Entry to HOLDOVER with the effects of R86 and R89. -/
def toHoldover (s : State) (forced : Bool) : State :=
  let st := timState s
  let mag := if st = tsAcquire || st = tsLocked then s.tim.latestX.natAbs else 0
  let s1 := if st = tsHoldover then s
    else if st = tsMaster || modeMaster s then { s with tim := { s.tim with fInt := freqF s } }
    else if st = tsAcquire || st = tsLocked then setF s s.tim.fInt
    else s
  let s2 := { s1 with tim := { s1.tim with holdX := if st = tsHoldover then s1.tim.holdX else mag, holdAt := if st = tsHoldover then s1.tim.holdAt else now s1, estForced := s1.tim.estForced || forced } }
  setTimState s2 tsHoldover

def toUnlocked (s : State) : State :=
  let s1 := setTimState s tsUnlocked
  (setF { s1 with tim := { s1.tim with fInt := 0, masterId := 0xFFFF } } 0).put TIM_STATUS.DEPTH 15

def toMaster (s : State) : State :=
  let s1 := { s with tim := { s.tim with estForced := false, masterId := ownFlat s } }
  setTimState ((s1.put TIM_STATUS.EVER_LOCKED 1).put TIM_STATUS.DEPTH 0) tsMaster

/-- Entry to ACQUIRE with parent k active: the count of R69 and the step of R85 start again. -/
def toAcquire (s : State) (k : Nat) : State :=
  let x := match parentPort s k with | some p => (portT s p).offX | none => 0
  let s1 := { s with tim := { s.tim with inWin := 0, far := false, stepped := false, estForced := false, latestX := x } }
  setTimState (s1.put TIM_PARENT.ACTIVE k) tsAcquire

/-- The eligible parent with a valid exchange since the last boundary, the primary first. -/
def freshParent (s : State) : Option Nat :=
  [0, 1].find? (fun k => match parentPort s k with
    | some p => eligible s p && (portT s p).fresh
    | none => false)

/-- One evaluation of Table - Time state transitions (R69). A REFCLK loss prevails over a write of MODE. -/
def timeTransition (s : State) (modeWas : Nat) (refLost : Bool) : State :=
  let st := timState s
  if refLost then
    if everLocked s then toHoldover s true else toUnlocked s
  else if modeMaster s && modeWas != 1 && st != tsMaster then toMaster s
  else if st = tsMaster then
    if !(modeMaster s) && modeWas == 1 then toHoldover s false else s
  else if st = tsUnlocked then
    match freshParent s with | some k => toAcquire s k | none => s
  else if st = tsHoldover then
    if modeMaster s then (if s.on CLK_STATUS.REF_OK && !(s.on CLK_STATUS.FT_SRC) then toMaster s else s)
    else match freshParent s with | some k => toAcquire s k | none => s
  else if parentLost s then
    let k := 1 - s.get TIM_PARENT.ACTIVE
    let other := match parentPort s k with | some p => eligible s p | none => false
    if other then toAcquire s k
    else if everLocked s then toHoldover s false
    else toUnlocked s
  else if st = tsAcquire then
    if 16 ≤ s.tim.inWin then setTimState (s.put TIM_STATUS.EVER_LOCKED 1) tsLocked else s
  else if s.tim.far then setTimState { s with tim := { s.tim with far := false, inWin := 0, stepped := true } } tsAcquire
  else s

/-- A follower's depth, master and master epoch follow its active parent (R81). -/
def adoptParent (s : State) : State :=
  if timState s = tsAcquire || timState s = tsLocked then
    match activeParent s with
    | some p =>
      let t := portT s p
      let s1 := { s.put TIM_STATUS.DEPTH (t.peerDepth + 1) with tim := { s.tim with masterId := t.peerMaster } }
      if modeMaster s1 then s1 else s1.put TIM_CTL.MASTER_EPOCH t.peerEpoch
    | none => s
  else s

/-- The evaluation of the time state at a course boundary or at a parent-port link-down event. -/
def timeEval (s : State) : State :=
  let was := s.tim.modeSeen
  let lost := s.tim.refLost
  adoptParent (timeTransition { s with tim := { s.tim with modeSeen := s.get TIM_CTL.MODE, refLost := false } } was lost)

/-- EST_ERR as it stands (R89). (DEDUCED, log 62) -/
def estErr (s : State) : Nat :=
  match timState s with
  | 0 => 255
  | 1 => Nat.min 255 (ceilDiv s.tim.latestX.natAbs 256)
  | 3 =>
    if s.tim.estForced then 255
    else Nat.min 255 (ceilDiv (s.tim.holdX * 1000000000 + 256 * (now s - s.tim.holdAt) * s.get TIM_HOLD_CFG.DRIFT_PPB)
      (256 * 1000000000))
  | _ => 0

/-- The counter and its fraction as one number of 2^-32 tick. -/
def counter (s : State) : Nat := s.tim.ticks * 2 ^ 32 + s.tim.frac

def setCounter (s : State) (n : Nat) : State :=
  { s with tim := { s.tim with ticks := n / 2 ^ 32 % 2 ^ 64, frac := n % 2 ^ 32 } }

/-- The stamp of the counter in 1/256 tick (R74). -/
def stamp (s : State) : Nat := s.tim.ticks * 256 + s.tim.frac / 2 ^ 24

/-- The discipline loop at a course boundary (R85): a step while the device has never been locked, else the loop. -/
def discipline (s : State) : State :=
  if timState s = tsAcquire || timState s = tsLocked then
    match activeParent s with
    | none => s
    | some p =>
      if (portT s p).fresh then
        let x := (portT s p).offX
        if !(everLocked s) && !s.tim.stepped then
          setCounter { s with tim := { s.tim with stepped := true } } ((counter s : Int) + x * 2 ^ 24).toNat
        else
          let u := x * 2 ^ 10
          let fi := clampF (s.tim.fInt + u >>> (s.get TIM_LOOP.KI_SHIFT))
          setF { s with tim := { s.tim with fInt := fi } } (fi + u >>> (s.get TIM_LOOP.KP_SHIFT))
      else s
  else s

/-- The port is in a condition of R96. -/
def unsafeNow (s : State) (p : Nat) : Bool :=
  (!(sure s) && s.get TIM_HOLD_CFG.PALLET_LIMIT < estErr s) || timState s == tsUnlocked ||
  (timState s == tsAcquire && !(everLocked s)) || 6 * 256 < (sgn 24 (s.get TIM_PEER_OFF.X p)).natAbs || 8 ≤ (portT s p).since

/-- One port at a course boundary: the count of courses without an exchange, VALID, and the time-unsafe mark (R96 to R98). -/
def portCourse (s : State) (p : Nat) : State :=
  let t := portT s p
  let t1 := { t with since := if t.fresh then 0 else satAdd 255 t.since 1 }
  let s1 := setPortT s p t1
  let v := b2n (t1.since < 8)
  let s2 := (s1.put TIM_PEER_OFF.VALID v p).put CIR_PORT_DELAY.VALID v p
  if unsafeNow s2 p then (setPortT s2 p { t1 with clean := 0 }).put TIM_PEER_OFF.UNSAFE 1 p
  else
    let n := Nat.min 16 (t1.clean + 1)
    (setPortT s2 p { t1 with clean := n }).put TIM_PEER_OFF.UNSAFE (if 16 ≤ n then 0 else s2.get TIM_PEER_OFF.UNSAFE p) p

/-- The exchanges of the course that ends have been used. -/
def exchangesUsed (s : State) : State :=
  (List.range 32).foldl (fun acc p => setPortT acc p { portT acc p with fresh := false }) s

end Sys2Proof.Machine
end

