-- ==== Sys2Proof/Machine/RouteSel.lean ====
section
/-! DEFINITION. The choice of a port: route entries, the removals of R483, candidates, usable sets and the starting position
(11, R482 to R495). -/

namespace Sys2Proof.Machine

open Sys2Proof

/-- The scale class in force: 0 A, 1 B, 2 C (R679). -/
def scaleClass (s : State) : Nat := s.get GLB_SCALE_CLASS.CUR

def rtZero : List W32 := [0, 0, 0, 0]
def mcZero : List W32 := List.replicate 11 0

/-- Route entry of a flat ID in the active or the shadow bank (R487). -/
def routeEntry (s : State) (f : Nat) (shadow : Bool) : List W32 :=
  if (s.on RTE_STATUS.BANK) != shadow then tabGet rtZero f s.net.rt1 else tabGet rtZero f s.net.rt0

/-- The multicast entry of group f (R507): word k of its eleven. -/
def mcWord (s : State) (f k : Nat) : Nat := ((tabGet mcZero (f - 0xC000) s.net.mc)[k]?.getD 0).toNat
def mcRoot (s : State) (f : Nat) : Bool := bit (mcWord s f 2) 0
def mcValid (s : State) (f : Nat) : Bool := bit (mcWord s f 2) 1
def mcSelf (s : State) (f : Nat) : Nat := bits (mcWord s f 2) 8 8
/-- LEAF_p: byte 12 + p of the entry. -/
def mcLeafOf (s : State) (f p : Nat) : Nat := bits (mcWord s f (3 + p / 4)) (8 * (p % 4)) 8

/-- A multicast group ID (Table - Flat ID ranges). -/
def isGroup (f : Nat) : Bool := 0xC000 ≤ f && f < 0xFFFF

/-- Direction of a torus port (R28). -/
def portDir (p : Nat) : Nat := p / 4

/-- R483 removes port c from every set of a packet that arrived on a port. -/
def turnRemoved (s : State) (inPort : Option Nat) (c : Nat) : Bool :=
  match inPort with
  | none => false
  | some q =>
    if portRole s q = roleUp then isSw s && portRole s c == roleUp
    else if portRole s q = roleTorus then
      portRole s c == roleTorus && (portDir c == portDir q || portDir c / 2 < portDir q / 2)
    else false

/-- The port sets that route a packet: those of its entry, or the up set of a multicast entry on a switch (R488, R509). -/
def setsOf (s : State) (o : OutPkt) : List Nat :=
  match o.only with
  | some p => [1 <<< p]
  | none =>
    if isSw s && isGroup o.pkt.dst then [mcWord s o.pkt.dst 1]
    else ((routeEntry s o.pkt.dst false).take (match scaleClass s with | 0 => 1 | 1 => 2 | _ => 4)).map (·.toNat)

/-- The candidates of a set for a packet (R493). -/
def candidates (s : State) (o : OutPkt) (set : Nat) : List Nat :=
  (bitsSet 32 set).filter (fun c => !(turnRemoved s o.inPort c) && linkActive s c &&
    (!(fenced s (partnerOf s c)) || (o.pkt.vc == 0 && o.pkt.ten == serviceDom)))

/-- The first usable set with its index (R493). -/
def usableSet (s : State) (o : OutPkt) : Option (Nat × List Nat) :=
  ((setsOf s o).zipIdx.map (fun x => (x.2, candidates s o x.1))).find? (fun x => !x.2.isEmpty)

/-- Every set is empty after R483 (R484). -/
def noTurn (s : State) (o : OutPkt) : Bool :=
  (setsOf s o).all (fun set => (bitsSet 32 set).all (fun c => turnRemoved s o.inPort c))

/-- The starting position of R495 among n candidates. -/
def startPos (p : Packet) (n : Nat) : Nat :=
  let sq := if p.op = 0x33 || p.op = 0x34 then 0 else p.seq % 65536
  (p.src * 0x9E37 + p.dst * 0x7F4B + p.vc * 0x1F1F + sq) % 65536 % n

/-- The candidates in the order of R495. -/
def rotate (l : List Nat) (j : Nat) : List Nat := l.drop j ++ l.take j

/-- The port on which a waiting packet starts its search: the port it is queued for. -/
def preferred (s : State) (o : OutPkt) : Option Nat :=
  match usableSet s o with
  | some (_, l) => l[startPos o.pkt l.length]?
  | none => none

/-- Packets that have lost their usable set begin their hold now (R496). -/
def rehold (old s : State) : State :=
  { s with net := { s.net with out := s.net.out.map (fun o => if (usableSet old o).isSome && (usableSet s o).isNone then { o with since := now s } else o) } }

/-- Flow key of a packet's destination, VC and multicast mark at its source (R266). -/
def flowKey (dst vc : Nat) (mc : Bool) : Nat := dst * 16 + vc + (if mc then 8 else 0)

end Sys2Proof.Machine
end

