-- ==== Sys2Proof/Machine/Link.lean ====
section
/-! DEFINITION. The ports: sending a tile, credits, training, lane sparing, width change, retrain and link down (10). The
meanings of the rows that a link event or a link control tile names. -/

namespace Sys2Proof.Machine

open Sys2Proof

def Port.zero : Port where
  lseq := 0
  ctx := []
  ctl := []
  again := []
  tileNo := 0
  slot := 0
  slotSent := 0
  palSent := 0
  vcSent := []
  advA := []
  credS := []
  credR := []
  advSent := false
  advGot := none
  hist := []
  settled := 0
  seen := []
  lastCred := 0
  resync := none
  yResync := false
  expect := none
  rx := []
  ret := []
  drops := 0
  recent := []
  dropDue := []
  good := 0
  corr := []
  uncorr := 0
  crc := 0
  since := 0
  capsAt := 0
  det := 0
  partner := none
  retrain := none
  retrainAt := none
  verifyFail := 0
  width := none
  withdrawn := 0
  noPal := none
  spare := none
  spareX := none
  lockC := []
  adapt := []
  throttled := false
  lastLocal := none
  sentTile := []

def portOf (s : State) (p : Nat) : Port := tabGet Port.zero p s.net.ports
def setPort (s : State) (p : Nat) (x : Port) : State :=
  { s with net := { s.net with ports := tabSet Port.zero p x s.net.ports } }
def updPort (s : State) (p : Nat) (f : Port → Port) : State := setPort s p (f (portOf s p))

/-- The link counters at +0x080 (Table - Link counters), by index. -/
def cntCrcDrop : Nat := 0
def cntFecCorr : Nat := 1
def cntFecUncorr : Nat := 2
def cntSeqGap : Nat := 3
def cntTrunc : Nat := 4
def cntHdrErr : Nat := 5
def cntCreditErr : Nat := 6
def cntDown : Nat := 7
def cntRetrain : Nat := 8
def cntLctlBad : Nat := 9
def cntTypeErr : Nat := 10

def lnkCount (s : State) (p k : Nat) (n : Nat := 1) : State := s.inc LNK_CNT.COUNT p k n

/-- The LANE region of port p runs (R581, R603). -/
def laneRuns (s : State) (p : Nat) : Bool :=
  bit (s.get CLK_STATUS.LPLL_LOCK) (p / 4) && !(s.on CLK_STATUS.CLOCK_LOST) && !s.clk.por && !s.clk.core

/-! ### Credits (R459 to R462, R499) -/

def credGet (t : Tab (Nat × Nat)) (v : Nat) : Nat × Nat := tabGet (0, 0) v t

def add16 (a b : Nat) : Nat := (a + b) % 65536
def sub16 (a b : Nat) : Nat := (a + 65536 - b % 65536) % 65536

/-- Header credits that count as advertised for VC v: capped on a torus port (R499). -/
def advHdr (s : State) (p v : Nat) : Nat :=
  let a := credGet (portOf s p).advA v
  if portRole s p = roleTorus then Nat.min a.1 (a.2 / 9) else a.1

/-- Header and data credits available to the transmitter. -/
def availHdr (s : State) (p v : Nat) : Nat :=
  advHdr s p v - sub16 (credGet (portOf s p).credS v).1 (credGet (portOf s p).credR v).1
def availData (s : State) (p v : Nat) : Nat :=
  (credGet (portOf s p).advA v).2 - sub16 (credGet (portOf s p).credS v).2 (credGet (portOf s p).credR v).2

/-- Buffers of VC v freed at the receiver: header and data counts rise (R462, R463). -/
def freeBuf (s : State) (p v h d : Nat) : State :=
  updPort s p (fun x =>
    let r := credGet x.ret v
    { x with ret := tabSet (0, 0) v (add16 r.1 h, add16 r.2 d) x.ret })

/-! ### Sending -/

/-- Sends one tile on port p: link header with LSEQ and the credit return of R443, CRC, and the counts of tiles. (DEDUCED, log 59) -/
def sendTile (s : State) (p typ vc pal bad : Nat) (body : List Byte) : State :=
  let x := portOf s p
  let act := linkActive s p
  let q := if act then x.lseq else 0
  let v := q % 8
  let crv := act && x.advSent
  let r := credGet x.ret v
  let t := tileBytes ⟨typ, vc, pal, q, if crv then v else 0, b2n crv, if crv then r.1 else 0, if crv then r.2 else 0, bad⟩ body
  let s1 := updPort s p (fun y => { y with lseq := if act then (y.lseq + 1) % 4096 else y.lseq, tileNo := y.tileNo + 1, seen := if act then y.seen.filter (fun z => z != q) else y.seen, hist := if act then y.hist.filter (fun z => z.1 != q) else y.hist, sentTile := t })
  let s2 := if typ = ttIdle then s1.incSat RTE_TX_IDLE.COUNT p
    else if typ = ttTime || typ = ttLctl then s1.incSat RTE_TX_CTL.COUNT p
    else if pal = 1 then count (s1.incSat RTE_TX_PALLET.COUNT p) 0x0F 255 255 none none (0, 0)
    else (updPort s1 p (fun y => { y with vcSent := tabSet 0 vc (tabGet 0 vc y.vcSent + 1) y.vcSent })).incSat
      RTE_TX_MORTAR.COUNT p vc
  if typ = ttIdle then s2 else s2.put64 .OBS_PORT_TX p (s2.get64 .OBS_PORT_TX p + 1)

def lctl (b : List Byte) : List Byte := (b ++ List.replicate 240 (0 : Byte)).take 240

/-- An LCTL body waits to be sent. -/
def queueCtl (s : State) (p : Nat) (b : List Byte) : State :=
  updPort s p (fun x => { x with ctl := x.ctl ++ [lctl b] })

/-- An LCTL body waits to be sent, and again every 64 tiles until it is answered (R458). -/
def queueAsk (s : State) (p : Nat) (b : List Byte) : State :=
  updPort (queueCtl s p b) p (fun x => { x with again := x.again.filter (fun y => y.1.headD 0 != b.headD 0) ++ [(lctl b, x.tileNo + 64)] })

/-- The answer to a request of this kind has arrived: it is sent no more. -/
def answered (s : State) (p : Nat) (kind : Byte) : State :=
  updPort s p (fun x => { x with again := x.again.filter (fun y => y.1.headD 0 != kind), ctl := x.ctl.filter (fun y => y.headD 0 != kind) })

/-! ### Lanes -/

def laneMap (s : State) (p k : Nat) : Nat := bits (s.rg .LNK_LANE_MAP p (k / 4)).toNat (8 * (k % 4)) 5

def setLaneMap (s : State) (p k l : Nat) : State :=
  s.setRg .LNK_LANE_MAP (BitVec.ofNat 32 (setBits (s.rg .LNK_LANE_MAP p (k / 4)).toNat (8 * (k % 4)) 5 l)) p (k / 4)

/-- Healthy receive lanes, in increasing order. -/
def healthy (s : State) (p : Nat) : List Nat := bitsSet 18 (s.get LNK_LANE_STATUS.HEALTHY p)

/-- The physical lanes in use at the width in force. -/
def mappedLanes (s : State) (p : Nat) : List Nat := (List.range (lanesOf (portWidth s p))).map (laneMap s p)

/-- Maps logical lane k to the k-th lane of a list. -/
def mapLanes (s : State) (p : Nat) (l : List Nat) : State :=
  l.zipIdx.foldl (fun acc x => setLaneMap acc p x.2 x.1) s

/-- The width code of the largest width that n lanes and a greatest width allow (R469); none below 4 lanes. -/
def widthFor (n maxCode : Nat) : Option Nat :=
  if 16 ≤ n && maxCode = 0 then some 0 else if 8 ≤ n && maxCode ≤ 1 then some 1 else if 4 ≤ n then some 2 else none

/-- The receive lane set of a width: its first healthy lanes. -/
def laneSet (s : State) (p code : Nat) : List Nat := (healthy s p).take (lanesOf code)

def maskOf (l : List Nat) : Nat := l.foldl maskSet 0

/-! ### State changes -/

/-- A change of link state, with its trace record (source 6, event 2) and the restart of the state's timer. -/
def setLink (s : State) (p new reason : Nat) : State :=
  let old := linkState s p
  let s1 := updPort (s.put LNK_STATUS.STATE new p) p (fun x => { x with since := s.clk.rcosc })
  traceEv s1 6 2 0x3FF 0 (some p) [BitVec.ofNat 8 p, BitVec.ofNat 8 old, BitVec.ofNat 8 new, BitVec.ofNat 8 reason,
    BitVec.ofNat 8 (portWidth s p), BitVec.ofNat 8 (portGen s p)]

/-- The input buffers of the packets being sent on a port are returned, as those packets end here (R481). -/
def freeSending (s : State) (p : Nat) : State :=
  (portOf s p).ctx.foldl (fun acc c =>
    match c.2.o.inPort, c.2.o.bufVc with
    | some q, some v => freeBuf acc q v 1 (tilesOf c.2.o.pkt - c.2.sent)
    | _, _ => acc) s

/-- What a port loses when it leaves ACTIVE or goes DOWN: packets being sent and received, requests, credits (R481). -/
def clearPort (s : State) (p : Nat) : State :=
  updPort (freeSending s p) p (fun x => { x with ctx := [], rx := [], ctl := [], again := [], advA := [], credS := [], credR := [], ret := [], hist := [], seen := [], settled := 0, drops := 0, recent := [], dropDue := [], resync := none, yResync := false, advSent := false, advGot := none, expect := none, width := none, spare := none, spareX := none, noPal := none })

/-- A parent port that leaves ACTIVE is a parent-port link-down event (R69, R79). -/
def parentEvent (s : State) (p : Nat) : State :=
  if parentPort s 0 = some p || parentPort s 1 = some p then timeEval s else s

/-- The port has left ACTIVE: its exchange ends, and the time state is judged. -/
def leftActive (s : State) (p : Nat) (was : Bool) : State :=
  let s1 := (s.put LNK_STATUS.RESYNC 0 p).put LNK_STATUS.SPARING 0 p
  let s2 := setPortT s1 p { portT s1 p with reqT1 := none, owed := [] }
  if was then parentEvent s2 p else s2

/-- DOWN with a reason (R480, R481). -/
def enterDown (s : State) (p reason : Nat) : State :=
  let st := linkState s p
  if st = lsDown || st = lsDisabled then s
  else
    let notify := (reason != 7) && (reason != 8) && 4 ≤ (healthy s p).length && lsConfig ≤ st && st != lsEqualize
    let s1 := if notify then sendTile s p ttLctl 0 0 0 (lctl [0x0B, BitVec.ofNat 8 reason]) else s
    let s2 := lnkCount ((s1.put LNK_STATUS.DOWN_REASON reason p).put LNK_STATUS.GEN_EXCL 0 p) p cntDown
    let s3 := setLink (clearPort s2 p) p lsDown reason
    rehold s <| leftActive (raise (updPort s3 p (fun x => { x with retrain := none, retrainAt := none, verifyFail := 0, withdrawn := 0, partner := none })) (16 + p)) p (st == lsActive)

/-- DISABLED (R466, R625): DOWN_NOTICE with reason FORCED where the port was ACTIVE, and no count in `LNK_DOWN_CNT`. -/
def enterDisabled (s : State) (p : Nat) : State :=
  let st := linkState s p
  if st = lsDisabled then s
  else
    let s1 := if st = lsActive then sendTile s p ttLctl 0 0 0 (lctl [0x0B, 9]) else s
    let s2 := setLink (clearPort (s1.put LNK_STATUS.GEN_EXCL 0 p) p) p lsDisabled 0
    rehold s <| leftActive (updPort s2 p (fun x => { x with retrain := none, retrainAt := none, verifyFail := 0, withdrawn := 0, partner := none })) p (st == lsActive)

/-- The gate of DISABLED: EN, role and the topology lock (Table - Link state transitions). -/
def linkGate (s : State) (p : Nat) : State :=
  if s.on LNK_CTL.EN p && portRole s p != 0 && s.on GLB_LOCK.TOPO then
    if linkState s p = lsDisabled then setLink (s.put LNK_STATUS.DOWN_REASON 0 p) p lsDetect 0 else s
  else enterDisabled s p

def allPorts : List Nat := List.range 32

/-- The own CAPS body (Table - Link control kinds). -/
def capsBody (s : State) (p : Nat) : List Byte :=
  let per : Nat := match persona s with | .ep => 0 | .sw => 1 | .mem => 2 | .rsvd => 3
  let gens := (s.get LNK_CFG.GEN_EN p &&& 7) &&& (7 - s.get LNK_STATUS.GEN_EXCL p)
  [0x01, BitVec.ofNat 8 (per + 4 * portRole s p), BitVec.ofNat 8 p, BitVec.ofNat 8 gens] ++ leBytes 2 (ownFlat s) ++
  [BitVec.ofNat 8 (s.get LNK_CFG.MAX_WIDTH p), 3] ++ leBytes 3 (s.get LNK_LANE_STATUS.HEALTHY p) ++
  [BitVec.ofNat 8 (b2n (portOf s p).partner.isSome)]

/-- CONFIG: the CAPS exchange begins. -/
def toConfig (s : State) (p : Nat) : State :=
  let s1 := updPort (setLink s p lsConfig 0) p (fun x => { x with partner := none, capsAt := s.clk.rcosc, ctl := [], again := [] })
  queueAsk s1 p (capsBody s1 p)

/-- The generations that this end still offers. -/
def gensOffered (s : State) (p : Nat) : Nat := (s.get LNK_CFG.GEN_EN p &&& 7) &&& (7 - s.get LNK_STATUS.GEN_EXCL p)

/-- A generation is excluded (R468): back to CONFIG, or DOWN with reason TRAIN when none is left. -/
def excludeGen (s : State) (p : Nat) : State :=
  let s1 := s.put LNK_STATUS.GEN_EXCL (maskSet (s.get LNK_STATUS.GEN_EXCL p) (portGen s p)) p
  if gensOffered s1 p = 0 then enterDown s1 p 6
  else toConfig (updPort s1 p (fun x => { x with verifyFail := 0 })) p

/-- The pair of roles, ports and personalities obeys R29 and R32. -/
def pairOk (s : State) (p : Nat) (b : List Byte) : Bool :=
  let role := portRole s p
  let pr := bits (leAt b 1 1) 2 2
  let pp := leAt b 1 1 % 4
  (role == roleTorus && pr == roleTorus && isEp s && pp == 0 && leAt b 2 1 == (p / 4 ^^^ 1) * 4 + p % 4) ||
  (role == roleUp && pr == roleDown) || (role == roleDown && pr == roleUp)

/-- This end is the lead (R476): lower flat ID, or lower port at equal flat IDs. -/
def isLead (s : State) (p : Nat) : Bool :=
  ownFlat s < partnerOf s p || (ownFlat s == partnerOf s p && p < s.get LNK_PARTNER.PORT p)

def popCount (n w : Nat) : Nat := (bitsSet w n).length

/-- The own CAPS that acknowledges the partner's and still waits is sent before the port leaves CONFIG: the partner's CONFIG ends on it. (DEDUCED, log 55) -/
def flushCaps (s : State) (p : Nat) : State :=
  match (portOf s p).ctl.find? (fun y => y.headD 0 == 0x01 && bit (leAt y 11 1) 0) with
  | some y => sendTile s p ttLctl 0 0 0 y
  | none => s

/-- CONFIG is judged on the partner's CAPS (R467 to R469): HOLD, DOWN, or EQUALIZE once the own CAPS is acknowledged. -/
def judgeCaps (s : State) (p : Nat) (b : List Byte) : State :=
  let common := gensOffered s p &&& leAt b 3 1
  let mine := (healthy s p).length
  let theirs := popCount (leAt b 8 3) 18
  if gensOffered s p = 0 then enterDown s p 6
  else if !(pairOk s p b) then
    setLink (raise (s.put LNK_STATUS.ROLE_MISMATCH 1 p) (16 + p)) p lsHold 0
  else if common = 0 || mine < 4 || theirs < 4 then setLink s p lsHold 0
  else if bit (leAt b 11 1) 0 then
    let gen := if bit common 2 then 2 else if bit common 1 then 1 else 0
    let code := (widthFor (Nat.min mine theirs) (Nat.max (s.get LNK_CFG.MAX_WIDTH p) (leAt b 6 1 % 4))).getD 2
    let s1 := ((s.put LNK_STATUS.GEN gen p).put LNK_STATUS.WIDTH code p).put LNK_STATUS.LEAD (b2n (isLead s p)) p
    setLink (answered (flushCaps (mapLanes s1 p (laneSet s1 p code)) p) p 0x01) p lsEqualize 0
  else s

/-- LNK_PARTNER shows the partner from its CAPS (R467). -/
def putPartner (s : State) (p : Nat) (b : List Byte) : State :=
  ((((s.put LNK_PARTNER.FLAT_ID (leAt b 4 2) p).put LNK_PARTNER.PORT (leAt b 2 1) p).put LNK_PARTNER.PERSONA
    (leAt b 1 1) p).put LNK_PARTNER.ROLE (bits (leAt b 1 1) 2 2) p).put LNK_PARTNER.GEN_CAP (leAt b 3 1) p

/-- An LCTL tile that its state does not make valid is counted (R457). -/
def lctlBad (s : State) (p : Nat) : State :=
  let st := linkState s p
  if st = lsConfig || st = lsHold || st = lsVerify || st = lsCredit || st = lsActive then lnkCount s p cntLctlBad else s

/-- A received CAPS (R467). -/
def onCaps (s : State) (p : Nat) (b : List Byte) : State :=
  let st := linkState s p
  if st = lsConfig then
    let first := (portOf s p).partner.isNone
    let s1 := putPartner (updPort s p (fun x => { x with partner := some (b.take 12), capsAt := s.clk.rcosc })) p b
    let s2 := if first then queueAsk s1 p (capsBody s1 p) else s1
    judgeCaps s2 p b
  else if st = lsHold then
    if (portOf s p).partner.map (List.take 11) = some (b.take 11) then
      updPort s p (fun x => { x with partner := some (b.take 12) })
    else toConfig s p
  else lctlBad s p

/-- ACTIVE: what begins with it. -/
def toActive (s : State) (p : Nat) : State :=
  let c := course s
  updPort (setLink s p lsActive 0) p (fun x => { x with expect := none, good := now s, retrain := none, retrainAt := none, withdrawn := 0, verifyFail := 0, corr := [], uncorr := 0, crc := 0, vcSent := [], adapt := [], lockC := (List.range 18).map (fun l => (l, c)) })

/-- The advertisement of LNK_CREDIT_CFG (R461), with the resync bit. -/
def advertBody (s : State) (p : Nat) (resync : Bool) : List Byte :=
  [0x02, BitVec.ofNat 8 (b2n resync)] ++
  ((List.range 8).map (fun v => leBytes 2 (s.get LNK_CREDIT_CFG.HDR p v))).flatten ++
  ((List.range 8).map (fun v => leBytes 2 (s.get LNK_CREDIT_CFG.DATA p v))).flatten

/-- The partner's advertisement takes effect (R462). -/
def takeAdvert (s : State) (p : Nat) (b : List Byte) : State :=
  updPort s p (fun x => { x with advGot := some b, credS := [], credR := [], hist := [], advA := (List.range 8).map (fun v => (v, leAt b (2 + 2 * v) 2, leAt b (18 + 2 * v) 2)) })

/-- A received ADVERT: kept in VERIFY, the end of CREDIT, or the end of a resync in ACTIVE (R457, R462, R465). -/
def onAdvert (s : State) (p : Nat) (b : List Byte) : State :=
  let st := linkState s p
  if st = lsVerify then updPort s p (fun x => { x with advGot := some b })
  else if st = lsCredit then
    let s1 := takeAdvert s p b
    if (portOf s1 p).advSent then toActive s1 p else s1
  else if st = lsActive then
    let s1 := takeAdvert s p b
    answered ((updPort s1 p (fun x => { x with resync := none })).put LNK_STATUS.RESYNC 0 p) p 0x04
  else lctlBad s p

/-! ### Resync (R464, R465) -/

/-- X names its last credit-bearing tile once no credit-bearing packet is in progress. -/
def resyncStep (s : State) (p : Nat) : State :=
  let x := portOf s p
  match x.resync with
  | some r =>
    if !r.sent && x.ctx.all (fun c => c.1 == 8) then
      queueAsk (updPort s p (fun y => { y with resync := some ⟨true, now s, 1⟩ })) p (0x04 :: leBytes 2 x.lastCred)
    else s
  | none => s

/-- Starts a resync of the transmit direction. -/
def startResync (s : State) (p : Nat) : State :=
  if linkActive s p && (portOf s p).resync.isNone then
    resyncStep ((updPort s p (fun x => { x with resync := some ⟨false, now s, 0⟩ })).put LNK_STATUS.RESYNC 1 p) p
  else s

/-- Y sends its advertisement once every receive buffer of the port is free. -/
def resyncReady (s : State) (p : Nat) : State :=
  if (portOf s p).yResync && !(s.net.rxq.any (fun x => x.1 == p)) &&
      !(s.net.out.any (fun o => o.inPort == some p && o.bufVc.isSome)) then
    queueCtl (updPort s p (fun x => { x with yResync := false })) p (advertBody s p true)
  else s

/-- A received RESYNC_REQ (R465): packets in progress are discarded, and the advertisement follows. -/
def onResyncReq (s : State) (p : Nat) (_ : List Byte) : State :=
  if linkActive s p then resyncReady (updPort s p (fun x => { x with yResync := true, rx := x.rx.filter (fun c => c.1 == 8) })) p
  else lctlBad s p

/-- A received DROP (R464). (DEDUCED, log 59) -/
def onDrop (s : State) (p : Nat) (b : List Byte) : State :=
  if linkActive s p then
    let n := Nat.min 32 (leAt b 3 1)
    let l := (List.range n).map (fun k => leAt b (4 + 2 * k) 2)
    let s1 := l.foldl (fun acc q =>
      let x := portOf acc p
      if x.seen.contains q then acc
      else
        let back := x.hist.find? (fun z => z.1 == q)
        updPort acc p (fun y =>
          let y1 := { y with seen := y.seen ++ [q], settled := add16 y.settled 1 }
          match back with
          | some (_, v, h, d) =>
            let r := credGet y.credR v
            { y1 with credR := tabSet (0, 0) v (add16 r.1 h, add16 r.2 d) y.credR, hist := y.hist.filter (fun z => z.1 != q) }
          | none => y1)) s
    if (portOf s1 p).settled = leAt b 1 2 then s1 else startResync (s1.put LNK_STATUS.CREDIT_LOST 1 p) p
  else lctlBad s p

/-- A credit return carried by a tile (R462). -/
def creditReturn (s : State) (p v rh rd : Nat) : State :=
  let x := portOf s p
  let sS := credGet x.credS v
  let sR := credGet x.credR v
  if sub16 rh sR.1 ≤ sub16 sS.1 sR.1 && sub16 rd sR.2 ≤ sub16 sS.2 sR.2 then
    updPort s p (fun y => { y with credR := tabSet (0, 0) v (rh % 65536, rd % 65536) y.credR })
  else startResync (lnkCount s p cntCreditErr) p

/-! ### Retrain, width and spares -/

/-- The port returns to EQUALIZE at a generation (R475). -/
def doRetrain (s : State) (p gen : Nat) : State :=
  let s1 := lnkCount ((s.put LNK_STATUS.DOWN_REASON 10 p).put LNK_STATUS.GEN gen p) p cntRetrain
  let s2 := setLink (clearPort s1 p) p lsEqualize 10
  rehold s <| leftActive (updPort s2 p (fun x => { x with retrain := none, retrainAt := some s.clk.rcosc, verifyFail := 0, withdrawn := 0 })) p true

/-- Requests a retrain at the generation in force. -/
def askRetrain (s : State) (p reason : Nat) : State :=
  if linkActive s p && (portOf s p).retrain.isNone then
    queueAsk (updPort s p (fun x => { x with retrain := some (portGen s p) })) p
      [0x05, BitVec.ofNat 8 (portGen s p), BitVec.ofNat 8 reason]
  else s

/-- A received RETRAIN_REQ: of two requests the lead's target prevails (R475, R476). -/
def onRetrainReq (s : State) (p : Nat) (b : List Byte) : State :=
  if linkActive s p then
    doRetrain s p (match (portOf s p).retrain with
      | some g => if isLead s p then g else Nat.min 2 (leAt b 1 1)
      | none => Nat.min 2 (leAt b 1 1))
  else lctlBad s p

/-- The switch point that a request names: the first slot start at least 1024 ticks ahead on a time-safe port, else an LSEQ
256 tiles ahead (R477). -/
def switchPoint (s : State) (p : Nat) : Nat × Nat :=
  if timeUnsafe s p then (0, ((portOf s p).lseq + 256) % 4096) else (ceilDiv (now s + 1024) 256 * 256, 0)

def widthBody (kind code lanes t q : Nat) : List Byte :=
  [BitVec.ofNat 8 kind, BitVec.ofNat 8 code] ++ leBytes 3 lanes ++ leBytes 8 t ++ leBytes 2 q

/-- Requests a width (R474, R477); a retrain request outranks it (R476). -/
def askWidth (s : State) (p code : Nat) : State :=
  if linkActive s p && (portOf s p).retrain.isNone && (portOf s p).width.isNone then
    let sp := switchPoint s p
    let m := maskOf (laneSet s p code)
    queueAsk (updPort s p (fun x => { x with width := some ⟨code, m, 0, sp.1, sp.2, true, false⟩ })) p
      (widthBody 6 code m sp.1 sp.2)
  else s

/-- The width that healthy lanes and MAX_WIDTH allow, asked for; below 4 lanes the link goes DOWN (R474). -/
def askBestWidth (s : State) (p : Nat) : State :=
  match widthFor (healthy s p).length (s.get LNK_CFG.MAX_WIDTH p) with
  | some code => askWidth s p code
  | none => enterDown s p 3

/-- A received WIDTH_REQ (R476): the lead keeps its own request; the follower answers with its lane set. -/
def onWidthReq (s : State) (p : Nat) (b : List Byte) : State :=
  if linkActive s p then
    let code := leAt b 1 1
    let x := portOf s p
    if x.retrain.isSome then s
    else
      match x.width with
      | some w =>
        if w.own && isLead s p then updPort s p (fun y => { y with width := some { w with code := Nat.max w.code code } })
        else
          let c := Nat.max (if w.own then w.code else code) code
          let m := maskOf (laneSet s p c)
          queueCtl (answered (updPort s p (fun y => { y with spare := none, spareX := none, width := some ⟨c, m, leAt b 2 3, leAt b 5 8, leAt b 13 2, false, true⟩ })) p 0x06) p
            (widthBody 7 c m (leAt b 5 8) (leAt b 13 2))
      | none =>
        let best := (widthFor (healthy s p).length 0).getD 2
        let c := Nat.max code best
        let m := maskOf (laneSet s p c)
        queueCtl ((updPort s p (fun y => { y with spare := none, spareX := none, width := some ⟨c, m, leAt b 2 3, leAt b 5 8, leAt b 13 2, false, true⟩ })).put LNK_STATUS.SPARING 0 p) p
          (widthBody 7 c m (leAt b 5 8) (leAt b 13 2))
  else lctlBad s p

/-- A received WIDTH_ACK fixes the agreed width (R476). -/
def onWidthAck (s : State) (p : Nat) (b : List Byte) : State :=
  if linkActive s p then
    match (portOf s p).width with
    | some w =>
      if w.own then
        let c := Nat.max w.code (leAt b 1 1)
        answered ((updPort s p (fun x => { x with spare := none, spareX := none, width := some { w with code := c, mine := maskOf (laneSet s p c), theirs := leAt b 2 3, agreed := true } })).put LNK_STATUS.SPARING 0 p) p 0x06
      else s
    | none => s
  else lctlBad s p

/-- The switch point of an agreed width change is reached. -/
def switchReached (s : State) (p : Nat) (w : WidthChg) : Bool :=
  if w.at? != 0 then w.at? ≤ now s else ((portOf s p).lseq + 4096 - w.lseq) % 4096 < 2048

/-- The port continues at the new width and lane set (R478). -/
def widthSwitch (s : State) (p : Nat) : State :=
  match (portOf s p).width with
  | some w =>
    if linkActive s p && w.agreed && switchReached s p w then
      let s1 := (updPort s p (fun x => { x with width := none, withdrawn := 0, noPal := some (now s / 256) })).put
        LNK_STATUS.WIDTH w.code p
      (mapLanes s1 p (bitsSet 18 w.mine)).inc LNK_WIDTH_CNT.DONE p
    else s
  | none => s

/-- The request is past its point without an answer (R479). -/
def withdrawDue (s : State) (p : Nat) (w : WidthChg) : Bool :=
  w.own && !w.agreed && isLead s p && (if w.at? != 0 then w.at? ≤ now s + 256 else switchReached s p w)

/-- The lead withdraws its request and makes a later one; after 8 the link goes DOWN. -/
def widthWithdraw (s : State) (p : Nat) : State :=
  match (portOf s p).width with
  | some w =>
    if linkActive s p && withdrawDue s p w then
      let s1 := answered ((updPort s p (fun x => { x with width := none, withdrawn := x.withdrawn + 1 })).inc
        LNK_WIDTH_CNT.RETRY p) p 0x06
      if 8 ≤ (portOf s1 p).withdrawn then enterDown s1 p 5 else askWidth s1 p w.code
    else s
  | none => s

/-- The lowest-numbered ready spare (R471). -/
def readySpare (s : State) (p : Nat) : Option Nat :=
  (bitsSet 18 (s.get LNK_SPARE_STATUS.READY p)).find? (fun l => !((mappedLanes s p).contains l))

/-- Requests a spare for logical lane k; without one, a lost lane asks for a width (R471). -/
def askSpare (s : State) (p k : Nat) (lost : Bool) : State :=
  if !(linkActive s p) || (portOf s p).spare.isSome then s
  else
    match readySpare s p with
    | some l =>
      queueAsk ((updPort s p (fun x => { x with spare := some ⟨k, l, none⟩ })).put LNK_STATUS.SPARING 1 p) p
        [0x08, BitVec.ofNat 8 k, BitVec.ofNat 8 l]
    | none => if lost then askBestWidth s p else s.incSat LNK_SPARE_CNT.NONE p

def sparing (s : State) (p : Nat) : State :=
  s.put LNK_STATUS.SPARING (b2n ((portOf s p).spare.isSome || (portOf s p).spareX.isSome)) p

/-- A received SPARE_REQ: X mirrors the lane on the spare and acknowledges (R472). -/
def onSpareReq (s : State) (p : Nat) (b : List Byte) : State :=
  if linkActive s p then
    queueCtl (sparing (updPort s p (fun x => { x with spareX := some (leAt b 1 1, leAt b 2 1) })) p) p
      [0x09, BitVec.ofNat 8 (leAt b 1 1), BitVec.ofNat 8 (leAt b 2 1)]
  else lctlBad s p

/-- A received SPARE_ACK: deskew and comparison begin (R472, R473). -/
def onSpareAck (s : State) (p : Nat) (b : List Byte) : State :=
  if linkActive s p then
    match (portOf s p).spare with
    | some c =>
      if c.lane = leAt b 1 1 && c.spare = leAt b 2 1 && c.ackAt.isNone then
        answered (updPort s p (fun x => { x with spare := some { c with ackAt := some (now s) } })) p 0x08
      else s
    | none => s
  else lctlBad s p

/-- A received SPARE_DONE: the old lane is a spare of X. -/
def onSpareDone (s : State) (p : Nat) (_ : List Byte) : State :=
  if linkActive s p then sparing (updPort s p (fun x => { x with spareX := none })) p else lctlBad s p

/-- Y takes the logical lane from the spare (R472 step 4); the old lane is adapted anew (R622). -/
def spareSwitch (s : State) (p : Nat) : State :=
  match (portOf s p).spare with
  | some c =>
    if linkActive s p && c.ackAt.isSome then
      let old := laneMap s p c.lane
      let s1 := sparing (updPort (setLaneMap s p c.lane c.spare) p (fun x => { x with spare := none, adapt := tabPut old (course s) x.adapt })) p
      let ready := maskClr (maskClr (s1.get LNK_SPARE_STATUS.READY p) c.spare) old
      queueCtl ((s1.put LNK_SPARE_STATUS.READY ready p).inc LNK_SPARE_CNT.DONE p) p
        [0x0A, BitVec.ofNat 8 c.lane, BitVec.ofNat 8 old]
    else s
  | none => s

def spareTimeout (s : State) (p : Nat) : State :=
  match (portOf s p).spare with
  | some c =>
    match c.ackAt with
    | some t => if t + 4096 < now s then (sparing (updPort s p (fun x => { x with spare := none })) p).incSat LNK_SPARE_CNT.FAIL p else s
    | none => s
  | none => s

/-- A lane becomes unhealthy (R471, R474, R530): a spare or a narrower width is asked for. -/
def laneLost (s : State) (p l : Nat) : State :=
  let s1 := (s.put LNK_LANE_STATUS.HEALTHY (maskClr (s.get LNK_LANE_STATUS.HEALTHY p) l) p).put LNK_SPARE_STATUS.READY
    (maskClr (s.get LNK_SPARE_STATUS.READY p) l) p
  if linkActive s p then
    match (portOf s p).retrain with
    | some g => doRetrain s1 p g
    | none =>
      if (healthy s1 p).length < 4 then enterDown s1 p 3
      else
        match (List.range (lanesOf (portWidth s1 p))).find? (fun k => laneMap s1 p k == l) with
        | some k => askSpare s1 p k true
        | none => if (healthy s1 p).length < lanesOf (portWidth s1 p) then askBestWidth s1 p else s1
  else s1

/-- A lane over its threshold of corrected symbols in one course, or named by LNK_SPARE_CTL, asks for a spare. -/
def laneNoisy (s : State) (p k : Nat) : State := askSpare s p k false

/-- The port at a course boundary: LNK_LANE_SER of the course that ends, the ready spares, and the counts of a course
(R466, R470, R398). -/
def linkCourse (s : State) (p : Nat) : State :=
  let x := portOf s p
  let s1 := (List.range 18).foldl (fun acc l => acc.put LNK_LANE_SER.COUNT (Nat.min (2 ^ 24 - 1) (tabGet 0 l x.corr)) p l) s
  let c := course s
  let ready := (List.range 18).filter (fun l => (healthy s p).contains l && !((mappedLanes s p).contains l) &&
    (tabFind l x.adapt).isNone && tabGet 0 l x.lockC + 1 < c)
  let s2 := if linkActive s p then s1.put LNK_SPARE_STATUS.READY (maskOf ready) p else s1.put LNK_SPARE_STATUS.READY 0 p
  updPort s2 p (fun y => { y with corr := [], uncorr := 0, crc := 0, vcSent := [] })

/-! ### Meanings: link control tiles -/

def execCaps (p : Nat) (b : List Byte) (s : State) : Host.Outcome State Fault Refusal := .next (onCaps s p b)
def execAdvert (p : Nat) (b : List Byte) (s : State) : Host.Outcome State Fault Refusal := .next (onAdvert s p b)
def execDrop (p : Nat) (b : List Byte) (s : State) : Host.Outcome State Fault Refusal := .next (onDrop s p b)
def execResyncReq (p : Nat) (b : List Byte) (s : State) : Host.Outcome State Fault Refusal := .next (onResyncReq s p b)
def execRetrainReq (p : Nat) (b : List Byte) (s : State) : Host.Outcome State Fault Refusal := .next (onRetrainReq s p b)
def execWidthReq (p : Nat) (b : List Byte) (s : State) : Host.Outcome State Fault Refusal := .next (onWidthReq s p b)
def execWidthAck (p : Nat) (b : List Byte) (s : State) : Host.Outcome State Fault Refusal := .next (onWidthAck s p b)
def execSpareReq (p : Nat) (b : List Byte) (s : State) : Host.Outcome State Fault Refusal := .next (onSpareReq s p b)
def execSpareAck (p : Nat) (b : List Byte) (s : State) : Host.Outcome State Fault Refusal := .next (onSpareAck s p b)
def execSpareDone (p : Nat) (b : List Byte) (s : State) : Host.Outcome State Fault Refusal := .next (onSpareDone s p b)

/-- A received DOWN_NOTICE, valid in every receiving state (R457, R480). -/
def onDownNotice (s : State) (p : Nat) : State :=
  let st := linkState s p
  if st = lsConfig || st = lsHold || st = lsVerify || st = lsCredit || st = lsActive then enterDown s p 7 else s

def execDownNotice (p : Nat) (_b : List Byte) (s : State) : Host.Outcome State Fault Refusal := .next (onDownNotice s p)

/-- LCTL_REPEAT (R458): request k of the port, once 64 tiles have gone since it was last sent. -/
def execLctlRepeat (p k : Nat) (s : State) : Host.Outcome State Fault Refusal :=
  let x := portOf s p
  match x.again[k]? with
  | some (b, due) =>
    .next (if due ≤ x.tileNo then updPort s p (fun y => { y with ctl := y.ctl ++ [b], again := y.again.zipIdx.map (fun z => if z.2 == k then (b, x.tileNo + 64) else z.1) }) else s)
  | none => .next s

/-- DROP_REPORT (R463): a due DROP tile, with the cumulative count and the 32 most recent drops. -/
def execDropReport (p : Nat) (s : State) : Host.Outcome State Fault Refusal :=
  let x := portOf s p
  match x.dropDue.find? (fun t => t ≤ x.tileNo) with
  | some t =>
    let l := x.recent.take 32
    .next (queueCtl (updPort s p (fun y => { y with dropDue := y.dropDue.filter (fun z => z != t) })) p
      (0x03 :: leBytes 2 x.drops ++ [BitVec.ofNat 8 l.length] ++ (l.map (leBytes 2)).flatten))
  | none => .next s

/-- RESYNC_TIMEOUT (R465): no ADVERT within 8192 ticks; after 8 requests the link goes DOWN. -/
def execResyncTimeout (p : Nat) (s : State) : Host.Outcome State Fault Refusal :=
  match (portOf s p).resync with
  | some r =>
    if r.sent && r.at? + 8192 ≤ now s then
      if 8 ≤ r.tries then .next (enterDown s p 4)
      else .next (queueAsk (updPort s p (fun x => { x with resync := some ⟨true, now s, r.tries + 1⟩ })) p
        (0x04 :: leBytes 2 (portOf s p).lastCred))
    else .next s
  | none => .next s

/-! ### Meanings: training (Table - Link state transitions) -/

/-- DETECT_DONE: electrical-idle exit on the lanes of the mask. -/
def execDetectDone (p mask : Nat) (s : State) : Host.Outcome State Fault Refusal :=
  .next (if laneRuns s p && linkState s p = lsDetect && 4 ≤ popCount mask 18 then
    updPort (setLink s p lsLock 0) p (fun x => { x with det := mask % 2 ^ 18 }) else s)

/-- LOCK_DONE: the lanes of the mask hold lock and deskew. -/
def execLockDone (p mask : Nat) (s : State) : Host.Outcome State Fault Refusal :=
  .next (if laneRuns s p && linkState s p = lsLock && 4 ≤ popCount mask 18 then
    toConfig (s.put LNK_LANE_STATUS.HEALTHY (mask % 2 ^ 18 &&& (2 ^ 18 - 1 - s.get OPT_PORT_STATUS.DARK p)) p) p else s)

/-- RCOSC cycles since the port entered its state. -/
def inState (s : State) (p : Nat) : Nat := s.clk.rcosc - (portOf s p).since

def execLockTimeout (p : Nat) (s : State) : Host.Outcome State Fault Refusal :=
  .next (if linkState s p = lsLock && 320000 ≤ inState s p then setLink s p lsDetect 0 else s)

def execConfigTimeout (p : Nat) (s : State) : Host.Outcome State Fault Refusal :=
  .next (if linkState s p = lsConfig && 32000 ≤ s.clk.rcosc - (portOf s p).capsAt then
    updPort (setLink s p lsDetect 0) p (fun x => { x with ctl := [], again := [] }) else s)

def execEqualizeDone (p : Nat) (s : State) : Host.Outcome State Fault Refusal :=
  .next (if laneRuns s p && linkState s p = lsEqualize then setLink s p lsVerify 0 else s)

def execEqualizeTimeout (p : Nat) (s : State) : Host.Outcome State Fault Refusal :=
  .next (if linkState s p = lsEqualize && 128000 ≤ inState s p then excludeGen s p else s)

/-- CREDIT: the own ADVERT waits to be sent; one kept from VERIFY takes effect (R457, R461). -/
def toCredit (s : State) (p : Nat) : State :=
  let got := (portOf s p).advGot
  let s1 := updPort (setLink s p lsCredit 0) p (fun x => { x with advSent := false, ret := [] })
  let s2 := queueCtl s1 p (advertBody s1 p false)
  match got with | some b => takeAdvert s2 p b | none => s2

/-- VERIFY_DONE: corrected symbols and uncorrectable codewords of the error test. -/
def execVerifyDone (p bad : Nat) (uncorr : Nat) (s : State) : Host.Outcome State Fault Refusal :=
  .next (if laneRuns s p && linkState s p = lsVerify then
    if uncorr = 0 && bad < 16 * s.get LNK_ERR_CFG.VERIFY_SER p then toCredit s p
    else if (portOf s p).verifyFail = 0 then updPort (setLink s p lsEqualize 0) p (fun x => { x with verifyFail := 1 })
    else excludeGen s p
  else s)

def execCreditTimeout (p : Nat) (s : State) : Host.Outcome State Fault Refusal :=
  .next (if linkState s p = lsCredit && 3200 ≤ inState s p then enterDown s p 6 else s)

def execRetrainTimeout (p : Nat) (s : State) : Host.Outcome State Fault Refusal :=
  match (portOf s p).retrainAt with
  | some t => .next (if t + 640000 ≤ s.clk.rcosc && !(linkActive s p) then enterDown s p 6 else s)
  | none => .next s

def execBackoffExpire (p : Nat) (s : State) : Host.Outcome State Fault Refusal :=
  .next (if linkState s p = lsDown && 2048 * Nat.max 1 (s.get LNK_CFG.BACKOFF p) ≤ inState s p then setLink s p lsDetect 0
    else s)

/-! ### Meanings: lanes, widths, silence -/

def execLaneLockLoss (p l : Nat) (s : State) : Host.Outcome State Fault Refusal := .next (laneLost s p l)
def execSpareSwitch (p : Nat) (s : State) : Host.Outcome State Fault Refusal := .next (spareSwitch s p)
def execSpareTimeout (p : Nat) (s : State) : Host.Outcome State Fault Refusal := .next (spareTimeout s p)

/-- EQUALISER_CONVERGED (R622): a freed lane converges, or is given up after 4 courses. -/
def execEqualiserConverged (p l : Nat) (ok : Bool) (s : State) : Host.Outcome State Fault Refusal :=
  match tabFind l (portOf s p).adapt with
  | some c =>
    if ok then .next (updPort s p (fun x => { x with adapt := tabDel l x.adapt, lockC := tabPut l (course s) x.lockC }))
    else if c + 4 ≤ course s then
      .next (((updPort s p (fun x => { x with adapt := tabDel l x.adapt })).put LNK_LANE_STATUS.HEALTHY
        (maskClr (s.get LNK_LANE_STATUS.HEALTHY p) l) p).incSat LNK_SPARE_CNT.FAIL p)
    else .next s
  | none => .next s

def execWidthSwitch (p : Nat) (s : State) : Host.Outcome State Fault Refusal := .next (widthSwitch s p)
def execWidthWithdraw (p : Nat) (s : State) : Host.Outcome State Fault Refusal := .next (widthWithdraw s p)

/-- LINK_SILENT (R480): no good tile for 4096 ticks in ACTIVE. -/
def execLinkSilent (p : Nat) (s : State) : Host.Outcome State Fault Refusal :=
  .next (if linkActive s p && (portOf s p).good + 4096 ≤ now s then enterDown s p 1 else s)

end Sys2Proof.Machine
end

