-- ==== Sys2Proof/Machine/Optics.lean ====
section
/-! DEFINITION. Optical ports and laser modules (12): light filters, dark lanes, and the module states. -/

namespace Sys2Proof.Machine

open Sys2Proof

def updOpt (s : State) (f : Opt → Opt) : State := { s with opt := f s.opt }

/-- The generations that the medium of a port permits (R527): LG1 and LG2 on copper, LG2 and LG3 on an optical port. -/
def mediumGens (s : State) (p : Nat) : Nat := if s.on OPT_PORT_CFG.MEDIUM p then 6 else 3

/-- GEN_EN of a port loses the bits that its medium does not permit (R528). -/
def clampGen (s : State) (p : Nat) : State := s.put LNK_CFG.GEN_EN (s.get LNK_CFG.GEN_EN p &&& mediumGens s p) p
def clampGens (s : State) : State := allPorts.foldl clampGen s

def optical (s : State) (p : Nat) : Bool := s.on OPT_PORT_CFG.MEDIUM p

/-! ### Light (R530, R531) -/

/-- The level of ln_los_i of lane l of port p, and the tick of its last change. -/
def losOf (s : State) (p l : Nat) : Bool := bit (tabGet 0 p s.opt.los) l
def losSince (s : State) (p l : Nat) : Nat := tabGet 0 (32 * p + l) s.opt.losAt

/-- LOSS_OF_LIGHT: a change of an input restarts the lane's filter. -/
def losChange (s : State) (p l : Nat) (los : Bool) : State :=
  if p < 32 && l < 18 && losOf s p l != los then
    updOpt s (fun o => { o with los := tabMod 0 p (fun m => if los then maskSet m l else maskClr m l) o.los, losAt := tabSet 0 (32 * p + l) (now s) o.losAt })
  else s

/-- FIBRE_DARK: fibre f is dark when all six of its lanes are (R532). -/
def fibreDark (dark : Nat) : Nat := maskOf ((List.range 3).filter (fun f => bits dark (6 * f) 6 == 63))

def putDark (s : State) (p dark : Nat) : State :=
  let s1 := (s.put OPT_PORT_STATUS.DARK dark p).put OPT_PORT_STATUS.FIBRE_DARK (fibreDark dark) p
  updOpt s1 (fun o => { o with allDark := if dark = 2 ^ 18 - 1 then tabPut p (now s) o.allDark else tabDel p o.allDark })

/-- LANE_DARK (R530): after 64 ticks without light the lane is dark and not healthy. -/
def laneDark (s : State) (p l : Nat) : State :=
  if optical s p && l < 18 && losOf s p l && losSince s p l + 64 ≤ now s && !(bit (s.get OPT_PORT_STATUS.DARK p) l) then
    let s1 := putDark s p (maskSet (s.get OPT_PORT_STATUS.DARK p) l)
    if bit (s1.get LNK_LANE_STATUS.HEALTHY p) l then laneLost s1 p l else s1
  else s

/-- LANE_LIT (R530): after 1024 ticks of light the lane is no longer dark. (DEDUCED, log 95) -/
def laneLit (s : State) (p l : Nat) : State :=
  if l < 18 && !(losOf s p l) && losSince s p l + 1024 ≤ now s && bit (s.get OPT_PORT_STATUS.DARK p) l then
    putDark s p (maskClr (s.get OPT_PORT_STATUS.DARK p) l)
  else s

/-- OPTICAL_DOWN (R531): every lane dark for 1024 ticks, in ACTIVE and in every training state from LOCK on. -/
def opticalDown (s : State) (p : Nat) : State :=
  match tabFind p s.opt.allDark with
  | some t =>
    if optical s p && t + 1024 ≤ now s && lsLock ≤ linkState s p && linkState s p ≤ lsActive then enterDown s p 8 else s
  | none => s

/-! ### Laser modules (R534 to R541) -/

def Lm.zero : Lm := ⟨false, 0, 0, 0, 0, 0⟩
def lmOf (s : State) (m : Nat) : Lm := tabGet Lm.zero m s.opt.lm
def updLm (s : State) (m : Nat) (f : Lm → Lm) : State :=
  updOpt s (fun o => { o with lm := tabMod Lm.zero m f o.lm })

/-- Module states (Table - Module state encoding). -/
def lmAbsent : Nat := 0
def lmProbe : Nat := 1
def lmReady : Nat := 2
def lmWarn : Nat := 3
def lmEol : Nat := 4
def lmFault : Nat := 5

def lmState (s : State) (m : Nat) : Nat := s.get OPT_LM_STATUS.STATE m

/-- The module feeds light: READY, WARN or EOL. -/
def lmLit (s : State) (m : Nat) : Bool := lmReady ≤ lmState s m && lmState s m ≤ lmEol

/-- A change of module state: TX_DARK of its four ports follows (R533), and the entries of R540 raise its fault source. -/
def setLm (s : State) (m new : Nat) : State :=
  let old := lmState s m
  if old = new then s
  else
    let s1 := s.put OPT_LM_STATUS.STATE new m
    let s2 := [0, 1, 2, 3].foldl (fun acc k => acc.put OPT_PORT_STATUS.TX_DARK (b2n !(lmLit acc m)) (4 * m + k)) s1
    if new = lmWarn || new = lmEol || new = lmFault || new = lmAbsent then raise s2 (48 + m) else s2

/-- A module enters ABSENT: its transaction under way ends without effect (R535). (DEDUCED, log 97) -/
def lmGone (s : State) (m : Nat) : State := setLm (s.put OPT_LM_CMD.BUSY 0 m) m lmAbsent

/-- LM_PRESENCE_CHANGE. -/
def lmPresence (s : State) (m : Nat) (present : Bool) : State :=
  if 8 ≤ m || (lmOf s m).present == present then s
  else
    let s1 := (updLm s m (fun x => { x with present := present, presAt := course s, fails := 0 })).put OPT_LM_STATUS.PRESENT
      (b2n present) m
    if present then s1 else lmGone s1 m

/-- LM_PROBE_START: EN = 1 and presence held for 16 consecutive courses. -/
def lmProbeStart (s : State) (m : Nat) : State :=
  if m < 8 && lmState s m = lmAbsent && s.on OPT_LM_CFG.EN m && (lmOf s m).present && (lmOf s m).presAt + 16 ≤ course s then
    setLm (updLm s m (fun x => { x with fails := 0 })) m lmProbe
  else s

def lmSerial (s : State) (m : Nat) : List W32 := [8, 9, 10, 11].map (fun k => s.rg .OPT_LM_ID m k)

/-- LM_PROBE_DONE (R536): the 56 identity bytes are read; a new serial number clears HOURS and every REF. (DESIGN CHOICE, log 5) -/
def lmProbeDone (s : State) (m : Nat) (ident : List Byte) : State :=
  if m < 8 && lmState s m = lmProbe then
    let was := lmSerial s m
    let s1 := (List.range 14).foldl (fun acc k => acc.setRg .OPT_LM_ID (BitVec.ofNat 32 (leAt ident (4 * k) 4)) m k) s
    let s2 := if lmSerial s1 m = was then s1
      else (List.range 6).foldl (fun acc w => acc.put OPT_LM_BIAS.REF 0 m w)
        ((s1.put OPT_LM_HOURS.COUNT 0 m).put OPT_LM_STATUS.NEW 1 m)
    setLm (updLm s2 m (fun x => { x with fails := 0, hoursAt := now s2, hours0 := s2.get OPT_LM_HOURS.COUNT m, pollAt := course s2 })) m lmReady
  else s

/-- The drift of channel w in per cent, truncated toward zero (R539); none without a reference. -/
def driftOf (s : State) (m w : Nat) : Option Int :=
  let r := s.get OPT_LM_BIAS.REF m w
  if r = 0 then none else some (Int.tdiv (((s.get OPT_LM_BIAS.CUR m w : Int) - r) * 100) r)

def drifts (s : State) (m : Nat) : List (Nat × Int) :=
  (List.range 6).filterMap (fun w => (driftOf s m w).map (fun d => (w, d)))

/-- OPT_LM_DRIFT shows the largest drift, of the lowest channel among equals; a drift beyond its 8 bits reads as a value the
spec leaves open. (DESIGN CHOICE, log 96) -/
def putDrift (s : State) (m : Nat) : State :=
  match drifts s m with
  | [] => (s.put OPT_LM_DRIFT.MAX 0 m).put OPT_LM_DRIFT.CHANNEL 0 m
  | d :: r =>
    let b := r.foldl (fun best x => if best.2 < x.2 then x else best) d
    if -128 ≤ b.2 ∧ b.2 ≤ 127 then (s.put OPT_LM_DRIFT.MAX (unsgn 8 b.2) m).put OPT_LM_DRIFT.CHANNEL b.1 m
    else
      let x := drawFree s
      (x.2.put OPT_LM_DRIFT.MAX x.1 m).put OPT_LM_DRIFT.CHANNEL b.1 m

/-- The transitions to WARN and EOL (Table - Module state transitions). -/
def lmJudge (s : State) (m : Nat) : State :=
  let beyond (h d : Nat) : Bool := 16 * h ≤ s.get OPT_LM_HOURS.COUNT m || (drifts s m).any (fun x => (d : Int) ≤ x.2)
  let eol := beyond (s.get OPT_LM_HOURS_LIM.EOL m) (s.get OPT_LM_CFG.DRIFT_EOL m) || s.get OPT_LM_STATUS.CH_FAIL m != 0
  if (lmState s m = lmReady || lmState s m = lmWarn) && eol then setLm s m lmEol
  else if lmState s m = lmReady && beyond (s.get OPT_LM_HOURS_LIM.WARN m) (s.get OPT_LM_CFG.DRIFT_WARN m) then setLm s m lmWarn
  else s

/-- LM_POLL (R537, R539): the six biases and the fault flags are read, references are taken, and the state is judged. -/
def lmPoll (s : State) (m : Nat) (bias : List Nat) (fail : Nat) : State :=
  if m < 8 && lmLit s m && (lmOf s m).pollAt + Nat.max 1 (s.get OPT_LM_CFG.POLL m) ≤ course s then
    let s1 := (List.range 6).foldl (fun acc w => acc.put OPT_LM_BIAS.CUR (bias.getD w 0) m w) (s.put OPT_LM_STATUS.CH_FAIL fail m)
    let due := (lmOf s m).hours0 + 16 ≤ s.get OPT_LM_HOURS.COUNT m
    let s2 := (List.range 6).foldl (fun acc w => if due && acc.get OPT_LM_BIAS.REF m w = 0 then
      acc.put OPT_LM_BIAS.REF (acc.get OPT_LM_BIAS.CUR m w) m w else acc) s1
    lmJudge (putDrift (updLm s2 m (fun x => { x with pollAt := course s2, fails := 0 })) m) m
  else s

/-- A two-wire transaction failed (R535): three in a row lead to FAULT. -/
def lmFail (s : State) (m : Nat) : State :=
  let s1 := (updLm s m (fun x => { x with fails := x.fails + 1 })).put OPT_LM_STATUS.COMM_ERR 1 m
  if 3 ≤ (lmOf s1 m).fails && lmProbe ≤ lmState s1 m && lmState s1 m ≤ lmEol then setLm s1 m lmFault else s1

/-- LM_HOURS_TICK (R538). -/
def lmHours (s : State) (m : Nat) : State :=
  let t := (lmOf s m).hoursAt + 900000000000
  if m < 8 && lmLit s m && t ≤ now s then (updLm s m (fun x => { x with hoursAt := t })).incSat OPT_LM_HOURS.COUNT m else s

/-- A write of OPT_LM_CFG has cleared EN (R534, R626). -/
def lmDisabled (s : State) (m : Nat) : State := if s.on OPT_LM_CFG.EN m then s else lmGone s m

/-- A write of GO to OPT_LM_CMD (R541). -/
def lmGo (s : State) (m : Nat) : State :=
  if s.on OPT_LM_CMD.BUSY m then s
  else if lmState s m = lmAbsent then s.put OPT_LM_CMD_RD.ERR 1 m
  else s.put OPT_LM_CMD.BUSY 1 m

/-- LM_CMD_DONE (R541): the byte read, or ERR. -/
def lmCmdDone (s : State) (m data : Nat) (err : Bool) : State :=
  if m < 8 && s.on OPT_LM_CMD.BUSY m then
    let s1 := s.put OPT_LM_CMD.BUSY 0 m
    if err then lmFail (s1.put OPT_LM_CMD_RD.ERR 1 m) m
    else
      let s2 := updLm s1 m (fun x => { x with fails := 0 })
      if s2.on OPT_LM_CMD.WRITE m then s2 else s2.put OPT_LM_CMD_RD.DATA data m
  else s

/-- The inputs hold their levels through a reset; filters and presence counts start anew. (DEDUCED, log 98) -/
def optReset (s : State) : Opt :=
  { los := s.opt.los, losAt := [], allDark := [], lm := s.opt.lm.map (fun (x : Nat × Lm) => (x.1, { Lm.zero with present := x.2.present, presAt := course s })) }

/-- PRESENT shows the inputs after a reset. -/
def putPresent (s : State) : State :=
  (List.range 8).foldl (fun acc m => acc.put OPT_LM_STATUS.PRESENT (b2n (lmOf acc m).present) m) s

/-! ### Meanings -/

def execLossOfLight (p l : Nat) (los : Bool) (s : State) : Host.Outcome State Fault Refusal := .next (losChange s p l los)
def execLaneDark (p l : Nat) (s : State) : Host.Outcome State Fault Refusal := .next (laneDark s p l)
def execLaneLit (p l : Nat) (s : State) : Host.Outcome State Fault Refusal := .next (laneLit s p l)
def execOpticalDown (p : Nat) (s : State) : Host.Outcome State Fault Refusal := .next (opticalDown s p)
def execLmPresenceChange (m : Nat) (present : Bool) (s : State) : Host.Outcome State Fault Refusal := .next (lmPresence s m present)
def execLmProbeStart (m : Nat) (s : State) : Host.Outcome State Fault Refusal := .next (lmProbeStart s m)
def execLmProbeDone (m : Nat) (ident : List Byte) (s : State) : Host.Outcome State Fault Refusal := .next (lmProbeDone s m ident)
def execLmPoll (m : Nat) (bias : List Nat) (fail : Nat) (s : State) : Host.Outcome State Fault Refusal := .next (lmPoll s m bias fail)
/-- LM_XACT_FAIL (R535): the module has a state other than ABSENT and is present. -/
def execLmXactFail (m : Nat) (s : State) : Host.Outcome State Fault Refusal :=
  .next (if m < 8 && lmState s m != lmAbsent && (lmOf s m).present then lmFail s m else s)
def execLmHoursTick (m : Nat) (s : State) : Host.Outcome State Fault Refusal := .next (lmHours s m)
def execLmCmdDone (m data : Nat) (err : Bool) (s : State) : Host.Outcome State Fault Refusal := .next (lmCmdDone s m data err)

end Sys2Proof.Machine
end

