-- ==== Sys2Proof/Machine/Route.lean ====
section
/-! DEFINITION. Mortar and pallet forwarding: waiting packets, the tile a port sends, transit packets, multicast, pallet
packets and notices, and the tables' commits (11). -/

namespace Sys2Proof.Machine

open Sys2Proof

/-! ### Waiting packets -/

/-- Adds a status to an operation once (R151). -/
def opAdd (s : State) (id : Nat) (st : Stat) : State :=
  { s with xf := { s.xf with ops := s.xf.ops.map (fun o => if o.id == id && !(o.stats.any (fun x => x.code == st.code)) then { o with stats := o.stats ++ [st] } else o) } }

/-- Tiles queued for port p on VC v (RTE_QDEPTH). -/
def queuedTiles (s : State) (p v : Nat) : Nat :=
  ((s.net.out.filter (fun o => o.pkt.vc == v && preferred s o == some p)).map (fun o => tilesOf o.pkt)).sum

/-- Q of R504: tiles of transit packets queued for port p on all VCs. -/
def transitQ (s : State) (p : Nat) : Nat :=
  ((s.net.out.filter (fun o => o.src < 32 && preferred s o == some p)).map (fun o => tilesOf o.pkt)).sum

/-- The queue depth registers and the throttle state of a port follow its queue (R502, R504). -/
def portQueue (s : State) (p v : Nat) : State :=
  let n := Nat.min 65535 (queuedTiles s p v)
  let s1 := (s.put RTE_QDEPTH.CUR n p v).put RTE_QDEPTH.MAX (Nat.max n (s.get RTE_QDEPTH.MAX p v)) p v
  let q := transitQ s p
  let th := if (portOf s p).throttled then !(q ≤ s.get RTE_THROTTLE.LOW) else s.get RTE_THROTTLE.HIGH ≤ q
  updPort s1 p (fun x => { x with throttled := th })

/-- A packet waits to leave (R493): requester index, input port and its buffer's VC, a bound output port, its operation. One of this
device for which every set is empty is discarded at once (R484). (DEDUCED, log 46) -/
def enqueue (s : State) (pkt : Packet) (src : Nat) (inPort bufVc only : Option Nat) (grp : Option Nat) (op : Option Nat) : State :=
  let n := s.net.nextOut
  let o : OutPkt := ⟨n, pkt, src, inPort, bufVc, now s, only, grp.getD n, op⟩
  if inPort.isNone && only.isNone && pkt.dst != ownFlat s && !(hasFlag pkt flPal && !(hasFlag pkt flDemoted)) && noTurn s o then dropTurn s
  else
    let s1 := { s with net := { s.net with out := s.net.out ++ [o], nextOut := n + 1 } }
    match preferred s1 o with
    | some p => portQueue s1 p pkt.vc
    | none => s1

/-- Frees the input buffer of a packet that has left or was discarded, once no copy still holds it (R463, R511). -/
def release (s : State) (o : OutPkt) : State :=
  match o.inPort, o.bufVc with
  | some q, some v =>
    if s.net.out.any (fun x => x.grp == o.grp && x.num != o.num) ||
        s.net.ports.any (fun x => x.2.ctx.any (fun c => c.2.o.grp == o.grp && c.2.o.num != o.num)) then s
    else resyncReady (freeBuf s q v 1 (tilesOf o.pkt)) q
  | _, _ => s

def dropOut (s : State) (num : Nat) : State :=
  { s with net := { s.net with out := s.net.out.filter (fun o => o.num != num) } }

/-- Tiles held in the demotion buffer of input port q (R520). -/
def demotionTiles (s : State) (q : Nat) : Nat :=
  let mine (o : OutPkt) : Bool := o.inPort == some q && o.bufVc.isNone && hasFlag o.pkt flDemoted
  ((s.net.out.filter mine).map (fun o => tilesOf o.pkt)).sum +
  ((s.net.ports.map (fun x => ((x.2.ctx.filter (fun c => mine c.2.o)).map (fun c => tilesOf c.2.o.pkt)).sum)).sum)

/-- Sends a notice for pallet i at most once per course (R522); at the source itself it is kept for the boundary. -/
def notice (s : State) (i reason : Nat) : State :=
  let c := course s + 1
  let src := s.get CIR_PALLET_ENDS.SRC i
  if tabGet 0 i s.net.noticed = c then s
  else
    let s1 := { s with net := { s.net with noticed := tabSet 0 i c s.net.noticed } }
    if src = ownFlat s then { s1 with net := { s1.net with notices := s1.net.notices ++ [(i, reason)] } }
    else { s1.inc CIR_NOTICE_CNT.COUNT with net := { s1.net with toSend := s1.net.toSend ++ [(src, i + 2 ^ 12 * reason + 2 ^ 16 * ownFlat s)] } }

/-- Demotes a pallet packet that arrived on port q (R520). One for this device is taken when its turn in the demotion buffer comes. -/
def demote (s : State) (q : Nat) (p : Packet) (i : Nat) (reason : Nat) : State :=
  let s1 := count ((s.inc CIR_DEMOTE_CNT.COUNT).incSat CIR_PALLET_CNT.DEMOTED i) 0x10 255 255 (some p.ten) (some p.tag) (5, i)
  let s2 := if reason = 0 then s1 else notice s1 i reason
  let d := withFlag { p with vc := 6 } flDemoted
  if 18 < demotionTiles s2 q + tilesOf p then s2.inc CIR_DROP_CNT.COUNT
  else enqueue s2 d q (some q) none none none none

/-! ### Room and the choice of a packet (R495, R500, R502, R504) -/

/-- The packet injects into a ring on torus port p (R500). -/
def injects (s : State) (o : OutPkt) (p : Nat) : Bool :=
  portRole s p == roleTorus &&
  (match o.inPort with
   | some q => !(portRole s q == roleTorus && portDir q == portDir p ^^^ 1)
   | none => true)

/-- Port p has room for a packet: credits for all of it, two header credits for an injection, no packet of the VC in
progress, no resync (R460, R465, R500, R447). -/
def hasRoom (s : State) (o : OutPkt) (p : Nat) : Bool :=
  let v := o.pkt.vc
  tilesOf o.pkt ≤ availData s p v && (if injects s o p then 2 else 1) ≤ availHdr s p v &&
  (tabFind v (portOf s p).ctx).isNone && (portOf s p).resync.isNone

/-- A packet of the local sources that throttle holds (R504). -/
def throttleHeld (s : State) (o : OutPkt) (p : Nat) : Bool :=
  let x := portOf s p
  x.throttled && (o.src == 32 || o.src == 33) && [1, 4, 6].contains o.pkt.vc &&
  (match x.lastLocal with
   | some t => x.tileNo < t + Nat.max 1 (s.get RTE_THROTTLE.GAP)
   | none => false)

/-- The packet is a pallet packet that waits for its slots: it is no mortar (R514). -/
def isPallet (o : OutPkt) : Bool := hasFlag o.pkt flPal && !(hasFlag o.pkt flDemoted)

/-- The port a packet leaves by now: the first with room in the order of R495. -/
def choosePort (s : State) (o : OutPkt) : Option (Nat × Nat) :=
  match usableSet s o with
  | some (k, l) =>
    match (rotate l (startPos o.pkt l.length)).find? (fun p => hasRoom s o p && !(throttleHeld s o p)) with
    | some p => some (k, p)
    | none => none
  | none => none

/-- The packet of requester i on VC v that may start on port p: the first that waited. -/
def firstFor (s : State) (p v i : Nat) : Option OutPkt :=
  s.net.out.find? (fun o => o.src == i && o.pkt.vc == v && !(isPallet o) &&
    (match choosePort s o with | some (_, c) => c == p | none => false))

/-- Stage 1 of R502 for a VC. -/
def stage1 (s : State) (p v : Nat) : Option OutPkt :=
  match arbPick s 36 ((List.range 36).filter (fun i => (firstFor s p v i).isSome)) with
  | some i => firstFor s p v i
  | none => none

def vcWeight (s : State) (v : Nat) : Nat := Nat.max 1 (bits (s.rg .BND_VC_WEIGHT).toNat (4 * v) 4)

/-- The VC arbiter of R398 over the VCs that have a tile. -/
def pickVc (s : State) (p : Nat) (l : List Nat) : Option Nat :=
  let c (v : Nat) := tabGet 0 v (portOf s p).vcSent
  let t := ((List.range 8).map c).sum
  let w := ((List.range 8).map (vcWeight s)).sum
  let within := l.filter (fun v => c v * w ≤ vcWeight s v * t)
  arbPick s 8 (if within.isEmpty then l else within)

/-! ### Sending tiles of packets -/

/-- The time of a packet in the replay list: a transmission runs from its hand-over, and anew from the moment its first tile leaves (R270). (DEDUCED, log 45) -/
def noteSent (s : State) (p : Packet) : State :=
  let f := flowKey p.dst p.vc (hasFlag p flMcast)
  { s with xf := { s.xf with replay := s.xf.replay.map (fun x => (x.1, x.2.map (fun r => if r.flow == f && r.seq == p.seq && (p.op < 0x30) then { r with last := some (now s), first := some (r.first.getD (now s)) } else r))) } }

/-- Header bytes 0 to 15 with byte 7 the port, for the packet trace records (Table - Trace sources). -/
def pktDetail (p : Packet) (port : Nat) : List Byte :=
  let h := hdr44 p
  h.take 7 ++ [BitVec.ofNat 8 port] ++ (h.drop 8).take 8

/-- The last tile of a packet has left on port p: buffer, trace, counters (R463, R646, R634, R638). -/
def packetGone (s : State) (p : Nat) (o : OutPkt) : State :=
  let n := o.pkt.pay.length
  let s1 := release s o
  let s2 := traceEv s1 2 1 o.pkt.ten o.pkt.tag (some p) (pktDetail o.pkt p)
  let s3 := count s2 0x06 p o.pkt.vc (some o.pkt.ten) (some o.pkt.tag) (0, 0) n
  let s4 := census s3 p o.pkt.ten o.pkt.tag n
  if 32 ≤ o.src then census s4 39 o.pkt.ten o.pkt.tag n else s4

/-- Sends the next tile of the packet in progress on a transmit context (R446, R447, R449). -/
def sendNext (s : State) (p c : Nat) (x : TxPkt) : State :=
  let n := tilesOf x.o.pkt
  let k := x.sent
  let last := k + 1 = n
  let pal := b2n (c == 8)
  let h := if k = 0 then 1 else 0
  let q := (portOf s p).lseq
  let s1 := sendTile s p (tileType k n) x.o.pkt.vc pal (if last && x.bad then 1 else 0) (tileBody x.o.pkt k)
  let s2 := if pal = 1 then updPort s1 p (fun y => { y with palSent := y.palSent + 1 })
    else updPort s1 p (fun y => { y with hist := y.hist ++ [(q, x.o.pkt.vc, h, 1)], lastCred := q })
  if last then resyncStep (packetGone (updPort s2 p (fun y => { y with ctx := tabDel c y.ctx })) p x.o) p
  else updPort s2 p (fun y => { y with ctx := tabPut c { x with sent := k + 1 } y.ctx })

/-- Starts a packet on a transmit context: its credits are taken with its first tile (R460, R462). -/
def startPacket (s : State) (p c setIdx : Nat) (o : OutPkt) : State :=
  let pkt := if setIdx != 0 then withFlag o.pkt flRerouted else o.pkt
  let s0 := dropOut s o.num
  let s1 := if setIdx != 0 then s0.incSat RTE_REROUTE_CNT.COUNT p else s0
  let s2 := match o.op with | some id => if setIdx != 0 then opAdd s1 id ⟨0x0A, 0⟩ else s1 | none => s1
  let s3 := if c = 8 then s2 else updPort s2 p (fun y =>
    let r := credGet y.credS o.pkt.vc
    { y with credS := tabSet (0, 0) o.pkt.vc (add16 r.1 1, add16 r.2 (tilesOf o.pkt)) y.credS, lastLocal := if o.src == 32 || o.src == 33 then some y.tileNo else y.lastLocal })
  let s4 := portQueue (noteSent s3 o.pkt) p o.pkt.vc
  sendNext s4 p c ⟨{ o with pkt := pkt }, 0, false⟩

/-! ### Circuits (R513 to R526) -/

/-- An active CIR_OUT entry as it counts: none where it is not VALID or breaks R524 at the scale class in force. -/
def protSlot (cls slot : Nat) : Bool :=
  if cls = 1 then slot % 16 == 15 else if cls = 2 then slot % 8 == 7 else false

/-- PALLET, LOCAL and PROT of the active CIR_OUT entry of a port and slot. -/
def cirOut (s : State) (p slot : Nat) : Option (Nat × Bool × Bool) :=
  let w := (s.rg .CIR_OUT_ACTIVE p slot).toNat
  if bit w 12 && bit w 14 == protSlot (scaleClass s) slot then some (w % 4096, bit w 13, bit w 14) else none

/-- The slot contains a width-change switch point (R478). -/
def switchSlot (s : State) (p absSlot : Nat) : Bool :=
  (portOf s p).noPal == some absSlot ||
  (match (portOf s p).width with
   | some w => w.agreed && w.at? != 0 && w.at? / 256 == absSlot
   | none => false)

/-- PALLET of a packet's header extension. -/
def palletOf (p : Packet) : Nat := bits p.e36 16 12

/-- A local pallet packet that may leave now on port p in a slot: its pallet owns the slot, is in the state the slot serves,
and the budget of the slot holds it (R514). -/
def localPallet (s : State) (p absSlot : Nat) : Option OutPkt :=
  match cirOut s p (absSlot % 256) with
  | some (i, true, prot) =>
    let st := s.get CIR_PALLET_PORTS.STATE i
    let port := if st = 0 then s.get CIR_PALLET_PORTS.PORT i else s.get CIR_PALLET_PORTS.PROT_PORT i
    if port = p && ((st == 0 && !prot) || (st == 1 && prot)) && !(timeUnsafe s p) && !(fenced s (partnerOf s p)) then
      s.net.out.find? (fun o => isPallet o && o.inPort.isNone && palletOf o.pkt == i &&
        (portOf s p).palSent + tilesOf o.pkt ≤ Nat.min (s.get CIR_PALLET_PORTS.BUDGET i) (portUsable s p) &&
        (portOf s p).slotSent + tilesOf o.pkt ≤ portUsable s p)
    else none
  | _ => none

/-- A pallet packet becomes mortar on VC6 (R478, R520, R523). -/
def asMortar (o : OutPkt) : OutPkt := { o with pkt := withFlag { o.pkt with vc := 6 } flDemoted }

/-- In a slot with a switch point, the local pallet packets due become mortar, and their operations DEMOTED (R478). -/
def switchDemote (s : State) (p absSlot : Nat) : State :=
  if switchSlot s p absSlot then
    match cirOut s p (absSlot % 256) with
    | some (i, true, _) =>
      match s.net.out.find? (fun o => isPallet o && o.inPort.isNone && palletOf o.pkt == i) with
      | some o =>
        let s1 := { s with net := { s.net with out := s.net.out.map (fun y => if y.num == o.num then asMortar y else y) } }
        match o.op with | some id => opAdd s1 id ⟨0x0E, 0⟩ | none => s1
      | none => s
    | _ => s
  else s

/-- The staged transit packet that is due in the current slot (R517). -/
def stagedDue (s : State) (p absSlot : Nat) : Option StagePkt :=
  s.net.staged.find? (fun x => x.port == p && x.course * 256 + x.slot == absSlot)

/-- Counts of a new slot begin (R92, R93, R514). -/
def slotCount (s : State) (p : Nat) : State :=
  let a := now s / 256
  if (portOf s p).slot = a then s
  else updPort s p (fun x => { x with slot := a, slotSent := 0, palSent := 0 })

/-- Staged packets of port p whose slot has passed, or whose port carries no pallets, are demoted (R97, R519, R520). -/
def slotBegin (s : State) (p : Nat) : State :=
  let s1 := slotCount s p
  let a := now s / 256
  let bad := timeUnsafe s p
  let late := s1.net.staged.filter (fun x => x.port == p && (x.course * 256 + x.slot < a || bad || fenced s (partnerOf s p)))
  late.foldl (fun acc x => demote { acc with net := { acc.net with staged := acc.net.staged.filter (fun y => y != x) } } x.inPort x.pkt (palletOf x.pkt) (if x.course * 256 + x.slot < a then 0 else if bad then 2 else 3)) s1

/-- Takes a staged packet as one to send. -/
def stagedOut (x : StagePkt) : OutPkt := ⟨0, x.pkt, x.inPort, some x.inPort, none, 0, none, 0, none⟩

/-- The first rule of R501: a pallet tile due in the usable tiles of the current slot. -/
def palletTile (s : State) (p : Nat) : Option State :=
  let a := now s / 256
  match tabFind 8 (portOf s p).ctx with
  | some x => some (sendNext s p 8 x)
  | none =>
    if switchSlot s p a then none
    else
      match stagedDue s p a with
      | some x =>
        if (portOf s p).slotSent + tilesOf x.pkt ≤ portUsable s p then
          some (sendNext { s with net := { s.net with staged := s.net.staged.filter (fun y => y != x) } } p 8 ⟨stagedOut x, 0, false⟩)
        else none
      | none =>
        match localPallet s p a with
        | some o => some (startPacket s p 8 0 o)
        | none => none

/-- The third rule of R501: the VC arbiter over packets in progress and new packets (R502, R398). -/
def mortarTile (s : State) (p : Nat) : Option State :=
  let going (v : Nat) : Option TxPkt := tabFind v (portOf s p).ctx
  let has (v : Nat) : Bool := (going v).isSome || (stage1 s p v).isSome
  match pickVc s p ((List.range 8).filter has) with
  | some v =>
    match going v with
    | some x => some (sendNext s p v x)
    | none =>
      match stage1 s p v with
      | some o =>
        let k := match choosePort s o with | some (k, _) => k | none => 0
        some (startPacket s p v k o)
      | none => none
  | none => none

/-- Sends an LCTL tile; an ADVERT restarts the returned counts and, in CREDIT, may end it (R461, R462, R466). -/
def ctlTile (s : State) (p : Nat) (b : List Byte) : State :=
  let s1 := updPort s p (fun x => { x with ctl := x.ctl.drop 1 })
  if b.headD 0 = 2 then
    let s2 := updPort s1 p (fun x => { x with ret := [], advSent := true })
    let s3 := sendTile s2 p ttLctl 0 0 0 b
    if linkState s3 p = lsCredit && (portOf s3 p).advGot.isSome then toActive s3 p else s3
  else sendTile s1 p ttLctl 0 0 0 b

/-- A tile of port p (R501): pallet, LCTL, mortar, idle; idle alone while CORE is stopped (R582). Outside ACTIVE a port sends LCTL and IDLE tiles only. (DEDUCED, log 58) -/
def tileSend (s : State) (p : Nat) : State :=
  let st := linkState s p
  if !(laneRuns s p) then s
  else if st = lsActive && !(coreRuns s) then sendTile s p ttIdle 0 0 0 []
  else if st = lsActive then
    let s1 := switchDemote (slotBegin s p) p (now s / 256)
    let x := portOf s1 p
    let use := 6 ≤ now s % 256 && x.slotSent < portUsable s p
    let s2 := if use then updPort s1 p (fun y => { y with slotSent := y.slotSent + 1 }) else s1
    match (if use then palletTile s1 p else none) with
    | some t => updPort t p (fun y => { y with slotSent := y.slotSent + 1 })
    | none =>
      match x.ctl with
      | b :: _ => ctlTile s2 p b
      | [] =>
        match mortarTile s2 p with
        | some t => t
        | none => sendTile s2 p ttIdle 0 0 0 []
  else if st = lsConfig || st = lsHold || st = lsVerify || st = lsCredit then
    match (portOf s p).ctl with
    | b :: _ => ctlTile s p b
    | [] => sendTile s p ttIdle 0 0 0 []
  else s

/-- TILE_SEND (R501). -/
def execTileSend (p : Nat) (s : State) : Host.Outcome State Fault Refusal := .next (tileSend s p)

/-! ### Arriving packets -/

/-- The VC of the input buffer that an arrived packet holds: none for a pallet packet sent in usable tiles (R459). -/
def bufVcOf (p : Packet) : Option Nat := if hasFlag p flPal && !(hasFlag p flDemoted) then none else some p.vc

/-- Takes a packet out of the input buffers of port q, freeing its buffer: it was delivered or discarded (R463). -/
def consume (s : State) (q : Nat) (p : Packet) : State :=
  if s.net.rxq.contains (q, p) then
    let s1 := { s with net := { s.net with rxq := s.net.rxq.erase (q, p) } }
    match bufVcOf p with
    | some v => resyncReady (freeBuf s1 q v 1 (tilesOf p)) q
    | none => s1
  else s

/-- An arrived unicast packet from or to a fenced flat ID, VC0 service packets aside (R506). -/
def fenceDrops (s : State) (p : Packet) : Bool :=
  !(isGroup p.dst) && (fenced s p.dst || fenced s p.src) && !(p.vc == 0 && p.ten == serviceDom)

/-- A response or forward formed at this device waits to leave as requester 34 (R502). -/
def sendFormed (s : State) (p : Packet) : State := enqueue s p 34 none none none none none

/-- A NACK of a packet with a status and detail (R268, Table - NACK body). -/
def nackOf (s : State) (p : Packet) (st detail : Nat) : Packet :=
  ⟨p.src, ownFlat s, p.ten, 3, p.kep, 0x34, 0, 0, p.seq, 0, p.tag, 0, p.hod, p.hgen, 0, 0, ownFlat s,
   leBytes 2 st ++ [BitVec.ofNat 8 p.vc] ++ leBytes 5 0 ++ leBytes 8 detail⟩

/-- One copy of a multicast packet toward DOWN port d (R509, R510). -/
def mcCopy (s : State) (q : Nat) (p : Packet) (grp d : Nat) : State :=
  if fenced s (partnerOf s d) then
    let s1 := dropFenced s
    if s.get LNK_PARTNER.PERSONA d = 1 then s1
    else sendFormed s1 (nackOf s p 3 (partnerOf s d + 2 ^ 16 * mcLeafOf s p.dst d + 2 ^ 32 * p.dst))
  else if !(linkActive s d) then dropNoRoute s
  else enqueue s (withFlag { p with vc := 2 } flMcast) q (some q) (bufVcOf p) (some d) (some grp) none

/-- A multicast packet at a switch (R509). (DEDUCED, log 32) -/
def mcForward (s : State) (q : Nat) (p : Packet) : State :=
  let grp := s.net.nextOut
  let freed (t : State) : State :=
    if t.net.out.any (fun o => o.grp == grp) then t
    else match bufVcOf p with
      | some v => resyncReady (freeBuf t q v 1 (tilesOf p)) q
      | none => t
  if !(mcValid s p.dst) then freed (dropNoRoute s)
  else if portRole s q = roleDown && !(mcRoot s p.dst) then enqueue s p q (some q) (bufVcOf p) none none none
  else freed ((bitsSet 32 (mcWord s p.dst 0)).foldl (fun acc d => mcCopy acc q p grp d) s)

/-- PACKET_FORWARD (R484 to R487): the checks, the hop limit, and the wait for a port. (DESIGN CHOICE, log 133) -/
def packetForward (s : State) (q : Nat) (p0 : Packet) : State :=
  let c := screen p0
  let p := { p0 with hops := Nat.min 255 (p0.hops + 1) }
  let taken : State := if s.net.rxq.contains (q, p0) then { s with net := { s.net with rxq := s.net.rxq.erase (q, p0) } } else s
  if c ≠ 0 then countScreen (consume s q p0) q c
  else if fenceDrops s p0 then dropFenced (consume s q p0)
  else if p0.dst = ownFlat s then s
  else if isSw s && isGroup p0.dst then
    if s.get RTE_CFG.HOP_MAX ≤ p0.hops then dropHops (consume s q p0) else mcForward taken q p
  else if portRole s q = roleUp && !(isSw s) then
    if p0.vc = 2 && hasFlag p0 flMcast && isGroup p0.dst then s else dropTurn (consume s q p0)
  else if s.get RTE_CFG.HOP_MAX ≤ p0.hops then dropHops (consume s q p0)
  else if noTurn s ⟨0, p, q, some q, none, 0, none, 0, none⟩ then dropTurn (consume s q p0)
  else enqueue taken p q (some q) (bufVcOf p0) none none none

def execPacketForward (q : Nat) (p : Packet) (s : State) : Host.Outcome State Fault Refusal := .next (packetForward s q p)

/-- NO_ROUTE_TIMEOUT (R496): packet number k has had no usable set for HOLD. -/
def execNoRouteTimeout (k : Nat) (s : State) : Host.Outcome State Fault Refusal :=
  match s.net.out.find? (fun o => o.num == k) with
  | some o =>
    if (usableSet s o).isNone && o.since + 64 * Nat.max 1 (s.get RTE_CFG.HOLD) ≤ now s then
      .next (release (dropOut (dropNoRoute s) k) o)
    else .next s
  | none => .next s

/-! ### Pallet packets in transit (R516 to R522) -/

/-- Tiles staged on an output port, in all and for one slot. -/
def stagedTiles (s : State) (p : Nat) : Nat := ((s.net.staged.filter (fun x => x.port == p)).map (fun x => tilesOf x.pkt)).sum
def stagedSlot (s : State) (p a : Nat) : Nat :=
  ((s.net.staged.filter (fun x => x.port == p && x.course * 256 + x.slot == a)).map (fun x => tilesOf x.pkt)).sum

/-- A pallet packet assigned to its input slot (R516, R517, R519). -/
def palletArrive (s : State) (q at0 : Nat) (p : Packet) : State :=
  let a := (at0 * 256 - s.get CIR_PORT_DELAY.D q) / 65536
  let w := (s.rg .CIR_IN_ACTIVE q (a % 256)).toNat
  let i := if bit w 12 then w % 4096 else palletOf p
  let hop := { p with hops := Nat.min 255 (p.hops + 1) }
  if !(bit w 12) then demote s q hop i 0
  else if bit w 13 then { s with net := { s.net with rxq := s.net.rxq ++ [(q, p)] } }
  else
    let o := bits w 14 5
    let b := a + bits w 19 4
    if !(linkActive s o) then demote s q hop i 1
    else if timeUnsafe s q || timeUnsafe s o then demote s q hop i 2
    else if fenced s (partnerOf s o) then demote s q hop i 3
    else if (match cirOut s o (b % 256) with | some (j, false, _) => j != i | _ => true) then demote s q hop i 0
    else if switchSlot s o b || portUsable s o < stagedSlot s o b + tilesOf p || 128 < stagedTiles s o + tilesOf p ||
        b < now s / 256 then demote s q hop i 0
    else { s with net := { s.net with staged := s.net.staged ++ [⟨o, b % 256, b / 256, q, hop⟩] } }

/-! ### Tables (R489, R490, R507, R508, R524, R525) -/

/-- The ports of a set have one role, and none is OFF. -/
def oneRole (s : State) (set : Nat) : Bool :=
  let r := (bitsSet 32 set).map (portRole s)
  r.all (fun x => x != 0) && r.all (fun x => x == r.headD 0)

/-- A shadow route entry may be committed (R489). -/
def routeOk (s : State) (w : List W32) : Bool :=
  let set (k : Nat) : Nat := (w[k]?.getD 0).toNat
  [0, 1, 2, 3].all (fun k => oneRole s (set k)) &&
  (!(isEp s) ||
    ((let d := ((bitsSet 32 (set 0)).filter (fun p => portRole s p == roleTorus)).map portDir
      d.all (fun x => x == d.headD 0)) &&
     [1, 2, 3].all (fun k => (bitsSet 32 (set k)).all (fun p => portRole s p == roleUp))))

/-- A write of RTE_TBL_DATA[k] (R490, R491). -/
def routeData (s : State) (a : AccInfo) (k : Nat) (v : W32) : State :=
  let hold := s.net.rtHold.set k v
  if k ≠ 3 then { s with net := { s.net with rtHold := hold } }
  else if s.on RTE_STATUS.ROUTE_PEND then accErr s a GLB_ACCESS_ERR.BUSY
  else if !(routeOk s hold) then s.put RTE_STATUS.ENTRY_ERR 1
  else
    let f := s.get RTE_TBL_IDX.INDEX
    let s1 := if s.on RTE_STATUS.BANK then { s with net := { s.net with rtHold := hold, rt0 := tabSet rtZero f hold s.net.rt0 } }
      else { s with net := { s.net with rtHold := hold, rt1 := tabSet rtZero f hold s.net.rt1 } }
    if s1.on RTE_TBL_IDX.AUTOINC then s1.put RTE_TBL_IDX.INDEX (f + 1) else s1

/-- A read of RTE_TBL_DATA[k] (R490). -/
def routeRead (s : State) (k : Nat) : W32 :=
  (routeEntry s (s.get RTE_TBL_IDX.INDEX) (s.on RTE_TBL_IDX.READ_SHADOW))[k]?.getD 0

/-- A switch's multicast entry may be committed (R508). -/
def mcOk (s : State) (w : List W32) : Bool :=
  let down := (w[0]?.getD 0).toNat
  let up := (w[1]?.getD 0).toNat
  let ctl := (w[2]?.getD 0).toNat
  !(isSw s) ||
  (!(bit ctl 1 && !(bit ctl 0) && up == 0) && !(bit ctl 0 && up != 0) &&
   (bitsSet 32 down).all (fun p => portRole s p == roleDown) && (bitsSet 32 up).all (fun p => portRole s p == roleUp))

/-- A write of RTE_MC_DATA[k] (R507, R508): the words are the register's own, word 10 commits them. -/
def mcData (s : State) (k : Nat) (v : W32) : State :=
  let s1 := s.setRg .RTE_MC_DATA v k
  if k ≠ 10 then s1
  else
    let w := (List.range 11).map (fun j => s1.rg .RTE_MC_DATA j)
    if !(mcOk s1 w) then s1.put RTE_STATUS.MC_ERR 1
    else
      let g := s1.get RTE_MC_IDX.GROUP
      let s2 := { s1 with net := { s1.net with mc := tabSet mcZero g w s1.net.mc } }
      if s2.on RTE_MC_IDX.AUTOINC then s2.put RTE_MC_IDX.GROUP ((g + 1) % 16383) else s2

/-- A shadow write of CIR_OUT or CIR_IN (R524 to R526). -/
def cirShadow (s : State) (a : AccInfo) (out : Bool) (p t : Nat) (v : W32) : State :=
  let w := v.toNat
  let bad := if out then bit w 12 && bit w 14 != protSlot (scaleClass s) t
    else (bit w 12 && !(bit w 13) && bits w 19 4 == 0) || (bit w 13 && bits w 14 9 != 0)
  if s.on CIR_STATUS.SCHED_PEND then accErr s a GLB_ACCESS_ERR.BUSY
  else if bad then s.put CIR_STATUS.ENTRY_ERR 1
  else if out then s.setRg .CIR_OUT_SHADOW v p t
  else s.setRg .CIR_IN_SHADOW v p t

/-- The swap of the circuit banks (R526): shadow and active entries change places. -/
def cirSwap (s : State) : State :=
  let lo := 0x290000
  let mid := 0x2A0000
  let hi := 0x2B0000
  let sh := (s.regs.filter (fun (r : Nat × W32) => lo ≤ r.1 && r.1 < mid)).map (fun (r : Nat × W32) => (r.1 + 0x10000, r.2))
  let ac := (s.regs.filter (fun (r : Nat × W32) => mid ≤ r.1 && r.1 < hi)).map (fun (r : Nat × W32) => (r.1 - 0x10000, r.2))
  let s1 := { s with regs := s.regs.filter (fun (r : Nat × W32) => r.1 < lo) ++ ac ++ sh ++ s.regs.filter (fun (r : Nat × W32) => hi ≤ r.1) }
  (s1.put CIR_STATUS.BANK (1 - s.get CIR_STATUS.BANK)).put CIR_STATUS.SCHED_PEND 0

/-- The swap of the route banks (R491). -/
def routeSwap (s : State) : State :=
  rehold s ((s.put RTE_STATUS.BANK (1 - s.get RTE_STATUS.BANK)).put RTE_STATUS.ROUTE_PEND 0)

/-- A notice written to CIR_NOTICE (R522, R523): a reserved reason is ignored, a pallet without a lease marks an error. -/
def cirNotice (s : State) (v : W32) : State :=
  let i := bits v.toNat 0 12
  let r := bits v.toNat 12 4
  if r = 0 || 4 ≤ r then s
  else if !((unitOf s ukPallet i).en) then s.put CIR_STATUS.NOTICE_ERR 1
  else addNotice (s.incSat CIR_PALLET_CNT.NOTICES i) i r
where
  /-- Keeps a notice for the next boundary. -/
  addNotice (s : State) (i r : Nat) : State := { s with net := { s.net with notices := s.net.notices ++ [(i, r)] } }

/-- The state a pallet moves to on a notice (R523). -/
def palletNext (s : State) (i : Nat) : Nat :=
  let pp := s.get CIR_PALLET_PORTS.PROT_PORT i
  match s.get CIR_PALLET_PORTS.STATE i with
  | 0 =>
    if scaleClass s ≠ 0 && s.on CIR_PALLET_PORTS.PROT_EN i && linkActive s pp && !(timeUnsafe s pp) &&
        !(fenced s (partnerOf s pp)) then 1 else 2
  | _ => 2

/-- Pallets leased at this device. -/
def leasedPallets (s : State) : List Nat :=
  s.sec.units.filterMap (fun (x : Nat × Lease) => if x.1 / 65536 = ukPallet ∧ x.2.en = true then some (x.1 % 65536) else none)

/-- A condition of R519 on the own output port in force. -/
def ownPortBad (s : State) (i : Nat) : Bool :=
  let st := s.get CIR_PALLET_PORTS.STATE i
  let p := if st = 0 then s.get CIR_PALLET_PORTS.PORT i else s.get CIR_PALLET_PORTS.PROT_PORT i
  st ≤ 1 && (!(linkActive s p) || timeUnsafe s p || fenced s (partnerOf s p))

/-- Position 7 for one pallet (R523): a RESTORE, or a notice, its own port's included. In DEMOTED its waiting packets become
mortar. -/
def palletBoundary (s : State) (i : Nat) : State :=
  let s1 :=
    if s.on CIR_PALLET_PORTS.RESTORE i then (s.put CIR_PALLET_PORTS.RESTORE 0 i).put CIR_PALLET_PORTS.STATE 0 i
    else if s.net.notices.any (fun n => n.1 == i) || ownPortBad s i then s.put CIR_PALLET_PORTS.STATE (palletNext s i) i
    else s
  if s1.get CIR_PALLET_PORTS.STATE i = 2 then
    let mine := s1.net.out.filter (fun o => isPallet o && o.inPort.isNone && palletOf o.pkt == i)
    mine.foldl (fun acc o => match o.op with | some id => opAdd acc id ⟨0x0E, 0⟩ | none => acc)
      { s1 with net := { s1.net with out := s1.net.out.map (fun o => if mine.any (fun m => m.num == o.num) then asMortar o else o) } }
  else s1

end Sys2Proof.Machine
end

