-- ==== Sys2Proof/Machine/TimeTiles.lean ====
section
/-! DEFINITION. The exchange of time tiles on a port and the writes of TIM_FREQ (02, R71 to R77, R87). -/

namespace Sys2Proof.Machine

open Sys2Proof

/-- The usable tiles of a reserved slot are being sent: no time tile leaves in them (R73, R93). -/
def inReserved (s : State) (p : Nat) : Bool :=
  (cirOut s p (slotNow s)).isSome && 6 ≤ now s % 256 &&
  (if (portOf s p).slot = now s / 256 then (portOf s p).slotSent else 0) < portUsable s p

/-- The fields that every time tile of the block carries (R75). -/
def ownTime (s : State) (p kind seq t1 t2 t3 : Nat) : TimeBody where
  kind := kind
  state := timState s
  depth := s.get TIM_STATUS.DEPTH
  seq := seq
  master := s.tim.masterId
  epoch := s.get TIM_CTL.MASTER_EPOCH
  t1 := t1
  t2 := t2
  t3 := t3
  est := estErr s
  sender := ownFlat s
  port := p

/-- Sends the request of the current course (R71): its stamp is taken as it is sent (R74). -/
def timeRequest (s : State) (p : Nat) : State :=
  let t := portT s p
  if s.on TIM_CTL.EXCH_EN && linkActive s p && slotNow s < 64 && t.sentCourse != some (course s) && !(inReserved s p) then
    let n := (t.seq + 1) % 65536
    let s1 := setPortT s p { t with seq := n, reqT1 := some (stamp s), reqAt := now s, sentCourse := some (course s) }
    sendTile s1 p ttTime 0 0 0 (timeBytes (ownTime s1 p 1 n (stamp s) 0 0))
  else s

/-- Sends a response that is owed (R72). -/
def timeResponse (s : State) (p : Nat) : State :=
  match (portT s p).owed with
  | (n, t1, t2) :: rest =>
    if linkActive s p && !(inReserved s p) then
      let s1 := setPortT s p { portT s p with owed := rest }
      sendTile s1 p ttTime 0 0 0 (timeBytes (ownTime s1 p 2 n t1 t2 (stamp s)))
    else s
  | [] => s

/-- What a time tile says of its sender (R78, R81). -/
def peerInfo (t : PortTime) (b : TimeBody) : PortTime :=
  { t with peerState := b.state, peerDepth := b.depth, peerMaster := b.master, peerEpoch := b.epoch }

/-- A received request: a response is owed (R72, R74). -/
def onTimeRequest (s : State) (p : Nat) (b : TimeBody) : State :=
  let t := peerInfo (portT s p) b
  setPortT s p { t with owed := t.owed ++ [(b.seq, b.t1, stamp s)] }

/-- Mean path delay and peer offset of an exchange in 1/256 tick, with the fixed latencies taken off the stamps (R74, R77). (DEDUCED, log 60) -/
def timeOffset (s : State) (p t1 t2 t3 t4 : Nat) : Int × Int :=
  let tx : Int := Config.txLatency (portGen s p) (portWidth s p)
  let rx : Int := Config.rxLatency (portGen s p) (portWidth s p)
  let a : Int := (t2 : Int) - rx - ((t1 : Int) - tx)
  let b : Int := (t4 : Int) - rx - ((t3 : Int) - tx)
  let d := (a + b) / 2
  (d, a - d - sgn 16 (s.rg .TIM_ASYM p).toNat)

/-- The effects of a valid exchange with offset x and delay d (R77, R69, R518). -/
def exchangeDone (s : State) (p : Nat) (b : TimeBody) (d x : Int) : State :=
  let t := peerInfo (portT s p) b
  let s1 := setPortT s p { t with reqT1 := none, fresh := true, offX := x }
  let x24 := unsgn 24 (clampI (-(2 ^ 23)) (2 ^ 23 - 1) x)
  let s2 := (((s1.put TIM_PEER_OFF.X x24 p).put TIM_PEER_OFF.VALID 1 p).put CIR_PORT_DELAY.D (unsgn 24 d) p).put
    CIR_PORT_DELAY.VALID 1 p
  if activeParent s2 = some p then
    let win := 256 * s.get TIM_LOOP.LOCK_WIN
    let m := x.natAbs
    let s3 := (s2.setRg .TIM_OFFSET (BitVec.ofNat 32 (unsgn 32 x))).setRg .TIM_DELAY (BitVec.ofNat 32 (unsgn 32 d))
    { s3 with tim := { s3.tim with latestX := x, inWin := if m ≤ win then s3.tim.inWin + 1 else 0, far := s3.tim.far || (timState s == tsLocked && 4 * win < m) } }
  else s2

/-- A received response (R76). -/
def onTimeResponse (s : State) (p : Nat) (b : TimeBody) : State :=
  let t := portT s p
  match t.reqT1 with
  | some t1 =>
    if b.seq = t.seq && now s ≤ t.reqAt + 65536 then
      let r := timeOffset s p t1 b.t2 b.t3 (stamp s)
      exchangeDone s p b r.1 r.2
    else s.inc TIM_BAD_CNT.COUNT
  | none => s.inc TIM_BAD_CNT.COUNT

/-- A received time tile by its KIND; a reserved one is counted (R76). -/
def onTime (s : State) (p : Nat) (b : TimeBody) : State :=
  if b.kind = 1 then onTimeRequest s p b
  else if b.kind = 2 then onTimeResponse s p b
  else s.inc TIM_BAD_CNT.COUNT

/-- A write of TIM_FREQ.F (R86, R87). -/
def timFreq (s : State) (v : W32) : State :=
  let s1 := setF s (sgn 32 v.toNat)
  if timState s = tsHoldover then { s1 with tim := { s1.tim with fInt := freqF s1 } } else s1

/-! ### Meanings -/

/-- TIME_REQUEST_SEND (R71). -/
def execTimeRequestSend (p : Nat) (s : State) : Host.Outcome State Fault Refusal := .next (timeRequest s p)

/-- TIME_REQUEST_RECEIVE (R72): on a link in its active state. -/
def execTimeRequestReceive (p : Nat) (t : TimeBody) (s : State) : Host.Outcome State Fault Refusal :=
  .next (if linkActive s p && t.kind != 2 then onTime s p t else s)

/-- TIME_RESPONSE_SEND (R72). -/
def execTimeResponseSend (p : Nat) (s : State) : Host.Outcome State Fault Refusal := .next (timeResponse s p)

/-- TIME_RESPONSE_RECEIVE (R76, R77). -/
def execTimeResponseReceive (p : Nat) (t : TimeBody) (s : State) : Host.Outcome State Fault Refusal :=
  .next (if linkActive s p && t.kind != 1 then onTime s p t else s)

end Sys2Proof.Machine
end

