-- ==== Sys2Proof/Machine/Clocks.lean ====
section
/-! DEFINITION. Clock sources, monitors, changes of source, the divider, the resets and the first start-up phases (14). -/

namespace Sys2Proof.Machine

open Sys2Proof

/-- Start-up phases (Table - Start-up phases). -/
def phRomInit : Nat := 2
def phWaitDoor : Nat := 3
def phVerify : Nat := 4
def phIdentity : Nat := 5
def phFirmware : Nat := 6
def phLost : Nat := 7

def bootPhase (s : State) : Nat := s.get CLK_BOOT_STATUS.PHASE
def setPhase (s : State) (n : Nat) : State := s.put CLK_BOOT_STATUS.PHASE n

/-- CCLK sources. -/
def srcRosc : Nat := 1
def srcCpll : Nat := 2

/-- Enables ROSC where it is off (R579, R586). -/
def enableRosc (s : State) : State :=
  if s.on CLK_STATUS.ROSC_ON then s
  else { s.put CLK_STATUS.ROSC_ON 1 with clk := { s.clk with rosc := 0, roscPhase := 0, roscAt := s.clk.rcosc, roscOk := false } }

/-- ROSC is switched off when neither CCLK nor the time counter uses it (R592). -/
def dropRosc (s : State) : State :=
  if s.get CLK_STATUS.CCLK_SRC = srcRosc || s.on CLK_STATUS.FT_SRC || s.clk.needRosc || s.clk.ftNeed then s
  else { s.put CLK_STATUS.ROSC_ON 0 with clk := { s.clk with roscOk := false } }

/-- The CLOCK_LOST hold (R590). -/
def clockLost (s : State) : State :=
  if s.on CLK_STATUS.CLOCK_LOST then s
  else raise (setPhase (s.put CLK_STATUS.CLOCK_LOST 1) phLost) 2

/-- A monitor trips: its bit and the clock fault source (R585). -/
def trip (s : State) (f : Fld) : State := raise (s.put f 1) 2

/-- The PLLs run: some PLL has locked since they started. -/
def pllsRun (s : State) : Bool :=
  s.on CLK_STATUS.CPLL_LOCK || s.on CLK_STATUS.TPLL_LOCK || s.on CLK_STATUS.LPLL_LOCK

/-- A window of the REF monitor (R584, R586): 16 passes end a hold and start the PLLs; a trip begins a hold, and the time
state sees a REFCLK loss. -/
def refWindow (s : State) (bad : Bool) : State :=
  if bad then
    let s1 := trip { s with clk := { s.clk with refWins := 0 }, tim := { s.tim with refLost := true } } CLK_MON_STATUS.REF
    (s1.put CLK_STATUS.REF_OK 0).put CLK_STATUS.HOLD (b2n (s.on CLK_STATUS.HOLD || pllsRun s))
  else
    let n := Nat.min 16 (s.clk.refWins + 1)
    let s1 := { s with clk := { s.clk with refWins := n } }
    if n = 16 then (s1.put CLK_STATUS.REF_OK 1).put CLK_STATUS.HOLD 0 else s1

/-- A trip of the CCLK monitor (R586, R588, R589): the CORE gate closes and ROSC is enabled. -/
def cclkTrip (s : State) (noEdge : Bool) : State :=
  let s1 := enableRosc (trip s CLK_MON_STATUS.CCLK)
  { s1 with clk := { s1.clk with gate := true, needRosc := true, toCpll := false, gapCore := true, ccForced := s1.clk.ccForced || noEdge } }

/-- A trip of the FT monitor (R586): the counter is to move to ROSC. -/
def ftTrip (s : State) (noEdge : Bool) : State :=
  let s1 := enableRosc (trip s CLK_MON_STATUS.FT)
  { s1 with clk := { s1.clk with ftNeed := true, ftForced := s1.clk.ftForced || noEdge } }

/-- A trip of the ROSC monitor (R586, R590). -/
def roscTrip (s : State) : State :=
  let s1 := trip s CLK_MON_STATUS.ROSC
  if s.get CLK_STATUS.CCLK_SRC = srcRosc || s.on CLK_STATUS.FT_SRC then
    if s.on CLK_STATUS.CPLL_LOCK && s.clk.refWins != 0 then { s1 with clk := { s1.clk with toCpll := true } }
    else clockLost s1
  else s1

/-- A window of a monitor (Table - Clock monitors): 0 REF, 1 CCLK, 2 FT, 3 ROSC, 4 RC. The CCLK and FT monitors run while
their PLL is the selected source, the ROSC monitor while ROSC is enabled, the RC monitor while REF passes. -/
def monitorWindow (s : State) (mon count : Nat) (noEdge : Bool) : State :=
  let out (lo hi : Nat) : Bool := noEdge || count < lo || hi < count
  if !s.clk.aon || s.clk.por then s
  else match mon with
    | 0 => refWindow s (out 1125 1375)
    | 1 => if s.get CLK_STATUS.CCLK_SRC = srcCpll && (out 765 935 || !(s.on CLK_STATUS.CPLL_LOCK)) then cclkTrip s noEdge else s
    | 2 =>
      if s.get CLK_STATUS.FT_SRC = 0 && (s.on CLK_STATUS.TPLL_LOCK || s.clk.ftStart) && (out 900 1100 || !(s.on CLK_STATUS.TPLL_LOCK)) then
        ftTrip s noEdge
      else s
    | 3 => if s.on CLK_STATUS.ROSC_ON && out 680 930 then roscTrip s else s
    | 4 =>
      if s.clk.refWins = 0 then s
      else if out 377 461 then trip { s with clk := { s.clk with rcStop := true } } CLK_MON_STATUS.RC
      else { s with clk := { s.clk with rcStop := false } }
    | _ => s

/-- A LANE region that ran again after its LPLL lost lock: its ports retrain from DOWN (R581). It writes no records of its own (R583). -/
def laneReset (s : State) (g : Nat) : State :=
  let s1 := { s with clk := { s.clk with lpllHold := maskClr s.clk.lpllHold g } }
  [0, 1, 2, 3].foldl (fun acc k => enterDown acc (4 * g + k) 1) s1

/-- A PLL has been locked for 1024 RCOSC cycles (R580, R603): 0 CPLL, 1 TPLL, 2 + g LPLL g. (DESIGN CHOICE, log 5) -/
def pllLock (s : State) (pll : Nat) : State :=
  if !(s.on CLK_STATUS.REF_OK) || s.clk.por then s
  else if pll = 0 then
    let s1 := s.put CLK_STATUS.CPLL_LOCK 1
    if !s.clk.cpllEver && s.get CLK_STATUS.CCLK_SRC = srcRosc then { s1 with clk := { s1.clk with toCpll := true } } else s1
  else if pll = 1 then { s.put CLK_STATUS.TPLL_LOCK 1 with clk := { s.clk with ftStart := true } }
  else if pll < 10 then
    let g := pll - 2
    let s1 := s.put CLK_STATUS.LPLL_LOCK (maskSet (s.get CLK_STATUS.LPLL_LOCK) g)
    if bit s.clk.lpllHold g then laneReset s1 g else s1
  else s

/-- A lock detector indicates no lock (R580): an LPLL trips at once (R586); a hold keeps every PLL as it is. (DEDUCED, log 56) -/
def pllUnlock (s : State) (pll : Nat) : State :=
  if s.on CLK_STATUS.HOLD || s.clk.por then s
  else if pll = 0 then { s.put CLK_STATUS.CPLL_LOCK 0 with clk := { s.clk with toCpll := false } }
  else if pll = 1 then s.put CLK_STATUS.TPLL_LOCK 0
  else if pll < 10 && bit (s.get CLK_STATUS.LPLL_LOCK) (pll - 2) then
    let g := pll - 2
    let s1 := (s.put CLK_STATUS.LPLL_LOCK (maskClr (s.get CLK_STATUS.LPLL_LOCK) g)).put CLK_MON_STATUS.LPLL
      (maskSet (s.get CLK_MON_STATUS.LPLL) g)
    raise { s1 with clk := { s1.clk with lpllHold := maskSet s1.clk.lpllHold g } } 2
  else s

/-- Drops of pallet packets while CORE was stopped are counted as it resumes (R582). -/
def countPalDrops (s : State) : State :=
  { s.inc CIR_DROP_CNT.COUNT 0 0 s.clk.palDrops with clk := { s.clk with palDrops := 0 } }

/-- CCLK enters a new source at D = 8, with its first 8 cycles held off (R587, R588, R593). -/
def cclkTo (s : State) (src : Nat) : State :=
  let s1 := (s.put CLK_STATUS.CCLK_SRC src).put CLK_STATUS.D 8
  let s2 := if s.clk.ccForced then s1.put CLK_MON_STATUS.FORCED 1 else s1
  countPalDrops { s2 with clk := { s2.clk with gate := false, heldOff := if s.clk.ccForced || s.clk.gate then 8 else 0, srcCycles := 0, ccPhase := 0, ccForced := false, needRosc := false, toCpll := false, cpllEver := s2.clk.cpllEver || src == srcCpll } }

/-- CLOCK_SWITCH (R587 to R592): of CCLK to the source that is due, or of the time counter to ROSC. -/
def clockSwitch (s : State) (ft : Bool) : State :=
  if s.clk.por || s.clk.core || s.on CLK_STATUS.CLOCK_LOST then s
  else if ft then
    if s.clk.ftNeed && s.clk.roscOk then
      let s1 := s.put CLK_STATUS.FT_SRC 1
      let s2 := if s.clk.ftForced then s1.put CLK_MON_STATUS.FORCED 1 else s1
      { s2 with clk := { s2.clk with ftNeed := false, ftForced := false }, tim := { s2.tim with refLost := true } }
    else s
  else if s.clk.toCpll && s.on CLK_STATUS.CPLL_LOCK then dropRosc (cclkTo s srcCpll)
  else if s.clk.needRosc && s.clk.roscOk then cclkTo s srcRosc
  else s

/-- The counter returns to FTCLK at a course boundary (R591). -/
def ftReturn (s : State) : State :=
  if s.on CLK_STATUS.FT_SRC && s.on CLK_STATUS.TPLL_LOCK then dropRosc (s.put CLK_STATUS.FT_SRC 0) else s

/-- DIVIDER_STEP (R593): D moves by one toward its target, 64 source cycles after the last step. `srcCycles` counts tenths
of a cycle. -/
def dividerStep (s : State) : State :=
  let d := s.get CLK_STATUS.D
  let g := s.get CLK_CCLK_CTL.DIV + 1
  if s.get CLK_STATUS.CCLK_SRC = 0 || s.clk.srcCycles < 640 || d = g then s
  else { s.put CLK_STATUS.D (if g < d then d - 1 else d + 1) with clk := { s.clk with srcCycles := 0 } }

/-- A write of RETURN (R592). -/
def cclkReturn (s : State) : State :=
  if s.get CLK_STATUS.CCLK_SRC = srcRosc && s.on CLK_STATUS.CPLL_LOCK && s.clk.refWins != 0 then
    { s with clk := { s.clk with toCpll := true } }
  else s

/-! ### Reset and start-up (R597 to R604) -/

/-- Start-up runs from CLOCKS; a reserved personality holds the block in reset (R3, R601). -/
def startClocks (s : State) : State :=
  if s.clk.por || s.clk.core then s
  else if persona s = .rsvd then (raise (s.put CLK_BOOT_STATUS.ERR 5) 1)
  else if s.clk.rcOk then enableRosc (setPhase (clampGens s) 1)
  else s

/-- CORE is released on ROSC at D = 8, and the ROM runs (R602). -/
def romInit (s : State) : State :=
  let s1 := ((setPhase s phRomInit).put CLK_STATUS.CCLK_SRC srcRosc).put CLK_STATUS.D 8
  { s1 with clk := { s1.clk with gate := false, heldOff := 0, srcCycles := 0, ccPhase := 0, needRosc := false, toCpll := s1.on CLK_STATUS.CPLL_LOCK } }

/-- ROSC is stable (R579): start-up goes on, or a latched switch may be made. -/
def roscStable (s : State) (cyc : Nat) : State :=
  if s.on CLK_STATUS.ROSC_ON && !s.clk.roscOk && 16384 ≤ s.clk.rosc && 280 ≤ cyc && cyc ≤ 380 then
    let s1 := { s with clk := { s.clk with roscOk := true } }
    if bootPhase s1 = 1 then romInit s1 else s1
  else s

/-- ROSC is not stable within 64,000 RCOSC cycles of its enable (R590). -/
def roscTimeout (s : State) : State :=
  if s.on CLK_STATUS.ROSC_ON && !s.clk.roscOk && s.clk.roscAt + 64000 ≤ s.clk.rcosc then
    clockLost (s.put CLK_MON_STATUS.ROSC 1)
  else s

/-- The registers of the AON region (R581, R598). -/
def aonRegs : List RegName :=
  [.GLB_ID, .GLB_LOCK, .GLB_FLAT_ID, .GLB_COORD, .GLB_TORUS_DIM, .TIM_NOW, .TIM_CTL, .TIM_STATUS, .TIM_PARENT, .TIM_LOOP,
   .TIM_FREQ, .TIM_OFFSET, .TIM_DELAY, .TIM_HOLD_CFG, .TIM_SET, .TIM_LATE_CNT, .TIM_BAD_CNT, .TIM_ASYM, .TIM_PEER_OFF,
   .CLK_STATUS, .CLK_MON_STATUS, .CLK_RESET_CAUSE, .CLK_BOOT_STATUS, .FLT_SEV, .FLT_PEND, .FLT_FIRST, .FLT_FIRST_TIME,
   .OPT_PORT_CFG]

def inReg (r : RegName) (off : Nat) : Bool :=
  let d := regDesc r
  d.base ≤ off && off < d.base + Nat.max 4 (d.s1 * d.c1)

/-- A core reset (R598 to R600, R694): every register outside AON takes its reset value, and all work of the device ends.
The time state is judged, as every port has left its active state. (DESIGN CHOICE, log 57) -/
def coreReset (s : State) (cause : Nat) : State :=
  let parents := (parentPort s 0).any (linkActive s) || (parentPort s 1).any (linkActive s)
  let clk : Clk := { s.clk with gate := true, heldOff := 0, needRosc := false, toCpll := false, cpllEver := false, ccForced := false, gapCore := true, quiesce := some s.clk.cclk, palDrops := 0 }
  let s1 : State := { State.reset with tie := s.tie, regs := s.regs.filter (fun (r : Nat × W32) => aonRegs.any (fun n => inReg n r.1)), clk := clk, tim := { s.tim with ports := s.tim.ports.map (fun x => (x.1, { x.2 with reqT1 := none, owed := [] })) }, obs := { Obs.reset with flt := s.obs.flt }, tap := s.tap, opt := optReset s, i3c := s.i3c, free := s.free, pending := s.pending }
  let s2 := (((s1.put CLK_RESET_CAUSE.CAUSE (if s.on CLK_STATUS.CLOCK_LOST then 3 else cause)).put CLK_STATUS.CLOCK_LOST 0).put
    CLK_STATUS.CCLK_SRC 0).put CLK_STATUS.D 8
  let s3 := setPhase s2 0
  putPresent (if parents then timeEval s3 else s3)

/-- Power-on reset: every region, AON included; the supply and RCOSC run on (R577, R598). (DESIGN CHOICE, log 57) -/
def porReset (s : State) : State :=
  putPresent { State.reset with clk := { Clk.reset with aon := s.clk.aon, rcosc := s.clk.rcosc, rcPhase := s.clk.rcPhase, rcOk := s.clk.rcOk }, tap := { s.tap with opened := false }, opt := optReset { s with tim := Tim.reset }, free := s.free, pending := s.pending }

/-- The personality that a tie-off selects (R1). -/
def personaOf (v : BitVec 2) : Persona :=
  if v = 0 then .ep else if v = 1 then .sw else if v = 2 then .mem else .rsvd

/-! ### Meanings -/

/-- AON_SUPPLY_VALID (R577): RCOSC starts. -/
def execAonSupplyValid (s : State) : Host.Outcome State Fault Refusal :=
  .next { s with clk := { s.clk with aon := true } }

/-- RCOSC_STABLE (R577): after 1,024 of its own cycles; a start-up that waited for it goes on. -/
def execRcoscStable (s : State) : Host.Outcome State Fault Refusal :=
  .next (if s.clk.aon && !s.clk.rcOk && 1024 ≤ s.clk.rcosc then startClocks { s with clk := { s.clk with rcOk := true } } else s)

/-- POR_ASSERT (R597, R598). -/
def execPorAssert (s : State) : Host.Outcome State Fault Refusal := .next (porReset s)

/-- POR_RELEASE (R2, R602, R685): the tie-offs are sampled and start-up begins. -/
def execPorRelease (t : TieOffs) (s : State) : Host.Outcome State Fault Refusal :=
  .next (if s.clk.por then
    startClocks { s with tie := some ⟨personaOf t.persona, t.tuGen, t.tuIlv.toNat, t.i3cMfr.toNat, t.i3cInst.toNat, t.jtagMfr.toNat⟩, clk := { s.clk with por := false } }
  else s)

/-- CORE_RESET_ASSERT (R597, R599). -/
def execCoreResetAssert (s : State) : Host.Outcome State Fault Refusal :=
  .next (if s.clk.por then s else { coreReset s 1 with clk := { (coreReset s 1).clk with core := true } })

/-- CORE_RESET_RELEASE (R597, R601). -/
def execCoreResetRelease (s : State) : Host.Outcome State Fault Refusal :=
  .next (if s.clk.core then startClocks { s with clk := { s.clk with core := false } } else s)

/-- ROSC_STABLE (R579, R602). -/
def execRoscStable (cyc : Nat) (s : State) : Host.Outcome State Fault Refusal := .next (roscStable s cyc)

/-- ROSC_TIMEOUT (R590). -/
def execRoscTimeout (s : State) : Host.Outcome State Fault Refusal := .next (roscTimeout s)

/-- PLL_LOCK (R580, R603). -/
def execPllLock (pll : Nat) (s : State) : Host.Outcome State Fault Refusal := .next (pllLock s pll)

/-- PLL_UNLOCK (R580). -/
def execPllUnlock (pll : Nat) (s : State) : Host.Outcome State Fault Refusal := .next (pllUnlock s pll)

/-- MONITOR_WINDOW (R584 to R586). -/
def execMonitorWindow (mon count : Nat) (noEdge : Bool) (s : State) : Host.Outcome State Fault Refusal :=
  .next (monitorWindow s mon count noEdge)

/-- CLOCK_SWITCH (R587). -/
def execClockSwitch (ft : Bool) (s : State) : Host.Outcome State Fault Refusal := .next (clockSwitch s ft)

/-- DIVIDER_STEP (R593). -/
def execDividerStep (s : State) : Host.Outcome State Fault Refusal := .next (dividerStep s)

/-- SRAM_INIT_DONE (R604): the ROM enters WAIT_DOOR. -/
def execSramInitDone (s : State) : Host.Outcome State Fault Refusal :=
  .next (if bootPhase s = phRomInit then setPhase (spwZero s 0 spwSize) phWaitDoor else s)

end Sys2Proof.Machine
end

