-- ==== Sys2Proof/Machine/Units.lean ====
section
/-! DEFINITION. Leased units (13): the lease in force of a unit, its generation, and who may use it. -/

namespace Sys2Proof.Machine

open Sys2Proof

/-- The lease of the unit to the tenant is in force and the unit is not in scrub (R220). -/
def leasedTo (s : State) (k i t : Nat) : Bool :=
  let l := unitOf s k i
  l.en && l.ten == t && !l.scrub

/-- The tenant may use the unit already (R553). -/
def unitUsable (s : State) (k i : Nat) : Bool := (unitOf s k i).usable ≤ course s

/-- The generation of a unit's lease. -/
def unitGen (s : State) (k i : Nat) : Nat :=
  match k with
  | 1 => s.get BND_SLOT_CFG.GEN i
  | 2 => s.get KLN_SLOT_CFG.GEN i
  | 4 => s.get HOD_CFG.GEN i
  | 5 => s.get CIR_PALLET_LEASE.GEN i
  | _ => s.get TRW_CTX_CFG.GEN i

/-- A slot reference (R248, R256): the index with the generation expected, or the status it raises. A slot of the tenant that
may not be used yet makes the instruction wait with stall reason 9. -/
def slotRef (s : State) (c kind w v : Nat) : Except Stat Nat :=
  let i := v % 2 ^ w
  let g := bits v 8 8
  if v / 65536 != 0 || (v / 2 ^ w) % 2 ^ (8 - w) != 0 then .error (badCmd (here s c) 2)
  else if !(leasedTo s kind i (ctxTen s c)) then .error (accessSt (here s c) 0xFFFF)
  else if g != unitGen s kind i then .error (staleSt kind g i)
  else .ok i

end Sys2Proof.Machine
end

