-- ==== Sys2Proof/Machine/Crypto.lean ====
section
/-! DEFINITION. Keys of a tenant's epochs and the sealing of confidential payloads (R562 to R571). The algorithms are opaque
constants of Config. -/

namespace Sys2Proof.Machine

open Sys2Proof

/-- The bytes of an ASCII text. -/
def ascii (t : String) : List Byte := t.toList.map (fun c => BitVec.ofNat 8 c.toNat)

/-- CUR of a tenant (R565): packets carry it as KEPOCH. -/
def curEpoch (s : State) (t : Nat) : Nat := if t < 512 then s.get SEC_TEN_CFG.CUR t else 0

def epochLive (s : State) (t e : Nat) : Bool := t < 512 && (if e = 0 then s.on SEC_TEN_CFG.LIVE0 t else s.on SEC_TEN_CFG.LIVE1 t)
def epochRetiring (s : State) (t e : Nat) : Bool := t < 512 && (if e = 0 then s.on SEC_TEN_CFG.RETIRING0 t else s.on SEC_TEN_CFG.RETIRING1 t)

def ekOf (s : State) (t e : Nat) : List Byte := tabGet [] (2 * t + e) s.sec.ek
def wireKey (s : State) (t e : Nat) : List Byte := Config.kdf (ekOf s t e) [] (ascii "WIRE") 32
def storeKey (s : State) (t e : Nat) : List Byte := Config.kdf (ekOf s t e) [] (ascii "STORE") 64

/-- A confidential tenant whose CUR slot holds no key cannot send (R563). -/
def keyStall (s : State) (t : Nat) : Bool := conf s t && !(epochLive s t (curEpoch s t))

/-- The additional authenticated data of a packet: header bytes 0 to 43 with byte 7, FLAGS and the VC taken as zero (R569). -/
def aadOf (p : Packet) : List Byte := (hdr44 { p with hops := 0, flags := 0, vc := 0 }).take 44

def nonceOf (src n : Nat) : List Byte := leBytes 2 src ++ [0, 0] ++ leBytes 8 n

/-- Opcodes whose payload a confidential tenant's packets carry sealed (R569). -/
def sealedOp (op : Nat) : Bool := op == 0x10 || op == 0x20 || op == 0x30 || op == 0x40

/-- Seals the payload of a confidential tenant's packet with the next value of the send counter (R569, R570). `inner` is the
opcode that decides, which for a forward is that of the request it carries. -/
def sealPkt (s : State) (inner : Nat) (p : Packet) : State × Packet :=
  if conf s p.ten && sealedOp inner && !p.pay.isEmpty then
    let k := 2 * p.ten + p.kep
    let n := tabGet 0 k s.sec.send
    let shape := { p with pay := List.replicate (p.pay.length + 24) 0 }
    let c := Config.aeadSeal (wireKey s p.ten p.kep) (nonceOf p.src n) (aadOf shape) p.pay
    ({ s with sec := { s.sec with send := tabSet 0 k (n + 1) s.sec.send } }, { p with pay := leBytes 8 n ++ (c ++ List.replicate (p.pay.length + 16) 0).take (p.pay.length + 16) })
  else (s, p)

/-- Opens a sealed payload; none where its tag fails (R569). -/
def openPay (s : State) (p : Packet) : Option (List Byte) :=
  Config.aeadOpen (wireKey s p.ten p.kep) (nonceOf p.src (leAt p.pay 0 8)) (aadOf p) (p.pay.drop 8)

/-- Data bytes per packet of a transfer (R228, Table - Confidential packet limits). -/
def dataMax (s : State) (t : Nat) : Nat := if conf s t then 2024 else 2048

/-- Data bytes per VC7 request (R236, R571). -/
def latMax (s : State) (t : Nat) : Nat := if conf s t then 168 else 192

end Sys2Proof.Machine
end

