-- ==== Sys2Proof/Machine/Xfer.lean ====
section
/-! DEFINITION. Operations at their source: hods, flows, packets formed and sent, replay, broken flows and flow reset, completion
points and completion (05, 06, 07). -/

namespace Sys2Proof.Machine

open Sys2Proof

/-! ### Tables -/

def updOp (s : State) (id : Nat) (f : Op → Op) : State :=
  { s with xf := { s.xf with ops := s.xf.ops.map (fun o => if o.id == id then f o else o) } }

def dropOp (s : State) (id : Nat) : State :=
  { s with xf := { s.xf with ops := s.xf.ops.filter (fun o => o.id != id) } }

/-- The pseudo-hod of packets that the target engine sends on its own flows; the number of an unassigned hod. -/
def hodTarget : Nat := 64
def hodNone : Nat := 255

def TxFlow.zero : TxFlow := ⟨0, false⟩
def txFlow (s : State) (f : Nat) : TxFlow := tabGet TxFlow.zero f s.xf.tx
def setTx (s : State) (f : Nat) (x : TxFlow) : State := { s with xf := { s.xf with tx := tabSet TxFlow.zero f x s.xf.tx } }

def replayOf (s : State) (h : Nat) : List Replay := tabGet [] h s.xf.replay
def setReplay (s : State) (h : Nat) (l : List Replay) : State := { s with xf := { s.xf with replay := tabSet [] h l s.xf.replay } }

/-- Changes every replay entry that satisfies a condition; none removes it. -/
def mapReplay (s : State) (c : Replay → Bool) (f : Replay → Option Replay) : State :=
  { s with xf := { s.xf with replay := (s.xf.replay.map (fun (x : Nat × List Replay) => (x.1, x.2.filterMap (fun r => if c r then f r else some r)))).filter (fun (x : Nat × List Replay) => !x.2.isEmpty) } }

def allReplay (s : State) : List Replay := (s.xf.replay.map (fun x => x.2)).flatten

/-- HOD_STATUS of hod h follows its operations and entries (R261, R270). -/
def hodStatus (s : State) (h : Nat) : State :=
  if 64 ≤ h then s
  else
    let n := (s.xf.ops.filter (fun o => o.hod == h)).length
    let r := (replayOf s h).length
    let st := if (unitOf s ukHod h).scrub then 2 else if n = 0 && r = 0 then 0 else 1
    ((s.put HOD_STATUS.OPS n h).put HOD_STATUS.REPLAY r h).put HOD_STATUS.STATE st h

/-! ### Descriptor fields (R224) -/

def dByte (d : BitVec 512) (i n : Nat) : Nat := bits d.toNat (8 * i) (8 * n)
def dLaddr (d : BitVec 512) : Nat := dByte d 0 8
def dRaddr (d : BitVec 512) : Nat := dByte d 8 8
def dLen (d : BitVec 512) : Nat := dByte d 16 4
def dVeid (d : BitVec 512) : Nat := dByte d 20 2
def dVeid2 (d : BitVec 512) : Nat := dByte d 22 2
def dSgCount (d : BitVec 512) : Nat := dByte d 24 4
def dKiln (d : BitVec 512) : Nat := dByte d 28 2
def dKilnOn (d : BitVec 512) : Bool := bit (dKiln d) 8
def dPallet (d : BitVec 512) : Nat := dByte d 30 2
def dSgAddr (d : BitVec 512) : Nat := dByte d 32 8
def dSigAddr (d : BitVec 512) : Nat := dByte d 40 8
def dSigVal (d : BitVec 512) : Nat := dByte d 48 8
def dOutMax (d : BitVec 512) : Nat := dByte d 56 4
def dKgen (d : BitVec 512) : Nat := dByte d 60 1
def dPgen (d : BitVec 512) : Nat := dByte d 61 1

/-- The modifiers of IMM (R223). -/
def modsOf (i : Nat) : Mods := ⟨bits i 0 2, bits i 2 2, bit i 5, bit i 6⟩

/-! ### Hods (R220, R261, R623, R624) -/

def hodRetired (s : State) (h : Nat) : Bool :=
  bit (s.rg .HOD_RETIRE (h / 32)).toNat (h % 32)

def heldHods (s : State) (t : Nat) : List Nat := (List.range 64).filter (fun h => leasedTo s ukHod h t)

def hodLoad (s : State) (h : Nat) : Nat := (s.xf.ops.filter (fun o => o.hod == h)).length

/-- The hod of a new operation of context c with these destinations: error 0 means that the tenant holds none, another error
is a stall reason. -/
def assignHod (s : State) (c t : Nat) (dests : List Nat) : Except Nat Nat :=
  let held := heldHods s t
  let open_ := held.filter (fun h => !(hodRetired s h))
  let mine := (s.xf.ops.filter (fun o => o.ctx == c && o.hod < 64 && o.dests.any (fun d => dests.contains d))).map (·.hod)
  if open_.isEmpty then .error 0
  else
    match mine.eraseDups with
    | h :: _ :: _ => if h = 64 then .error 0 else .error 13
    | [h] => if hodRetired s h || 16 ≤ hodLoad s h then .error 13 else .ok h
    | [] =>
      let use := open_.filter (fun h => unitUsable s ukHod h)
      match use with
      | [] => .error 9
      | h0 :: _ =>
        let best := use.foldl (fun b h => Nat.min b (hodLoad s h)) (hodLoad s h0)
        if 16 ≤ best then .error 13
        else .ok ((arbPick s 64 (use.filter (fun h => hodLoad s h == best))).getD h0)

/-! ### Packets -/

/-- The VC of a packet of an operation: a group is sent to on VC1 (R509), the REG space of a transfer on VC0 (R46, R227). (DEDUCED, log 31; DEDUCED, log 32) -/
def pktVc (o : Op) (dst target : Nat) : Nat :=
  if isGroup dst then 1
  else if spaceOf target = 2 && (match o.kind with | .put => true | .get => true | .scatter => true | .gather => true | _ => false) then 0
  else o.vc

/-- The header of a request packet of an operation (R222, Table - Packet header, Table - Header extension). -/
def opPacket (s : State) (o : Op) (op dst target lgen count : Nat) (flags : Nat) (pay : List Byte) : Packet where
  dst := dst
  src := ownFlat s
  ten := o.ten
  vc := pktVc o dst target
  kep := curEpoch s o.ten
  op := op
  hops := 0
  flags := flags + (if isGroup dst then 64 else 0) + (if dKilnOn o.desc && o.kind != .publish && (match o.kind with | .atom _ _ => false | .measure => false | _ => true) then 2 else 0) + (if o.pal.isSome then 4 else 0)
  seq := 0
  target := target
  tag := o.tag
  lgen := lgen
  hod := if o.hod < 64 then o.hod else o.rd % 64
  hgen := o.hgen
  e32 := count
  e36 := (if dKilnOn o.desc then dKiln o.desc % 256 + 256 * dKgen o.desc else 0) + 65536 * o.pal.getD 0
  e40 := ownFlat s
  pay := pay

/-- Gives a packet the next number of its flow, enters it in the replay list of its hod, and lets it wait to leave (R266,
R270). `data` is the length of its payload where that is read again for a replay. -/
def sendPkt (s : State) (o : Op) (p : Packet) (laddr : Nat) (data : Nat) (rsp reread : Bool) : State :=
  let f := flowKey p.dst p.vc (isGroup p.dst)
  let x := txFlow s f
  let q := { p with seq := x.next }
  let h := if o.hod < 64 then o.hod else hodTarget
  let e : Replay := ⟨f, x.next, o.id, laddr, data, 1, none, some (now s), 0, 0, rsp, false, reread, false, if reread then { q with pay := [] } else q⟩
  let s1 := setReplay (setTx s f { x with next := (x.next + 1) % 2 ^ 32 }) h (replayOf s h ++ [e])
  let s2 := if h < 64 then s1.addPair .OBS_HOD_BYTES p.pay.length else s1
  let r := sealPkt s2 (if o.kind = .pageFwd && p.pay.length != 16 then 0x10 else p.op) q
  enqueue r.1 r.2 (if h < 64 then 32 else 34) none none none none (some o.id)

/-- Packets of a flow sent and not acknowledged (R266). -/
def unacked (s : State) (f : Nat) : Nat := ((allReplay s).filter (fun r => r.flow == f && !r.acked)).length

/-- The flow and the hod take another packet of an operation (R266, R270, R563). (DEDUCED, log 41) -/
def sendRoom (s : State) (o : Op) (dst vc : Nat) : Bool :=
  unacked s (flowKey dst vc (isGroup dst)) < 4096 && (64 ≤ o.hod || (replayOf s o.hod).length < 256) && !(keyStall s o.ten)

/-! ### Completion points (R310 to R316) -/

/-- Everything the operation owes has happened (R276, R310 at FAB). -/
def opFinished (s : State) (o : Op) : Bool :=
  opSent o && !(opEngine s o.id) && (opEntries s o.id).isEmpty && o.coh.isEmpty && o.rcb == 0 && (opLocals s o.id).isEmpty

/-- The operation has reached its completion point at a scope (Table - Completion points). -/
def opReached (s : State) (o : Op) (scope : Nat) : Bool :=
  if scope = 3 then opFinished s o
  else
    let ents := (opEntries s o.id).all (fun r => r.acked && !r.rsp)
    let loc := opLocals s o.id
    opSent o && !(opEngine s o.id) && ents && o.rcb == 0 &&
    (if scope = 2 then loc.isEmpty
     else loc.all (fun t => txnAccepted t && (match t.why with | .move _ _ => false | .latom _ => false | _ => true)))

/-- Every operation of context c before number `ids`, and every local access before number `txn`, has reached its completion
point at a scope (R312, R315). -/
def earlierReached (s : State) (c ids txn scope : Nat) : Bool :=
  s.xf.ops.all (fun o => !(o.ctx == c && o.id < ids) || opReached s o scope) &&
  s.xf.txns.all (fun t => !(t.ctx == some c && t.id < txn && (whyLocal t.why).isNone) || (scope ≤ 1 && txnAccepted t))

/-- An operation may send (R315, R316). -/
def mayStart (s : State) (o : Op) : Bool :=
  (match o.rel with
   | some r => earlierReached s o.ctx o.id r.txn r.scope
   | none => true) &&
  o.acqs.all (opReturned s)

/-! ### Local parts -/

/-- The unaccepted local writes of earlier instructions that an access of operation o waits for (R306). -/
def opAfter (s : State) (o : Op) : List Nat :=
  (s.xf.txns.filter (fun t => t.ctx == some o.ctx && isWrite t.op && !(txnAccepted t) &&
    (match whyLocal t.why with | some j => j < o.id | none => t.id < o.txn0))).map (·.id)

/-- Earlier operations of the context whose writes of the own memory come first (R306). -/
def opAfterOps (s : State) (o : Op) : List Nat :=
  (s.xf.ops.filter (fun x => x.ctx == o.ctx && x.id < o.id && x.local? && !(opReturned s x.id))).map (·.id)

/-- An access of an operation to its own device's memory, at a target address. -/
def opTxn (s : State) (o : Op) (op : MemOp) (a n : Nat) (d : List Byte) (why : Why) : State × Nat :=
  let r := newTxn s (spaceOf a) op 2 (offsetOf a) n d why (opAfter s o) [] (if o.ctx < 1024 then some o.ctx else none) o.ten
  (txnAfterOps r.1 r.2 (opAfterOps s o ++ o.acqs), r.2)

/-- Moves of an operation within the own device: read there, then written. At most 16 reads are outstanding. -/
def movesOut (s : State) (id : Nat) : Nat :=
  (s.xf.txns.filter (fun t => match t.why with | .move o _ => o == id | _ => false)).length

/-! ### Statuses of an operation -/

/-- An operation takes a status and sends nothing more. -/
def opStop (s : State) (id : Nat) (st : Stat) : State :=
  updOp (opAdd s id st) id (fun o => { o with stopped := true, pieces := [], sigs := [], rel := none })

/-- An operation ends at the transport: what it has outstanding is released. -/
def opKill (s : State) (id : Nat) (st : Stat) : State :=
  let s1 := mapReplay (opStop s id st) (fun r => r.op == id) (fun _ => none)
  updOp { s1 with net := { s1.net with out := s1.net.out.filter (fun x => x.op != some id) } } id (fun o => { o with coh := [], reading := none, rcb := 0 })

/-- The major opcode of the instruction that starts an operation (Table - Data and bond opcodes). -/
def majOf (k : OpKind) : Nat :=
  match k with
  | .atom _ _ => 0x11
  | .measure => 0x12
  | .publish => 0x14
  | .bond => 0x20
  | _ => 0x10

/-- The trace record of an operation's start or completion (Table - Trace sources, OPER). (DESIGN CHOICE, log 42) -/
def traceOp (s : State) (o : Op) (evt status bytes : Nat) : State :=
  traceEv s 4 evt o.ten o.tag none (leBytes 2 o.ctx ++ [BitVec.ofNat 8 o.hod, BitVec.ofNat 8 (majOf o.kind)] ++ leBytes 2 status ++ leBytes 2 0 ++ leBytes 8 bytes)

/-- The context that holds a SCATTER or GATHER goes on, its operation having a hod (R261). -/
def listGo (s : State) (o : Op) : State :=
  match (ctxOf s o.ctx).wait with
  | some w => if w.kind == .list o.id then releaseWait s o.ctx else s
  | none => s

/-- Completes every finished operation: its statuses and bytes go to its command (R149, R276), and a result it never
delivered is zero (R178). -/
def finishOp (s : State) (o : Op) : State :=
  let s1 := hodStatus (dropOp s o.id) o.hod
  if 1024 ≤ o.ctx then s1
  else
    let st := o.stats ++ (if o.undeliv = 0 then [] else [⟨0x01, o.undeliv⟩])
    let s1 := traceOp s1 o 1 (topStat st).code o.bytes
    let s2 := match o.kind with
      | .atom _ w => if o.rd = 0 then s1 else if w then landG (landG s1 o.ctx o.rd 0) o.ctx (o.rd + 1) 0 else landG s1 o.ctx o.rd 0
      | .measure => landG (landG s1 o.ctx o.rd 0) o.ctx (o.rd + 1) 0
      | _ => s1
    let s3 := updCtx (if o.stopped then s2 else listGo s2 o) o.ctx (fun x => { x with acq := x.acq.filter (fun i => i != o.id) })
    st.foldl (fun acc z => addStat acc o.ctx o.cmd z) (updCmd s3 o.ctx o.cmd (fun m => { m with ops := m.ops - 1, bytes := (m.bytes + o.bytes) % 2 ^ 64 }))

def finishOps (s : State) : State :=
  s.xf.ops.foldl (fun acc o0 => match opById acc o0.id with
    | some o => if opFinished acc o then finishOp acc o else acc
    | none => acc) s

/-! ### Sending (R262, R227) -/

/-- An earlier operation of the hod has packets of the same flow still to send (R262). -/
def flowTaken (s : State) (o : Op) (dst vc : Nat) : Bool :=
  s.xf.ops.any (fun x => x.id < o.id && x.hod == o.hod && !x.stopped &&
    (x.pieces.any (fun p => p.dst == dst && pktVc x dst p.raddr == vc) || (x.sigs.contains dst && pktVc x dst 0 == vc) || !x.listed))

def isGetKind (k : OpKind) : Bool := match k with | .get => true | .gather => true | _ => false

/-- Bytes of the packet that starts at an offset of a piece: blocks of the kiln stay whole (R228, R571). -/
def chunkLen (s : State) (o : Op) (len off : Nat) : Nat :=
  let top := if dKilnOn o.desc && conf s o.ten then 1792 else dataMax s o.ten
  Nat.min top (len - off)

/-- LAST (Table - Packet flags): the packet ends its operation's data, or the input of one kiln-bound entry. -/
def lastFlag (o : Op) (len off n : Nat) : Nat :=
  if (o.pieces.length ≤ 1 || dKilnOn o.desc) && len ≤ off + n then 1 else 0

/-- Takes a finished piece off. -/
def popPiece (s : State) (id : Nat) : State := updOp s id (fun o => { o with pieces := o.pieces.drop 1, off := 0 })

/-- The payload of an atomic request (Table - Opcodes): control word, a, and c for CAS. -/
def atomPay (d : BitVec 512) (op : Nat) (w : Bool) : List Byte :=
  let n := if w then 16 else 8
  leBytes 8 (op + 16 * b2n w) ++ leBytes n (dByte d 32 16) ++ (if op = 2 then leBytes n (dByte d 48 16) else [])

/-- The bytes that a source read takes: whole bricks where the source is a page under a key (R568). -/
def readSpan (o : Op) (a n : Nat) : Nat × Nat :=
  if o.kind = .copyData && bits o.desc.toNat 496 8 != 0 then (a / 128 * 128, (a + n + 127) / 128 * 128 - a / 128 * 128) else (a, n)

/-- One packet of a piece to another device (R227, R232, R240, R242, R246), once the operation may send. -/
def sendPiece (s : State) (o : Op) (p : Piece) : State :=
  let n := chunkLen s o p.len o.off
  match o.kind with
  | .get | .gather =>
    let s1 := sendPkt s o (opPacket s o 0x11 p.dst (p.raddr + o.off) p.pgen n (lastFlag o p.len o.off n) []) (p.laddr + o.off) n true false
    updOp s1 o.id (fun x => { x with off := x.off + n })
  | .copy =>
    let pay := leBytes 8 (o.dests.headD 0) ++ leBytes 8 (dRaddr o.desc)
    popPiece (sendPkt s o (opPacket s o 0x13 p.dst p.raddr p.pgen p.len 1 pay) 0 p.len true false) o.id
  | .atom k w =>
    popPiece (sendPkt s o (opPacket s o 0x12 p.dst p.raddr 0 (b2n (o.rd == 0)) 1 (atomPay o.desc k w)) 0 0 (o.rd != 0) false) o.id
  | .measure =>
    popPiece (sendPkt s o (opPacket s o 0x14 p.dst p.raddr 0 8 1 []) 0 8 true false) o.id
  | .publish =>
    popPiece (sendPkt s o (opPacket s o 0x15 p.dst p.raddr 0 0 1 (leBytes 8 (dByte o.desc 48 8))) 0 0 false false) o.id
  | .formed | .pageFwd =>
    match o.fixed with
    | some k => popPiece (sendPkt s o k 0 0 false false) o.id
    | none => popPiece s o.id
  | _ =>
    let b := readSpan o (p.laddr + o.off) n
    let r := opTxn s o .rd b.1 b.2 [] (.src o.id n)
    updOp r.1 o.id (fun x => { x with reading := some r.2 })

/-- One step of a piece at the own device. -/
def localPiece (s : State) (o : Op) (p : Piece) : State :=
  match o.kind with
  | .atom k w =>
    let n := if w then 16 else 8
    popPiece (opTxn s o (.atom k w (dByte o.desc 32 16) (dByte o.desc 48 16)) p.raddr n [] (.latom o.id)).1 o.id
  | .measure => popPiece (opTxn s o .rd p.raddr 8 [] (.latom o.id)).1 o.id
  | .publish =>
    let r := opTxn s o .wr p.raddr 8 (leBytes 8 (dByte o.desc 48 8)) (.local o.id)
    let w := (s.xf.txns.filter (fun t => t.ctx == some o.ctx && isWrite t.op)).map (·.id)
    popPiece (updTxn r.1 r.2 (fun t => { t with afterCoh := w })) o.id
  | _ =>
    let n := Nat.min 2048 (p.len - o.off)
    let src := if isGetKind o.kind then p.raddr else p.laddr
    let dst := if isGetKind o.kind then p.laddr else p.raddr
    let r := opTxn s o .rd (src + o.off) n [] (.move o.id (dst + o.off))
    updOp r.1 o.id (fun x => { x with off := x.off + n })

/-- A signal of an operation (R231, R235): at the own device an atomic behind its writes, elsewhere a SIGNAL packet. -/
def sendSignal (s : State) (o : Op) (d : Nat) : State :=
  let s1 := updOp s o.id (fun x => { x with sigs := x.sigs.drop 1 })
  if d = ownFlat s then
    let r := opTxn s1 o (.atom 0 false (dSigVal o.desc) 0) (dSigAddr o.desc) 8 [] (.local o.id)
    updTxn r.1 r.2 (fun t => { t with afterCoh := (opLocals s o.id).map (·.id) })
  else
    sendPkt s1 o { opPacket s o 0x16 d (dSigAddr o.desc) 0 0 (if o.sigs.length ≤ 1 then 1 else 0) (leBytes 8 (dSigVal o.desc)) with e36 := 65536 * o.pal.getD 0, flags := (opPacket s o 0x16 d 0 0 0 (if o.sigs.length ≤ 1 then 1 else 0) []).flags &&& 125 } 0 0 false false

/-- The context of a SCATTER or GATHER without a hod is in STALL with a reason: none where it shows it already (R261). -/
def listStall (s : State) (o : Op) (r : Nat) : Option State :=
  let x := ctxOf s o.ctx
  match x.wait with
  | some w => if w.kind == .list o.id && x.stall != some r then some (updCtx s o.ctx (fun y => { y with stall := some r })) else none
  | none => none

/-- One step of an operation: none where it can do nothing now. -/
def pumpStep (s : State) (o : Op) : Option State :=
  if o.stopped || !o.listed || o.reading.isSome || o.rcb != 0 || o.kind = .bond then none
  else if o.hod = hodNone then
    match assignHod s o.ctx o.ten o.dests with
    | .ok h => some (listGo (hodStatus (updOp s o.id (fun x => { x with hod := h, hgen := s.get HOD_CFG.GEN h })) h) o)
    | .error r => if r = 0 then some (opStop s o.id (accessSt o.word 0xFFFF)) else listStall s o r
  else if !(mayStart s o) then none
  else
    match o.pieces, o.sigs with
    | p :: _, _ =>
      if p.len ≤ o.off && (match o.kind with | .atom _ _ => false | .measure => false | .publish => false | .formed => false | .pageFwd => false | _ => true) then
        some (popPiece s o.id)
      else if p.dst = ownFlat s && o.kind != .formed && o.kind != .pageFwd && o.kind != .copyData then
        if (if dKilnOn o.desc then 1 else 16) ≤ movesOut s o.id || s.kiln.jobs.any (fun j => j.mode == 1 && j.key == o.id && !j.last && (j.cluster.isNone || 24 < j.queue.length)) then none else some (localPiece s o p)
      else if flowTaken s o p.dst (pktVc o p.dst p.raddr) || !(sendRoom s o p.dst (pktVc o p.dst p.raddr)) then none
      else some (sendPiece s o p)
    | [], d :: _ =>
      if o.kind = .copy && !(opEntries s o.id).isEmpty then none
      else if d = ownFlat s then (if 0 < movesOut s o.id then none else some (sendSignal s o d))
      else if flowTaken s o d (pktVc o d 0) || !(sendRoom s o d (pktVc o d 0)) then none
      else some (sendSignal s o d)
    | [], [] => none

/-- An operation sends all that it can now: at most the room of a replay list. -/
def pumpOp : Nat → State → Nat → State
  | 0, s, _ => s
  | n + 1, s, id =>
    match opById s id with
    | none => s
    | some o =>
      match pumpStep s o with
      | some t => pumpOp n t id
      | none => s

def pump (s : State) : State := s.xf.ops.foldl (fun acc o => hodStatus (pumpOp 260 acc o.id) o.hod) s

/-- The source bytes of a packet have been read: it is numbered and sent (R263, R266). -/
def srcRead (s : State) (id n : Nat) (d : List Byte) (refused : Bool) : State :=
  match opById s id with
  | none => s
  | some o =>
    let s1 := updOp s id (fun x => { x with reading := none })
    if o.stopped then s1
    else
      match o.pieces with
      | [] => s1
      | p :: _ =>
        if refused then opStop s1 id (accessSt o.word p.dst)
        else
          let first := if dKilnOn o.desc then dOutMax o.desc else if o.off = 0 then p.len else 0
          let k := if o.kind = .copyData then 0x20 else 0x10
          let fl := lastFlag o p.len o.off n
          let base := opPacket s1 o k p.dst (p.raddr + o.off) p.pgen first fl d
          let pkt := match o.org with
            | some g => { base with e32 := g.2.1, e40 := g.1, vc := 2 }
            | none => base
          let s2 := sendPkt s1 o pkt (p.laddr + o.off) n false true
          updOp s2 id (fun x => { x with off := x.off + n })

/-! ### Replay and broken flows (R271 to R278, R286) -/

/-- Marks a flow broken and completes the operations that use it (R277). -/
def breakFlow (s : State) (f : Nat) : State :=
  let dst := f / 16
  let vc := f % 8
  let s1 := raise ((setTx s f { txFlow s f with broken := true }).put HOD_BROKEN_PEER.PEER dst |>.incSat HOD_CNT.COUNT 4) 5
  let hit (o : Op) : Bool := (opEntries s o.id).any (fun r => r.flow == f && !r.acked) ||
    (!o.stopped && (o.pieces.any (fun p => p.dst == dst && pktVc o dst p.raddr == vc) || (o.sigs.contains dst && pktVc o dst 0 == vc)))
  let s2 := (s.xf.ops.filter hit).foldl (fun acc o => updOp (opStop acc o.id (limitSt o.word 13)) o.id (fun x => { x with coh := x.coh.filter (fun z => z.1 != f) })) s1
  mapReplay s2 (fun r => r.flow == f) (fun _ => none)

/-- A multicast entry is given up: unmarked and fenced leaves are undelivered (R286). -/
def leavesOf (g : Nat) : Nat := Config.groupLeaves g % 2 ^ 256
def giveUp (s : State) (r : Replay) : State :=
  let miss := popCount (leavesOf (r.flow / 16) - (leavesOf (r.flow / 16) &&& (r.leaves &&& (2 ^ 256 - 1 - r.fenced)))) 256
  updOp (mapReplay s (fun x => x == r) (fun _ => none)) r.op (fun o => { o with undeliv := Nat.max o.undeliv miss })

/-- The pallet of a replayed packet is still in force: leased and not demoted (R273). -/
def palletLive (s : State) (i : Nat) : Bool :=
  (unitOf s ukPallet i).en && s.get CIR_PALLET_PORTS.STATE i ≤ 1

/-- Sends a replay entry again with its payload (R271, R273, R565). -/
def resend (s : State) (h : Nat) (r : Replay) (d : List Byte) : State :=
  let s1 := mapReplay (s.incSat HOD_CNT.COUNT 3) (fun x => x.flow == r.flow && x.seq == r.seq) (fun x => some { x with tries := x.tries + 1, busy := false, last := some (now s) })
  let p0 := withFlag { r.pkt with pay := if r.reread then d else r.pkt.pay, kep := curEpoch s r.pkt.ten } flReplay
  let p := if hasFlag p0 flPal && !(palletLive s (palletOf p0)) then withFlag p0 flDemoted else p0
  let s0 := if h < 64 then s1.addPair .OBS_HOD_BYTES p.pay.length else s1
  let x := sealPkt s0 (if r.pkt.op = 0x21 && p.pay.length != 16 then 0x10 else p.op) p
  let s2 := enqueue x.1 x.2 (if h < 64 then 32 else 34) none none none none (some r.op)
  count s2 8 h 255 (some p.ten) (some p.tag) (4, h)

/-- REPLAY_TIMEOUT (R271, R272, R277, R286): entry of hod h with a flow and number. -/
def replayTimeout (s : State) (h f q : Nat) : State :=
  match (replayOf s h).find? (fun r => r.flow == f && r.seq == q) with
  | none => s
  | some r =>
    match r.last with
    | none => s
    | some t =>
      if r.busy || now s < t + 64 * Nat.max 1 (s.get HOD_XPORT_CFG.RTO) then s
      else if s.get HOD_XPORT_CFG.REPLAY_MAX + 1 ≤ r.tries then
        if bit f 3 then giveUp s r else breakFlow s f
      else
        let s1 := if bit f 3 then s
          else mapReplay s (fun x => x.flow == f && x.seq != q && (x.seq + 2 ^ 32 - q) % 2 ^ 32 < 2 ^ 31) (fun x => some { x with last := x.last.map (fun _ => now s) })
        if r.reread then
          match opById s1 r.op with
          | some o =>
            let s2 := mapReplay s1 (fun x => x.flow == f && x.seq == q) (fun x => some { x with busy := true })
            let b := readSpan o (offsetOf r.laddr) r.len
            (newTxn s2 (spaceOf r.laddr) .rd 2 b.1 b.2 [] (.replay h f q) [] [] none o.ten).1
          | none => mapReplay s1 (fun x => x == r) (fun _ => none)
        else resend s1 h r []

/-- The payload of a replay has been read; a refused read breaks the flow, with ACCESS for its operation (R725). -/
def replayRead (s : State) (h f q : Nat) (d : List Byte) (refused : Bool) : State :=
  match (replayOf s h).find? (fun r => r.flow == f && r.seq == q) with
  | none => s
  | some r =>
    if refused then
      let w := match opById s r.op with | some o => o.word | none => 0
      breakFlow (opStop s r.op (accessSt w (f / 16))) f
    else resend s h r d

/-! ### Fences, leases and resets (R506, R260, R279) -/

/-- Operations outstanding to a flat ID complete with FENCED; of a SCATTER or GATHER only its part to it ends (R506). -/
def fenceOps (s : State) (d : Nat) : State :=
  let s1 := mapReplay s (fun r => r.flow / 16 == d) (fun _ => none)
  (s.xf.ops.filter (fun o => o.kind != .bond && (o.dests.contains d || (o.kind == .copy && (o.pieces.any (fun p => p.dst == d) || (opEntries s o.id).any (fun r => r.flow / 16 == d)))))).foldl (fun acc o =>
    let many := match o.kind with | .scatter => true | .gather => true | _ => false
    if many then
      updOp (opAdd acc o.id ⟨3, d⟩) o.id (fun x => { x with pieces := x.pieces.filter (fun p => p.dst != d), off := if (x.pieces.head?.map (·.dst)) == some d then 0 else x.off, sigs := x.sigs.filter (fun z => z != d), coh := x.coh.filter (fun z => z.1 / 16 != d) })
    else opKill acc o.id ⟨3, d⟩) s1

/-- Operations of a hod complete with ABORTED as its lease changes (R260). -/
def abortHod (s : State) (h : Nat) : State :=
  let s1 := (s.xf.ops.filter (fun o => o.hod == h)).foldl (fun acc o => opKill acc o.id (abortedSt o.word)) s
  setReplay s1 h []

/-- Operations on a pallet complete with ABORTED as its lease changes (R513). -/
def abortPallet (s : State) (i : Nat) : State :=
  (s.xf.ops.filter (fun o => o.pal == some i)).foldl (fun acc o => opKill acc o.id (abortedSt o.word)) s

/-- HOD_FLOW_RESET takes effect for its peer (R279). -/
def flowReset (s : State) (d : Nat) : State :=
  let s1 := (s.xf.ops.filter (fun o => o.kind != .bond && (o.dests.contains d || (opEntries s o.id).any (fun r => r.flow / 16 == d)))).foldl (fun acc o => opKill acc o.id (abortedSt o.word)) s
  let s2 := mapReplay s1 (fun r => r.flow / 16 == d && !(bit r.flow 3)) (fun _ => none)
  { s2 with xf := { s2.xf with tx := s2.xf.tx.filter (fun (x : Nat × TxFlow) => x.1 / 16 != d || bit x.1 3), rx := s2.xf.rx.filter (fun (x : Nat × RxFlow) => 2 ^ 24 ≤ x.1 || x.1 / 16 != d), atomCache := s2.xf.atomCache.filter (fun z => z.1 / 16 != d), dones := s2.xf.dones.filter (fun z => z.1 / 16 != d) } }

end Sys2Proof.Machine
end

