-- ==== Sys2Proof/Machine/Reduce.lean ====
section
/-! DEFINITION. Reduction arithmetic (R399 to R417): block formats, exact addition, requantisation, the checksum, step data
payloads, and candidate records (R371). -/

namespace Sys2Proof.Machine

open Sys2Proof

/-! ### Formats -/

/-- Elements per block, bits per element, and value bytes per block of a format (Table - Block formats). -/
def blkE (fmt : Nat) : Nat := if fmt ≤ 1 then 32 else 16
def blkW (fmt : Nat) : Nat := match fmt with | 0 => 4 | 1 => 8 | 2 => 16 | _ => 32
def blkBytes (fmt : Nat) : Nat := blkE fmt * blkW fmt / 8

/-- Bytes per block with the exponent (Table - Bytes per block). -/
def blkBeta (fmt : Nat) (a64 : Bool) : Nat := (if a64 then 8 * blkE fmt else blkBytes fmt) + (if fmt = 3 then 0 else 1)

/-- Blocks of a full packet (R412, Table - Confidential packet limits). -/
def blkPerPkt (fmt : Nat) (a64 cf : Bool) : Nat := (if cf then 2008 else 2032) / blkBeta fmt a64

def blkZero (fmt : Nat) : Blk := ⟨List.replicate (blkE fmt) 0, 0, false⟩
def blkIsZero (b : Blk) : Bool := b.v.all (fun x => x == 0)

/-- n * 2^sh rounded to the nearest integer, ties to even. -/
def rhe (n sh : Int) : Int :=
  if 0 ≤ sh then n * 2 ^ sh.toNat
  else
    let d : Int := 2 ^ (-sh).toNat
    let q := n / d
    let r := n - q * d
    if 2 * r < d then q else if d < 2 * r then q + 1 else if q % 2 = 0 then q else q + 1

/-! ### Exact addition (R402 to R408) -/

def a64Top : Int := 2 ^ 62 - 1

/-- Sums aligned at exponent t. -/
def alignSum (a x : Blk) (t : Int) : List Int :=
  (a.v.zip x.v).map (fun (p : Int × Int) => rhe p.1 (a.e - t) + rhe p.2 (x.e - t))

/-- The exponent at which the aligned sums fit, from t up; none past 127. -/
def fitExp : Nat → Blk → Blk → Int → Option Int
  | 0, _, _, _ => none
  | f + 1, a, x, t =>
    if 127 < t then none
    else if (alignSum a x t).all (fun s => -a64Top ≤ s && s ≤ a64Top) then some t
    else fitExp f a x (t + 1)

/-- A combination: the block, whether bits were lost (R404), whether it saturated (R407), and the integer discards of the two
operands by element at their own exponents. -/
structure Comb where
  blk : Blk
  inexact : Bool
  sat : Bool
  lossA : List Int
  lossX : List Int
deriving DecidableEq, Repr

/-- What rounding at exponent t takes from an operand's elements, as integers at the operand's exponent. -/
def discard (b : Blk) (t : Int) : List Int :=
  if t ≤ b.e then b.v.map (fun _ => 0)
  else b.v.map (fun x => x - rhe x (b.e - t) * 2 ^ (t - b.e).toNat)

/-- combine(A, X) (R402, R403, R407). The marks of the operands pass to the result (R408). -/
def combine (a x : Blk) : Comb :=
  let mk := a.mark || x.mark
  if blkIsZero x then ⟨{ a with mark := mk }, false, false, [], []⟩
  else if blkIsZero a then ⟨{ x with mark := mk }, false, false, [], []⟩
  else
    match fitExp 512 a x (if a.e ≤ x.e then a.e else x.e) with
    | some t =>
      let la := discard a t
      let lx := discard x t
      let ie := (la ++ lx).any (fun d => d != 0)
      ⟨⟨alignSum a x t, t, mk || ie⟩, ie, false, la, lx⟩
    | none =>
      let lo := if a.e ≤ x.e then a.e else x.e
      let sum := (a.v.zip x.v).map (fun (p : Int × Int) => p.1 * 2 ^ (a.e - lo).toNat + p.2 * 2 ^ (x.e - lo).toNat)
      ⟨⟨sum.map (fun y => clampI (-a64Top) a64Top (rhe y (lo - 127))), 127, true⟩, true, true, [], []⟩

/-! ### Requantisation (R409 to R411) -/

def fitQuant : Nat → Blk → Int → Int → Int → Option (List Int × Int)
  | 0, _, _, _, _ => none
  | f + 1, b, m, hi, e =>
    let q := b.v.map (fun a => rhe (a * m) (b.e - e - 15))
    if q.all (fun x => -hi - 1 ≤ x && x ≤ hi) then some (q, e) else fitQuant f b m hi (e + 1)

/-- The native block of an A64 block under a multiplier, and whether it saturated. -/
def requant (fmt : Nat) (m : Nat) (b : Blk) : Blk × Bool :=
  let mi : Int := m
  let hi : Int := 2 ^ (blkW fmt - 1) - 1
  if fmt = 3 then
    let q := b.v.map (fun a => rhe (a * mi) (-15))
    let c := q.map (clampI (-hi - 1) hi)
    let sat := q != c
    (⟨c, 0, b.mark || sat⟩, sat)
  else if blkIsZero b then (⟨b.v, -128, b.mark⟩, false)
  else
    match fitQuant 256 b mi hi (-128) with
    | some (q, e) => (⟨q, e, b.mark⟩, false)
    | none => (⟨b.v.map (fun a => clampI (-hi - 1) hi (rhe (a * mi) (b.e - 142))), 127, true⟩, true)

/-! ### The checksum (R414, R416) -/

def p61 : Nat := 2 ^ 61 - 1

/-- b^n modulo p61 by squaring; 64 rounds cover every exponent used. -/
def powMod61 : Nat → Nat → Nat → Nat
  | 0, _, _ => 1
  | f + 1, b, n => if n = 0 then 1 else
      let h := powMod61 f (b * b % p61) (n / 2)
      if n % 2 = 1 then h * b % p61 else h

def weight61 (i : Nat) : Nat := powMod61 64 3 i

/-- The image of x * 2^e. -/
def image61 (x e : Int) : Nat := ((x * (2 ^ (e % 61).toNat : Nat)) % (p61 : Int)).toNat

/-- Weighted images of integers at one exponent, from element i on. -/
def sum61 : Nat → Int → List Int → Nat
  | _, _, [] => 0
  | i, e, x :: r => (weight61 i * image61 x e + sum61 (i + 1) e r) % p61

/-- The checksum of a block range that begins at block b0 (R414). -/
def check61 (fmt : Nat) : Nat → List Blk → Nat
  | _, [] => 0
  | b, x :: r => (sum61 (b * blkE fmt) (if fmt = 3 then 0 else x.e) x.v + check61 fmt (b + 1) r) % p61

/-- The loss term of one combination of block b (R416). -/
def loss61 (fmt b : Nat) (a x : Blk) (c : Comb) : Nat :=
  if c.sat then
    -- the exact sum less the saturated value
    (sum61 (b * blkE fmt) a.e a.v + sum61 (b * blkE fmt) x.e x.v + p61 - sum61 (b * blkE fmt) c.blk.e c.blk.v) % p61
  else (sum61 (b * blkE fmt) a.e c.lossA + sum61 (b * blkE fmt) x.e c.lossX) % p61

/-- The checksum of candidate records from word j on (R414). -/
def recs61 : Nat → List Nat → Nat
  | _, [] => 0
  | j, w :: r => (weight61 j * (w % p61) + recs61 (j + 1) r) % p61

/-! ### Blocks as bytes (R400, R412) -/

def valBytes (fmt : Nat) (a64 : Bool) (b : Blk) : List Byte :=
  if a64 then (b.v.map (fun x => leBytes 8 (unsgn 64 x))).flatten
  else if fmt = 0 then
    (List.range 16).map (fun j => BitVec.ofNat 8 (unsgn 4 (b.v.getD (2 * j) 0) + 16 * unsgn 4 (b.v.getD (2 * j + 1) 0)))
  else (b.v.map (fun x => leBytes (blkW fmt / 8) (unsgn (blkW fmt) x))).flatten

def expByteOf (b : Blk) : Byte := BitVec.ofNat 8 (unsgn 8 b.e)

/-- Block k of value bytes and exponent bytes. -/
def blkAt (fmt : Nat) (a64 : Bool) (vals exps : List Byte) (mark : Bool) (k : Nat) : Blk :=
  let n := if a64 then 8 * blkE fmt else blkBytes fmt
  let d := (vals.drop (n * k)).take n
  let v : List Int :=
    if a64 then (List.range (blkE fmt)).map (fun j => sgn 64 (leAt d (8 * j) 8))
    else if fmt = 0 then (List.range 32).map (fun j => sgn 4 ((d.getD (j / 2) 0).toNat / 16 ^ (j % 2)))
    else (List.range (blkE fmt)).map (fun j => sgn (blkW fmt) (leAt d (blkW fmt / 8 * j) (blkW fmt / 8)))
  ⟨v, if fmt = 3 then 0 else sgn 8 ((exps.getD k 0).toNat), mark⟩

def blksOf (fmt : Nat) (a64 : Bool) (vals exps : List Byte) (mark : Bool) (n : Nat) : List Blk :=
  (List.range n).map (blkAt fmt a64 vals exps mark)

def padTo8 (l : List Byte) : List Byte := l ++ List.replicate ((8 - l.length % 8) % 8) 0

/-- The trailer (Table - Step data trailer). -/
def trailer (check mult fmt : Nat) (a64 multEn mark recs : Bool) (n : Nat) : List Byte :=
  leBytes 8 check ++ leBytes 2 mult ++
  [BitVec.ofNat 8 (fmt + 16 * b2n a64 + 32 * b2n multEn + 64 * b2n mark + 128 * b2n recs), BitVec.ofNat 8 n, 0, 0, 0, 0]

/-- The payload of a step data packet of blocks that begins at block b0 (R412). -/
def stepPay (fmt : Nat) (a64 : Bool) (mult : Nat) (multEn : Bool) (b0 : Nat) (l : List Blk) : List Byte :=
  padTo8 ((l.map (valBytes fmt a64)).flatten ++ (if fmt = 3 then [] else l.map expByteOf)) ++
  trailer (check61 fmt b0 l) mult fmt a64 multEn (l.any (·.mark)) false l.length

/-! ### Candidate records (R371) -/

def candBytes (c : Cand) : List Byte :=
  leBytes 4 c.idx ++ [BitVec.ofNat 8 (unsgn 8 c.e), 0, 0, 0] ++ leBytes 8 (unsgn 64 c.v)

def candNone : List Byte := leBytes 4 0xFFFFFFFF ++ leBytes 12 0

def candOf (b : List Byte) (k : Nat) : Cand := ⟨leAt b (16 * k) 4, sgn 8 (leAt b (16 * k + 4) 1), sgn 64 (leAt b (16 * k + 8) 8)⟩

/-- a comes before b: larger exact value, then smaller index. -/
def candBefore (a b : Cand) : Bool :=
  let lo := if a.e ≤ b.e then a.e else b.e
  let x := a.v * 2 ^ (a.e - lo).toNat
  let y := b.v * 2 ^ (b.e - lo).toNat
  if x = y then a.idx < b.idx else y < x

def candIns (c : Cand) : List Cand → List Cand
  | [] => [c]
  | d :: r => if candBefore c d then c :: d :: r else d :: candIns c r

/-- The k largest of two lists. -/
def candMerge (k : Nat) (a b : List Cand) : List Cand := ((a ++ b).foldl (fun acc c => candIns c acc) []).take k

/-- The payload of a packet of records that begins at record j (R412). -/
def recPay (fmt mult : Nat) (multEn : Bool) (j : Nat) (l : List Cand) : List Byte :=
  let d := (l.map candBytes).flatten
  let w := (List.range (2 * l.length)).map (fun k => leAt d (8 * k) 8)
  d ++ trailer (recs61 (2 * j) w) mult fmt false multEn false true l.length

end Sys2Proof.Machine
end

