-- ==== Sys2Proof/Machine/Kiln.lean ====
section
/-! DEFINITION. The kiln (R418 to R434): instruction words, their effect on a lane, program checks and costs, bound operations,
units, the drain, and output. -/

namespace Sys2Proof.Machine

open Sys2Proof

/-! ### Instruction words (R427, R428) -/

def kOp (w : W64) : Nat := bits w.toNat 58 6
def kFields (w : W64) : KFields :=
  ⟨bits w.toNat 55 3, bits w.toNat 52 3, bits w.toNat 48 4, bits w.toNat 44 4, bits w.toNat 40 4, bits w.toNat 32 8, bits w.toNat 0 32⟩

/-- How an operation uses its fields: the greatest W, whether M is used, the kinds of VD, VA and VB (0 unused, 1 vector, 2 mask),
the rule of AUX (0 unused, 1 shift count, 2 half, 3 mask index, 4 count, 5 group size, 6 parameter offset) and of IMM (0 unused, 1 any,
2 byte count), and the cost. -/
structure KUse where
  w : Nat
  m : Bool
  vd : Nat
  va : Nat
  vb : Nat
  aux : Nat
  imm : Nat
  cost : Nat
deriving DecidableEq, Repr

/-- Table - Kiln operations; none for a reserved OP. -/
def kUse (op : Nat) : Option KUse :=
  match op with
  | 0x00 => some ⟨0, false, 0, 0, 0, 0, 0, 0⟩
  | 0x01 => some ⟨0, false, 0, 0, 0, 0, 0, 1⟩
  | 0x02 => some ⟨3, true, 1, 0, 0, 0, 1, 1⟩
  | 0x03 => some ⟨3, true, 1, 0, 0, 6, 0, 1⟩
  | 0x04 => some ⟨3, true, 1, 0, 0, 0, 1, 1⟩
  | 0x05 => some ⟨3, true, 1, 1, 0, 0, 0, 1⟩
  | 0x08 => some ⟨3, true, 1, 1, 1, 0, 0, 1⟩
  | 0x09 => some ⟨3, true, 1, 1, 1, 0, 0, 1⟩
  | 0x0A => some ⟨3, true, 1, 1, 1, 0, 0, 1⟩
  | 0x0B => some ⟨3, true, 1, 1, 1, 0, 0, 1⟩
  | 0x0C => some ⟨3, true, 1, 1, 1, 0, 0, 2⟩
  | 0x0D => some ⟨3, true, 1, 1, 1, 0, 0, 2⟩
  | 0x0E => some ⟨3, true, 1, 1, 1, 0, 0, 1⟩
  | 0x0F => some ⟨3, true, 1, 1, 1, 0, 0, 1⟩
  | 0x10 => some ⟨3, true, 1, 1, 1, 0, 0, 1⟩
  | 0x11 => some ⟨3, true, 1, 1, 1, 0, 0, 1⟩
  | 0x12 => some ⟨3, true, 1, 1, 1, 0, 0, 1⟩
  | 0x13 => some ⟨3, true, 1, 1, 1, 0, 0, 1⟩
  | 0x14 => some ⟨3, true, 1, 1, 0, 1, 0, 1⟩
  | 0x15 => some ⟨3, true, 1, 1, 0, 1, 0, 1⟩
  | 0x16 => some ⟨3, true, 1, 1, 0, 1, 0, 1⟩
  | 0x17 => some ⟨3, true, 1, 1, 1, 0, 0, 1⟩
  | 0x18 => some ⟨3, true, 1, 1, 1, 0, 0, 1⟩
  | 0x19 => some ⟨3, true, 1, 1, 0, 1, 0, 1⟩
  | 0x1A => some ⟨3, true, 1, 1, 1, 0, 0, 1⟩
  | 0x1B => some ⟨3, true, 1, 1, 1, 3, 0, 1⟩
  | 0x1C => some ⟨2, true, 1, 1, 0, 2, 0, 2⟩
  | 0x1D => some ⟨2, true, 1, 1, 0, 2, 0, 2⟩
  | 0x1E => some ⟨0, true, 1, 1, 0, 2, 0, 1⟩
  | 0x1F => some ⟨0, true, 1, 1, 0, 2, 0, 1⟩
  | 0x20 => some ⟨3, true, 1, 1, 0, 4, 0, 1⟩
  | 0x21 => some ⟨3, true, 1, 1, 1, 0, 0, 2⟩
  | 0x22 => some ⟨3, true, 1, 1, 0, 5, 0, 2⟩
  | 0x23 => some ⟨3, true, 1, 1, 0, 5, 0, 2⟩
  | 0x28 => some ⟨3, true, 2, 1, 1, 0, 0, 1⟩
  | 0x29 => some ⟨3, true, 2, 1, 1, 0, 0, 1⟩
  | 0x2A => some ⟨3, true, 2, 1, 1, 0, 0, 1⟩
  | 0x2B => some ⟨3, true, 2, 1, 1, 0, 0, 1⟩
  | 0x2C => some ⟨3, true, 2, 2, 2, 0, 0, 1⟩
  | 0x2D => some ⟨3, true, 2, 2, 2, 0, 0, 1⟩
  | 0x2E => some ⟨3, true, 2, 2, 0, 0, 0, 1⟩
  | 0x2F => some ⟨3, true, 2, 1, 0, 4, 1, 4⟩
  | 0x30 => some ⟨0, false, 0, 1, 0, 0, 2, 1⟩
  | 0x31 => some ⟨3, true, 0, 1, 0, 0, 0, 2⟩
  | 0x32 => some ⟨3, true, 0, 1, 0, 0, 1, 2⟩
  | 0x33 => some ⟨0, false, 0, 1, 0, 0, 0, 2⟩
  | 0x34 => some ⟨3, true, 1, 0, 0, 0, 0, 2⟩
  | _ => none

def kFieldBad (kind v : Nat) : Bool := match kind with | 0 => v != 0 | 2 => 8 ≤ v | _ => false

def kAuxBad (rule w a : Nat) : Bool :=
  match rule with
  | 0 => a != 0
  | 1 => 64 ≤ a
  | 2 => 2 ≤ a
  | 3 => 8 ≤ a
  | 4 => a == 0
  | 5 => !([1, 2, 4, 8, 16, 32, 64, 128].contains a)
  | _ => a % 2 ^ w != 0 || 64 < a + 2 ^ w

def kImmBad (rule i : Nat) : Bool := match rule with | 0 => i != 0 | 1 => false | _ => i == 0 || 256 < i

/-- The check of one word at KILN.LOAD: none where it passes, else the BAD_COMMAND reason. -/
def kWordBad (w : W64) : Option Nat :=
  match kUse (kOp w) with
  | none => some 3
  | some u =>
    let f := kFields w
    if u.w < f.w || (!u.m && f.m != 0) || kFieldBad u.vd f.vd || kFieldBad u.va f.va || kFieldBad u.vb f.vb ||
        kAuxBad u.aux f.w f.aux || kImmBad u.imm f.imm then some 2
    else none

/-- The body and the rest after its END. -/
def kSplit : List W64 → Option (List W64 × List W64)
  | [] => none
  | w :: r => if kOp w = 0 then some ([], r) else (kSplit r).map (fun p => (w :: p.1, p.2))

/-- The body and the drain of a program (R424). -/
def kBody (p : List W64) : List W64 := ((kSplit p).map (·.1)).getD []
def kDrain (p : List W64) : List W64 :=
  match kSplit p with
  | some (_, r) => ((kSplit r).map (·.1)).getD []
  | none => []

/-- The checks of KILN.LOAD over a whole program (R428). -/
def kProgBad (p : List W64) : Option Nat :=
  match p.findSome? kWordBad with
  | some r => some r
  | none =>
    match kSplit p with
    | none => some 2
    | some (_, r) =>
      match kSplit r with
      | some (_, z) => if z.any (fun w => w != 0) then some 2 else none
      | none => if r.isEmpty then none else some 2

/-- The cost of a body (R430). -/
def kCost (p : List W64) : Nat :=
  Nat.max 1 (((kBody p).map (fun w => ((kUse (kOp w)).map (·.cost)).getD 0)).foldl (· + ·) 0)

def kIsOut (op : Nat) : Bool := op == 0x30 || op == 0x31 || op == 0x32 || op == 0x33

/-- In place: no output instruction (R425). -/
def kInplace (p : List W64) : Bool := !(p.any (fun w => kIsOut (kOp w)))
def kEmitkOnly (p : List W64) : Bool := p.any (fun w => kOp w == 0x32) && p.all (fun w => !(kIsOut (kOp w)) || kOp w == 0x32)

/-! ### Elements -/

def elBits (w : Nat) : Nat := 8 * 2 ^ w
def elCount (w : Nat) : Nat := 256 / 2 ^ w
def kEl (r : BitVec 2048) (w j : Nat) : Nat := bits r.toNat (elBits w * j) (elBits w)
def kElS (r : BitVec 2048) (w j : Nat) : Int := sgn (elBits w) (kEl r w j)
def kPack (bw : Nat) (l : List Nat) : Nat := l.foldr (fun x acc => x % 2 ^ bw + 2 ^ bw * acc) 0
def kNib (r : BitVec 2048) (j : Nat) : Nat := bits r.toNat (4 * j) 4

def vecOf (d : List Byte) : BitVec 2048 := BitVec.ofNat 2048 (ofLe d)
def vecBytes (r : BitVec 2048) (n : Nat) : List Byte := leBytes n r.toNat

/-- Writes the elements that the mask selects. -/
def kWrite (old : BitVec 2048) (w mask : Nat) (f : Nat → Nat) : BitVec 2048 :=
  BitVec.ofNat 2048 (kPack (elBits w) ((List.range (elCount w)).map (fun j => if mask.testBit j then f j else kEl old w j)))

/-- A mask result: 0 where the governing mask does not select. -/
def kMask (w mask : Nat) (f : Nat → Bool) : Nat :=
  kPack 1 ((List.range (elCount w)).map (fun j => b2n (mask.testBit j && f j)))

/-! ### Lanes (R422) -/

def KUnit.none : KUnit := ⟨0, 0, [], [], 0⟩
def Lane.zero : Lane := ⟨[], [], 0, KUnit.none, 0, false, [], Option.none, 0, 0⟩

def laneOf (s : State) (i : Nat) : Lane := tabGet Lane.zero i s.kiln.lanes
def setLane (s : State) (i : Nat) (l : Lane) : State := { s with kiln := { s.kiln with lanes := tabSet Lane.zero i l s.kiln.lanes } }

def lv (l : Lane) (i : Nat) : BitVec 2048 := tabGet 0 i l.v
def lk (l : Lane) (i : Nat) : Nat := if i % 8 = 0 then 2 ^ 256 - 1 else tabGet 0 (i % 8) l.k
def setLv (l : Lane) (i : Nat) (v : BitVec 2048) : Lane := { l with v := tabSet 0 i v l.v }
def setLk (l : Lane) (i m : Nat) : Lane := if i % 8 = 0 then l else { l with k := tabSet 0 (i % 8) m l.k }

/-- What an instruction reads besides registers: the parameter block, the unit, and E (0 in a transfer). -/
structure KEnv where
  param : BitVec 512
  n0 : Nat
  u : Nat
  esz : Nat
deriving DecidableEq, Repr

def kIbase (e : KEnv) : Nat := bits e.param.toNat 0 32

/-- The exponent of element i of the unit (TOPM, EMITK). -/
def kExp (e : KEnv) (l : Lane) (i : Nat) : Int :=
  if e.esz = 0 then 0
  else
    let b := i / e.esz
    if b < 256 then sgn 8 (kEl (lv l 1) 0 b) else Config.expByte b

/-- Shift count of element j by a vector: the low 6 bits, modulo the width. -/
def kSh (r : BitVec 2048) (w j : Nat) : Nat := kEl r w j % 64 % elBits w

def kSat (bw : Nat) (x : Int) : Nat := unsgn bw (clampI (-(2 ^ (bw - 1))) (2 ^ (bw - 1) - 1) x)

/-- The value that an instruction writes to element j of a vector of width W, for operations whose result has the width of
their operands. -/
def kElem (op : Nat) (f : KFields) (e : KEnv) (l : Lane) (j : Nat) : Nat :=
  let w := f.w
  let bw := elBits w
  let va := lv l f.va
  let vb := lv l f.vb
  let a := kEl va w j
  let b := kEl vb w j
  let sa := kElS va w j
  let sb := kElS vb w j
  let sh := f.aux % 64 % bw
  let grp := (List.range f.aux).filterMap (fun k => let i := j / f.aux * f.aux + k; if i < elCount w then some (kElS va w i) else none)
  match op with
  | 0x02 => unsgn bw (sgn 32 f.imm)
  | 0x03 => bits e.param.toNat (8 * f.aux) bw
  | 0x04 => (kIbase e + e.n0 + j + f.imm) % 2 ^ bw
  | 0x05 => a
  | 0x08 => (a + b) % 2 ^ bw
  | 0x09 => unsgn bw (sa - sb)
  | 0x0A => kSat bw (sa + sb)
  | 0x0B => kSat bw (sa - sb)
  | 0x0C => (a * b) % 2 ^ bw
  | 0x0D => unsgn bw (sa * sb / 2 ^ bw)
  | 0x0E => if sa ≤ sb then a else b
  | 0x0F => if sa ≤ sb then b else a
  | 0x10 => a &&& b
  | 0x11 => a ||| b
  | 0x12 => a ^^^ b
  | 0x13 => a &&& (2 ^ bw - 1 - b)
  | 0x14 => a * 2 ^ sh % 2 ^ bw
  | 0x15 => unsgn bw (sa / 2 ^ sh)
  | 0x16 => a / 2 ^ sh
  | 0x17 => a * 2 ^ kSh vb w j % 2 ^ bw
  | 0x18 => unsgn bw (sa / 2 ^ kSh vb w j)
  | 0x19 => unsgn bw (rhe sa (-(sh : Int)))
  | 0x1A => unsgn bw (rhe sa (-(kSh vb w j : Int)))
  | 0x1B => if (lk l f.aux).testBit j then a else b
  | 0x20 => unsgn bw (sgn 8 (kEl va 0 (j / f.aux)))
  | 0x21 => kEl va w (b % elCount w)
  | 0x22 => unsgn bw (grp.foldl (fun m x => if m < x then x else m) (grp.headD 0))
  | 0x23 => unsgn bw (grp.foldl (· + ·) 0)
  | _ => kEl (lv l f.vd) w j

/-- The bit that a comparison or mask operation gives element j. -/
def kBit (op : Nat) (f : KFields) (l : Lane) (j : Nat) : Bool :=
  let va := lv l f.va
  let vb := lv l f.vb
  match op with
  | 0x28 => kEl va f.w j == kEl vb f.w j
  | 0x29 => kElS va f.w j < kElS vb f.w j
  | 0x2A => kElS va f.w j ≤ kElS vb f.w j
  | 0x2B => kEl va f.w j < kEl vb f.w j
  | 0x2C => (lk l f.va).testBit j && (lk l f.vb).testBit j
  | 0x2D => (lk l f.va).testBit j || (lk l f.vb).testBit j
  | _ => !((lk l f.va).testBit j)

/-- Elements selected by a mask, as candidates by exact value. -/
def kCands (f : KFields) (e : KEnv) (l : Lane) (idx : Nat → Nat) : List Cand :=
  (List.range (elCount f.w)).filterMap (fun j =>
    if (lk l f.m).testBit j then some ⟨idx j, kExp e l (j + f.imm), kElS (lv l f.va) f.w j⟩ else none)

/-- One kiln instruction on a lane, END and LDS aside (Table - Kiln operations). -/
def kExec (op : Nat) (f : KFields) (e : KEnv) (l : Lane) : Lane :=
  let w := f.w
  let m := lk l f.m
  let vd := lv l f.vd
  let va := lv l f.va
  match op with
  | 0x00 => l
  | 0x01 => l
  | 0x1C => setLv l f.vd (kWrite vd (w + 1) m (fun j => unsgn (elBits (w + 1)) (kElS va w (f.aux % 2 * elCount (w + 1) + j))))
  | 0x1D =>
    let h := elCount (w + 1)
    setLv l f.vd (kWrite vd w m (fun j => if j / h = f.aux % 2 then kSat (elBits w) (kElS va (w + 1) (j % h)) else kEl vd w j))
  | 0x1E => setLv l f.vd (kWrite vd 0 m (fun j => unsgn 8 (sgn 4 (kNib va (256 * (f.aux % 2) + j)))))
  | 0x1F =>
    setLv l f.vd (BitVec.ofNat 2048 (kPack 4 ((List.range 512).map (fun i =>
      if i / 256 = f.aux % 2 && m.testBit (i % 256) then kSat 4 (kElS va 0 (i % 256)) else kNib vd i))))
  | 0x2F =>
    let top := candMerge f.aux (kCands f e l id) []
    setLk l f.vd (kMask w m (fun j => top.any (fun c => c.idx == j)))
  | 0x30 => { l with out := l.out ++ vecBytes va f.imm }
  | 0x31 => { l with out := l.out ++ ((List.range (elCount w)).map (fun j => if m.testBit j then leBytes (2 ^ w) (kEl va w j) else [])).flatten }
  | 0x32 => { l with out := l.out ++ ((kCands f e l (fun j => (kIbase e + e.n0 + j + f.imm) % 2 ^ 32)).map candBytes).flatten }
  | 0x33 =>
    let nz := (List.range 256).filter (fun j => kEl va 0 j != 0)
    { l with out := l.out ++ leBytes 32 (kPack 1 ((List.range 256).map (fun j => b2n (kEl va 0 j != 0)))) ++ nz.map (fun j => BitVec.ofNat 8 (kEl va 0 j)) }
  | _ =>
    if 0x28 ≤ op && op ≤ 0x2E then setLk l f.vd (kMask w m (kBit op f l))
    else setLv l f.vd (kWrite vd w m (kElem op f e l))

/-! ### Bound operations (R423, R431, R433) -/

def jobById (s : State) (id : Nat) : Option KJob := s.kiln.jobs.find? (fun j => j.id == id)
def updJob (s : State) (id : Nat) (f : KJob → KJob) : State :=
  { s with kiln := { s.kiln with jobs := s.kiln.jobs.map (fun j => if j.id == id then f j else j) } }

def jobFor (s : State) (mode key : Nat) : Option KJob := s.kiln.jobs.find? (fun j => j.mode == mode && j.key == key && !j.last)

/-- KLN_SLOT_STATUS.BOUND of a slot (R430). -/
def kilnBound (s : State) (slot : Nat) : State :=
  s.put KLN_SLOT_STATUS.BOUND (s.kiln.jobs.filter (fun j => j.slot == slot)).length slot

def clusterLoad (s : State) (c : Nat) : Nat := (s.kiln.jobs.filter (fun j => j.cluster == some c)).length

/-- Binds an operation to the cluster with the fewest (R431). -/
def bindJob (s : State) (id : Nat) : State :=
  let best := (List.range 20).foldl (fun b c => Nat.min b (clusterLoad s c)) 16
  if 16 ≤ best then s
  else
    match arbPick s 20 ((List.range 20).filter (fun c => clusterLoad s c == best)) with
    | none => s
    | some c =>
      let used := s.kiln.jobs.filterMap (fun j => if j.cluster == some c then some j.pos else none)
      updJob s id (fun j => { j with cluster := some c, pos := ((List.range 16).find? (fun p => !(used.contains p))).getD 0 })

def bindJobs (s : State) : State :=
  s.kiln.jobs.foldl (fun acc j => if j.cluster.isNone then bindJob acc j.id else acc) s

/-- A new bound operation under the program and parameters in force. -/
def newJob (s : State) (mode key slot ten tag width esz out outmax : Nat) : State × Nat :=
  let id := s.kiln.nextJob
  let j : KJob := ⟨id, mode, key, none, 0, slot, ten, tag, width, esz, tabGet [] slot s.kiln.prog, tabGet 0 slot s.kiln.param, [], 0, 0, [], 0, false, [], 0, out, 0, outmax, false, [], 0, none, false, [], 0⟩
  (kilnBound (bindJob { s with kiln := { s.kiln with jobs := s.kiln.jobs ++ [j], nextJob := id + 1 } } id) slot, id)

/-- IW and ZIN of a parameter block (R421). -/
def parIw (p : BitVec 512) : Nat := bits p.toNat 40 8 % 4
def parZin (p : BitVec 512) : Bool := bit p.toNat 32

/-- A parameter block with a reserved field set (R421). -/
def parBad (p : BitVec 512) : Bool := bits p.toNat 33 7 != 0 || 4 ≤ bits p.toNat 40 8 || bits p.toNat 48 16 != 0

/-- A PACKZ record: its length and its 256 bytes, where it is whole. -/
def zinRec (b : List Byte) : Option (Nat × List Byte) :=
  if b.length < 32 then none
  else
    let m := leAt b 0 32
    let n := ((List.range 256).filter (fun j => m.testBit j)).length
    if b.length < 32 + n then none
    else
      let r := (List.range 256).foldl (fun (acc : List Byte × List Byte) j =>
        if m.testBit j then (acc.1 ++ [acc.2.headD 0], acc.2.drop 1) else (acc.1 ++ [0], acc.2)) ([], b.drop 32)
      some (32 + n, r.1)

/-- Puts one unit in the queue (R419, R422). -/
def pushUnit (j : KJob) (d ex : List Byte) : KJob :=
  { j with queue := j.queue ++ [⟨j.nextU, j.elems, d, ex, j.bufSeq⟩], nextU := j.nextU + 1, elems := j.elems + d.length / 2 ^ j.width }

/-- Cuts input into units while the queue has room (R419, R421, R429, R433). -/
def cutUnits : Nat → KJob → KJob
  | 0, j => j
  | n + 1, j =>
    if 32 ≤ j.queue.length || j.stat.isSome then j
    else if parZin j.param then
      match zinRec j.buf with
      | some (k, d) => cutUnits n (pushUnit { j with buf := j.buf.drop k } d [])
      | none => if j.last && !j.buf.isEmpty then { j with stat := some (badCmd 0 2), buf := [] } else j
    else if 256 ≤ j.buf.length || (j.last && !j.buf.isEmpty) then
      cutUnits n (pushUnit { j with buf := j.buf.drop 256 } (j.buf.take 256) [])
    else j

/-- Gives an operation input bytes of a packet. -/
def feedJob (s : State) (id seq : Nat) (d : List Byte) (last : Bool) : State :=
  updJob s id (fun j => cutUnits 64 { j with buf := j.buf ++ d, bufSeq := seq, last := j.last || last, fed := j.fed + d.length })

/-- The operation has a full unit that its queue could not take, or is not bound: its input is held (R431, R433). -/
def jobHolds (j : KJob) : Bool :=
  j.stat.isNone && (j.cluster.isNone || 32 ≤ j.queue.length || (!(parZin j.param) && 256 ≤ j.buf.length))

/-- Lanes that run a unit or the drain of the operation. -/
def jobLanes (s : State) (id : Nat) : Nat := (s.kiln.lanes.filter (fun (x : Nat × Lane) => x.2.job == id)).length

/-- All input has been given and no unit is left. -/
def jobInDone (s : State) (j : KJob) : Bool := j.last && j.buf.isEmpty && j.queue.isEmpty && j.early.isEmpty && jobLanes s j.id == 0

/-- The operation has ended on the kiln: every unit and the drain have run, and its output has been written. -/
def jobFinished (s : State) (j : KJob) : Bool :=
  jobLanes s j.id == 0 && (j.stat.isSome || (jobInDone s j && (j.mode ≥ 2 || j.outs.isEmpty) && ((kDrain j.prog).isEmpty || j.drain == 8 || j.nextU == 0)))

/-- Numbers of a flow's packets whose output is not written yet. -/
def jobSeqs (s : State) (flow : Nat) : List Nat :=
  ((s.kiln.jobs.filter (fun j => j.mode == 0 && j.key / 64 == flow)).map (fun j =>
    j.queue.map (·.seq) ++ j.outs.map (·.seq) ++ (if j.buf.isEmpty && !j.last then [] else [j.bufSeq]) ++
    s.kiln.lanes.filterMap (fun (x : Nat × Lane) => if x.2.job == j.id then some x.2.unit.seq else none))).flatten

/-! ### Output (R419, R238) -/

/-- Writes a run of output at the operation's output address. -/
def kilnWrite (s : State) (j : KJob) (d : List Byte) (seq : Nat) : State :=
  let room := j.outmax - j.wrote
  let n := Nat.min room d.length
  let a := j.out + j.wrote
  let s1 := if room < d.length && !j.overrun then
      updJob (s.inc KLN_OUTMAX_CNT.COUNT) j.id (fun x => { x with overrun := true }) else s
  if n = 0 then s1
  else if 2 ≤ spaceOf a || !(inSpace (spaceOf a) (offsetOf a) n) || !(winOk s j.ten (spaceOf a) (offsetOf a) n 1 (j.mode == 0)) ||
      (spaceOf a == 1 && spwProtected s (offsetOf a) n) then
    updJob s1 j.id (fun x => { x with stat := some (accessSt 0 0xFFFF) })
  else
    let s2 := updJob s1 j.id (fun x => { x with wrote := x.wrote + n })
    if j.mode = 0 then
      (newTxn s2 (spaceOf a) .wr 0 (offsetOf a) n (d.take n) (.pktWr (j.key / 64) seq) [] [] none j.ten).1
    else
      let c := (opById s2 j.key).map (·.ctx)
      (newTxn (updOp s2 j.key (fun o => { o with bytes := o.bytes + n })) (spaceOf a) .wr 2 (offsetOf a) n (d.take n) (.local j.key) [] [] c j.ten).1

/-- Writes output that is next in unit order. Contributions and result ranges are left to the bond engine. -/
def flushJob : Nat → State → Nat → State
  | 0, s, _ => s
  | n + 1, s, id =>
    match jobById s id with
    | none => s
    | some j =>
      if 2 ≤ j.mode || j.stat.isSome then s
      else
        match j.outs.find? (fun o => o.u == j.nextOut) with
        | none => s
        | some o =>
          flushJob n (kilnWrite (updJob s id (fun x => { x with outs := x.outs.filter (fun y => y.u != o.u), nextOut := x.nextOut + 1 })) j o.data o.seq) id

/-! ### Running (R422 to R430) -/

/-- The registers v12 to v15, which a lane keeps from one unit of an operation to the next (R422). -/
def keepV (g : Nat → BitVec 2048) : Tab (BitVec 2048) := [12, 13, 14, 15].foldl (fun t k => tabSet 0 k (g k) t) []

/-- The registers of a lane at the start of a unit (R422). -/
def laneStart (j : KJob) (ln : Nat) (u : KUnit) : Lane :=
  let n := Nat.min (elCount j.width) (u.data.length / 2 ^ j.width)
  let c := keepV (fun k => tabGet 0 k (tabGet [] ln j.carry))
  { Lane.zero with v := tabSet 0 0 (vecOf u.data) (tabSet 0 1 (vecOf u.exps) c), k := tabSet 0 7 (2 ^ n - 1) [], job := j.id, unit := u }

/-- The registers of a lane at the start of the drain (R424). N_u is the number of all elements; u is not stated (LDS). (DESIGN CHOICE, log 126) -/
def laneDrain (s : State) (j : KJob) (ln : Nat) : Lane × State :=
  let r := drawFree s
  ({ Lane.zero with v := keepV (fun k => tabGet 0 k (tabGet [] ln j.carry)), job := j.id, unit := ⟨r.1, j.elems, [], [], j.bufSeq⟩, drain := true }, r.2)

def laneEnv (s : State) (l : Lane) : KEnv :=
  match jobById s l.job with
  | some j => ⟨j.param, l.unit.n0, l.unit.u, j.esz⟩
  | none => ⟨0, 0, 0, 0⟩

/-- The unit or drain of a lane has ended: its output takes its place (R425), v12 to v15 are kept, and the lane rests for the
cost of the body. -/
def laneEnd (s : State) (i : Nat) : State :=
  let l := laneOf s i
  match jobById s l.job with
  | none => setLane s i { l with job := 0, out := [], wait := none }
  | some j =>
    let ip := kInplace j.prog
    let d := if l.drain then l.out else if ip then vecBytes (lv l 0) l.unit.data.length else l.out
    let ex := if ip then vecBytes (lv l 1) l.unit.exps.length else []
    let s1 := setLane s i { l with job := 0, out := [], wait := none, free := s.clk.cclk + (if l.drain then 0 else kCost j.prog) }
    if l.drain then
      let s2 := updJob s1 j.id (fun x => { x with drain := x.drain + 1, outs := if 2 ≤ x.mode then x.outs ++ [⟨x.nextU + x.drain, x.elems, d, [], 0⟩] else x.outs })
      if 2 ≤ j.mode then s2 else kilnWrite s2 j d l.unit.seq
    else
      let s2 := updJob s1 j.id (fun x => cutUnits 64 { x with outs := x.outs ++ [⟨l.unit.u, l.unit.n0, d, ex, l.unit.seq⟩], carry := tabSet [] (i % 8) (keepV (lv l)) x.carry })
      flushJob 64 (count (s2.inc KLN_UNIT_CNT.COUNT) 0x0B (i / 8) 255 (some j.ten) (some j.tag) (2, j.slot)) j.id

/-- An operation fails at a lane: nothing more of it runs. -/
def jobFail (s : State) (i id : Nat) (st : Stat) : State :=
  setLane (updJob s id (fun x => { x with stat := some st, queue := [], buf := [] })) i { laneOf s i with job := 0, out := [], wait := none }

/-- Side-input address of a unit, where the windows allow it (R429). -/
def ldsAddr (s : State) (j : KJob) (u : Nat) : Option Nat :=
  let a := (bits j.param.toNat 64 64 + 256 * u) % 2 ^ 64
  if badSpace a || 2 ≤ spaceOf a || !(inSpace (spaceOf a) (offsetOf a) 256) || (spaceOf a == 0 && isSw s) ||
      !(winOk s j.ten (spaceOf a) (offsetOf a) 256 0 false) then none else some a

/-- Runs a lane to its END or to a side input. -/
def runLane : Nat → State → Nat → State
  | 0, s, _ => s
  | n + 1, s, i =>
    let l := laneOf s i
    match jobById s l.job with
    | none => setLane s i { l with job := 0, wait := none }
    | some j =>
      match (if l.drain then kDrain j.prog else kBody j.prog)[l.pc]? with
      | none => laneEnd s i
      | some w =>
        if kOp w = 0x34 then
          match ldsAddr s j l.unit.u with
          | none => jobFail s i j.id (accessSt 0 0xFFFF)
          | some a =>
            let r := newTxn s (spaceOf a) .rd 2 (offsetOf a) 256 [] (.lds i) [] [] none j.ten
            setLane r.1 i { l with wait := some r.2, word := w }
        else runLane n (setLane s i { kExec (kOp w) (kFields w) (laneEnv s l) l with pc := l.pc + 1 }) i

/-- The drain of operation j goes on at its next lane. -/
def runDrain : Nat → State → Nat → Nat → State
  | 0, s, _, _ => s
  | n + 1, s, cl, id =>
    match jobById s id with
    | none => s
    | some j =>
      if 8 ≤ j.drain || j.stat.isSome || jobLanes s id != 0 then s
      else
        let i := 8 * cl + j.drain
        let r := laneDrain s j j.drain
        runDrain n (runLane 65 (setLane r.2 i r.1) i) cl id

/-- Side input arrives at a lane, or its read was refused. -/
def ldsData (s : State) (i : Nat) (d : List Byte) (refused : Bool) : State :=
  let l := laneOf s i
  match jobById s l.job with
  | none => setLane s i { l with job := 0, wait := none }
  | some j =>
    if refused then jobFail s i j.id (accessSt 0 0xFFFF)
    else
      let f := kFields l.word
      let v := vecOf d
      let l1 := { setLv l f.vd (kWrite (lv l f.vd) f.w (lk l f.m) (kEl v f.w)) with wait := none }
      if (if l.drain then kDrain j.prog else kBody j.prog)[l.pc]? = some l.word then
        let s1 := runLane 65 (setLane s i { l1 with pc := l.pc + 1 }) i
        if l.drain then runDrain 9 s1 (i / 8) j.id else s1
      else setLane s i l1

/-- The word of an instruction with these fields (R427). -/
def kWord (op : Nat) (f : KFields) : W64 :=
  BitVec.ofNat 64 (op % 64 * 2 ^ 58 + f.w % 8 * 2 ^ 55 + f.m % 8 * 2 ^ 52 + f.vd % 16 * 2 ^ 48 + f.va % 16 * 2 ^ 44 + f.vb % 16 * 2 ^ 40 + f.aux % 256 * 2 ^ 32 + f.imm % 2 ^ 32)

/-- KILN_UNIT: an idle lane takes the next unit queued for it (R423, R432). -/
def kilnUnit (s : State) (cl ln : Nat) : State :=
  let i := 8 * cl + ln
  let l := laneOf s i
  if !(coreRuns s) || 20 ≤ cl || 8 ≤ ln || l.job != 0 || s.clk.cclk < l.free then s
  else
    let cand := s.kiln.jobs.filter (fun j => j.cluster == some cl && j.stat.isNone && j.queue.any (fun u => u.u % 8 == ln))
    match arbPick s 16 (cand.map (·.pos)) with
    | none => s
    | some p =>
      match cand.find? (fun j => j.pos == p) with
      | none => s
      | some j =>
        match j.queue.find? (fun u => u.u % 8 == ln) with
        | none => s
        | some u =>
          let s1 := updJob s j.id (fun x => cutUnits 64 { x with queue := x.queue.filter (fun y => y.u != u.u) })
          runLane 65 (setLane s1 i { laneStart j ln u with free := l.free }) i

/-- KILN_DRAIN: the drain of the operation at position o of a cluster, once its last unit has run (R424). -/
def kilnDrain (s : State) (cl o : Nat) : State :=
  match s.kiln.jobs.find? (fun j => j.cluster == some cl && j.pos == o) with
  | none => s
  | some j =>
    if coreRuns s && jobInDone s j && j.outs.isEmpty && j.drain == 0 && j.stat.isNone && j.nextU != 0 && !((kDrain j.prog).isEmpty) &&
        (List.range 8).all (fun ln => (laneOf s (8 * cl + ln)).job == 0) then runDrain 9 s cl j.id
    else s

/-- One kiln instruction on lane (cl, ln), which is not waiting for side input: END ends the unit, LDS starts its read. A word that KILN.LOAD
refuses is in no program. (DESIGN CHOICE, log 53) -/
def kilnInstr (s : State) (cl ln op : Nat) (f0 : KFields) : State :=
  let i := 8 * cl + ln
  let l := laneOf s i
  let f := kFields (kWord op f0)
  if !(coreRuns s) || 20 ≤ cl || 8 ≤ ln || l.wait.isSome || (kWordBad (kWord op f0)).isSome then s
  else if op = 0 then laneEnd s i
  else if op = 0x34 then
    match jobById s l.job with
    | none => s
    | some j =>
      match ldsAddr s j l.unit.u with
      | none => jobFail s i j.id (accessSt 0 0xFFFF)
      | some a =>
        let r := newTxn s (spaceOf a) .rd 2 (offsetOf a) 256 [] (.lds i) [] [] none j.ten
        setLane r.1 i { l with wait := some r.2, word := kWord op f }
  else setLane s i (kExec op f (laneEnv s l) l)

/-- A job leaves the kiln, and waiting ones may be bound. -/
def dropJob (s : State) (id : Nat) : State :=
  match jobById s id with
  | none => s
  | some j =>
    let s1 := { s with kiln := { s.kiln with jobs := s.kiln.jobs.filter (fun x => x.id != id), lanes := s.kiln.lanes.map (fun (x : Nat × Lane) => if x.2.job == id then (x.1, { x.2 with job := 0, wait := none }) else x) } }
    bindJobs (kilnBound s1 j.slot)

/-- Places a program that passed its checks (R428, R430). -/
def kilnPut (s : State) (slot : Nat) (p : List W64) : State :=
  let s1 := { s with kiln := { s.kiln with prog := tabSet [] slot p s.kiln.prog } }
  ((((s1.put KLN_SLOT_STATUS.COST (kCost p) slot).put KLN_SLOT_STATUS.LOADED 1 slot).put KLN_SLOT_STATUS.DRAIN (kDrain p).length slot).put
    KLN_SLOT_STATUS.INPLACE (b2n (kInplace p)) slot).put KLN_SLOT_STATUS.EMITK_ONLY (b2n (kEmitkOnly p)) slot

/-- The scrub of a slot empties its program and parameters (R434). -/
def kilnClear (s : State) (slot : Nat) : State :=
  let s1 := { s with kiln := { s.kiln with prog := tabDel slot s.kiln.prog, param := tabDel slot s.kiln.param } }
  kilnBound (s1.setRg .KLN_SLOT_STATUS 0 slot) slot

end Sys2Proof.Machine
end

