-- ==== Sys2Proof/Machine/BondPlan.lean ====
section
/-! DEFINITION. Bonds and the plan of a collective (R340 to R354, R362 to R376): descriptor fields, the bond table, and the transfers of
every step at a member and at a switch. -/

namespace Sys2Proof.Machine

open Sys2Proof

/-! ### The collective descriptor (R254) -/

def cBond (d : BitVec 512) : Nat := dByte d 0 2 % 4096
def cOp (d : BitVec 512) : Nat := dByte d 2 2
def cKind (d : BitVec 512) : Nat := cOp d % 16
def cFmt (d : BitVec 512) : Nat := bits (cOp d) 4 4
def cInPlace (d : BitVec 512) : Bool := bit (cOp d) 8
def cVerify (d : BitVec 512) : Nat := bits (cOp d) 9 2
def cMultEn (d : BitVec 512) : Bool := bit (cOp d) 11
def cKilnEn (d : BitVec 512) : Bool := bit (cOp d) 12
def cCount (d : BitVec 512) : Nat := dByte d 4 4
def cSrc (d : BitVec 512) : Nat := dByte d 8 8
def cDst (d : BitVec 512) : Nat := dByte d 16 8
def cSexp (d : BitVec 512) : Nat := dByte d 24 8
def cDexp (d : BitVec 512) : Nat := dByte d 32 8
def cMult (d : BitVec 512) : Nat := dByte d 40 2
def cRoot (d : BitVec 512) : Nat := dByte d 42 2
def cK (d : BitVec 512) : Nat := dByte d 44 2
def cKslot (d : BitVec 512) : Nat := dByte d 46 1
def cKgen (d : BitVec 512) : Nat := dByte d 47 1
def cTable (d : BitVec 512) : Nat := dByte d 48 8
def cBlocks (d : BitVec 512) : Nat := cCount d / blkE (cFmt d)

/-- The multiplier where a result is formed (R409). -/
def cScale (d : BitVec 512) : Nat := if cMultEn d then cMult d else 32768

/-- A reserved encoding, or a field that the KIND does not use (R254, R255, R353). -/
def cDescBad (d : BitVec 512) : Bool :=
  let k := cKind d
  let f := cFmt d
  bits (dByte d 0 2) 12 4 != 0 || 6 ≤ k || 4 ≤ f || cVerify d == 3 || bits (cOp d) 13 3 != 0 || dByte d 56 8 != 0 ||
  (k != 2 && cInPlace d) || (cInPlace d && cSrc d != cDst d) || (!(cMultEn d) && cMult d != 0) ||
  (k != 3 && cRoot d != 0) || (k != 5 && cK d != 0) || (k == 5 && (cK d == 0 || 1024 < cK d)) ||
  (!(cKilnEn d) && (cKslot d != 0 || cKgen d != 0)) || (k != 4 && cTable d != 0) ||
  ((f == 3) && cSexp d != 0) || ((f == 3 || k == 5) && cDexp d != 0) ||
  (if k = 4 then cCount d != 0 else cCount d == 0 || cCount d % blkE f != 0 || 2 ^ 28 < cCount d)

/-! ### The bond table -/

def bondCount (s : State) (b : Nat) : Nat := s.get BND_BOND_MEM.COUNT b
def bondMember (s : State) (b i : Nat) : Nat × Nat :=
  (s.get BND_MEMBER.FLAT_ID (s.get BND_BOND_MEM.BASE b + i), s.get BND_MEMBER.LEAF (s.get BND_BOND_MEM.BASE b + i))
def bondMembers (s : State) (b : Nat) : List (Nat × Nat) := (List.range (bondCount s b)).map (bondMember s b)

def indexOf (l : List (Nat × Nat)) (f : Nat) : Option Nat := (List.range l.length).find? (fun i => (l.getD i (0, 0)).1 == f)

def bondBox (s : State) (b : Nat) : Nat × Nat × Nat × Nat :=
  (s.get BND_BOND_BOX.NX b, s.get BND_BOND_BOX.NY b, s.get BND_BOND_BOX.NZ b, s.get BND_BOND_BOX.NPOD b)

/-- The conditions of R344 that refuse VALID. -/
def bondCfgBad (s : State) (b : Nat) : Bool :=
  let n := bondCount s b
  let m := bondMembers s b
  let alg := s.get BND_BOND_CFG.ALG b
  let x := bondBox s b
  let prod := x.1 * x.2.1 * x.2.2.1 * x.2.2.2
  n == 0 || 4096 < n || 65536 < s.get BND_BOND_MEM.BASE b + n ||
  m.any (fun (p : Nat × Nat) => 0xC000 ≤ p.1) || (m.map (fun (p : Nat × Nat) => p.1)).eraseDups.length != n ||
  (alg == 1 && x.2.2.2 != 1) || ((alg == 1 || alg == 2) && (prod != n || prod == 0)) ||
  (2 ≤ alg && m.any (fun (p : Nat × Nat) => p.2 == 0xFFFF)) ||
  (isSw s && !(leasedTo s ukBond (s.get BND_BOND_TREE.SLOT b) (s.get BND_BOND_CFG.TENANT b)))

/-- SELF and MEMBER (R345). -/
def bondSelf (s : State) (b : Nat) : State :=
  match indexOf (bondMembers s b) (ownFlat s) with
  | some i => (s.put BND_BOND_STATUS.MEMBER 1 b).put BND_BOND_STATUS.SELF i b
  | none => (s.put BND_BOND_STATUS.MEMBER 0 b).put BND_BOND_STATUS.SELF 0 b

/-- A write that sets VALID from 0 to 1, the other fields being written (R344, R345). -/
def bondValidate (s : State) (b : Nat) : State :=
  if bondCfgBad s b then (s.put BND_BOND_CFG.VALID 0 b).put BND_BOND_STATUS.CFG_ERR 1 b
  else bondSelf { s with bnd := { s.bnd with early := s.bnd.early.filter (fun (e : Nat × Packet) => e.1 != b) } } b

/-- The algorithm in force (R362): 4 is TORUS with the ring over pods in place of the switch phase. (DEDUCED, log 90) -/
def algInForce (s : State) (b ten : Nat) : Nat :=
  let a := s.get BND_BOND_CFG.ALG b
  if conf s ten && !(s.on BND_BOND_CFG.ADMITTED b) then (if a = 3 then 0 else if a = 2 then 4 else a) else a

/-! ### Ranges (R346, R354, R366) -/

def chunk (j b0 nb m : Nat) : Nat × Nat := (b0 + j * nb / m, b0 + (j + 1) * nb / m)

/-- The axes of the rings as (stride, size), sizes above 1 (R346, R366). -/
def axesOf (alg m : Nat) (box : Nat × Nat × Nat × Nat) : List (Nat × Nat) :=
  let x := box.1
  let y := box.2.1
  let z := box.2.2.1
  let l := match alg with
    | 0 => [(1, m)]
    | 3 => []
    | 4 => [(1, x), (x, y), (x * y, z), (x * y * z, box.2.2.2)]
    | _ => [(1, x), (x, y), (x * y, z)]
  l.filter (fun (a : Nat × Nat) => 1 < a.2)

/-- The final range of member i after reduce-scatter over the axes. -/
def finalRange (axes : List (Nat × Nat)) (i nb : Nat) : Nat × Nat :=
  axes.foldl (fun (r : Nat × Nat) (a : Nat × Nat) => chunk (i / a.1 % a.2) r.1 (r.2 - r.1) a.2) (0, nb)

/-- What member i sends up the tree, in blocks (R367 to R370, R375). -/
def upRange (c : Coll) (axes : List (Nat × Nat)) (i : Nat) : Nat × Nat :=
  let nb := cBlocks c.desc
  match cKind c.desc with
  | 1 => (i * nb, (i + 1) * nb)
  | 3 => if i = cRoot c.desc then (0, nb) else (0, 0)
  | 5 => (0, 1)
  | _ => finalRange axes i nb

/-- What the tree sends down to member i. -/
def downRange (c : Coll) (axes : List (Nat × Nat)) (i : Nat) : Nat × Nat :=
  let nb := cBlocks c.desc
  let m := c.members.length
  match cKind c.desc with
  | 0 => if c.alg = 3 then chunk i 0 nb m else finalRange axes i nb
  | 1 => (0, m * nb)
  | 3 => if i = cRoot c.desc then (0, 0) else (0, nb)
  | 5 => (0, 1)
  | _ => finalRange axes i nb

/-! ### Transfers -/

def memFlat (c : Coll) (i : Nat) : Nat := (c.members.getD i (0xFFFF, 0)).1
def memLeaf (c : Coll) (i : Nat) : Nat := (c.members.getD i (0, 0xFFFF)).2

def noIdx : Nat := 0xFFFF

def xOut (step peer pidx : Nat) (r : Nat × Nat) (mode need : Nat) : BXfer := ⟨step, true, peer, pidx, r.1, r.2, 0, mode, need, [], r.1, 0, false⟩
def xIn (step peer pidx : Nat) (r : Nat × Nat) (mode need : Nat) : BXfer := ⟨step, false, peer, pidx, r.1, r.2, 0, mode, need, [], r.1, 0, false⟩

/-- The transfers of one ring phase of a member (R364): ring member indices, own ring index, block range, and the number of steps
before it. -/
def ringXs (c : Coll) (ring : List Nat) (r : Nat) (range : Nat × Nat) (gather : Bool) (n0 : Nat) : List BXfer :=
  let q := ring.length
  let next := ring.getD ((r + 1) % q) 0
  let prev := ring.getD ((r + q - 1) % q) 0
  ((List.range (q - 1)).map (fun t =>
    let n := n0 + t + 1
    let so := if gather then (r + q - t) % q else (r + 2 * q - t - 1) % q
    let ro := if gather then (r + 2 * q - t - 1) % q else (r + 2 * q - t - 2) % q
    let nb := range.2 - range.1
    [xOut n (memFlat c next) next (chunk so range.1 nb q) (if gather then 1 else 0) (n - 1),
     xIn n (memFlat c prev) prev (chunk ro range.1 nb q) (if gather then 1 else 0) n0])).flatten

/-- The ring of member i on an axis, by member index, and its ring index. -/
def axisRing (i : Nat) (a : Nat × Nat) : List Nat × Nat :=
  let r := i / a.1 % a.2
  ((List.range a.2).map (fun j => i + j * a.1 - r * a.1), r)

/-- The reduce-scatter phases over axes: transfers, steps, final range, and the phases for the way back. -/
def scatterPhases (c : Coll) : List (Nat × Nat) → Nat → Nat × Nat → List BXfer × Nat × (Nat × Nat) × List ((Nat × Nat) × (Nat × Nat))
  | [], n, r => ([], n, r, [])
  | a :: rest, n, r =>
    let g := axisRing c.self a
    let xs := ringXs c g.1 g.2 r false n
    let t := scatterPhases c rest (n + a.2 - 1) (chunk g.2 r.1 (r.2 - r.1) a.2)
    (xs ++ t.1, t.2.1, t.2.2.1, t.2.2.2 ++ [(a, r)])

/-- The all-gather phases, each over the range before the matching phase. -/
def gatherPhases (c : Coll) : List ((Nat × Nat) × (Nat × Nat)) → Nat → List BXfer × Nat
  | [], n => ([], n)
  | (a, r) :: rest, n =>
    let g := axisRing c.self a
    let xs := ringXs c g.1 g.2 r true n
    let t := gatherPhases c rest (n + a.2 - 1)
    (xs ++ t.1, t.2)

/-- A member's plan, TABLE of an all-to-all-v aside: transfers, steps, the last step before results
are gathered, and the final range. (DEDUCED, log 90) -/
def planMember (c : Coll) (box : Nat × Nat × Nat × Nat) : List BXfer × Nat × Nat × (Nat × Nat) :=
  let m := c.members.length
  let i := c.self
  let nb := cBlocks c.desc
  let axes := axesOf c.alg m box
  let leaf := memLeaf c i
  let tree := c.alg = 2 || c.alg = 3
  if m ≤ 1 then ([], 0, 0, (0, nb))
  else
    match cKind c.desc with
    | 1 =>
      if tree then ([xOut 1 leaf noIdx (upRange c axes i) 3 0, xIn 2 leaf noIdx (downRange c axes i) 1 0], 2, 0, (0, m * nb))
      else
        let ph := axes.map (fun (a : Nat × Nat) => let g := i - i / a.1 % a.2 * a.1 - i % a.1; (a, (g * nb, (g + a.1 * a.2) * nb)))
        let t := gatherPhases c ph 0
        (t.1, t.2, 0, (0, m * nb))
    | 3 =>
      let root := cRoot c.desc
      if tree then
        (if i = root then [xOut 1 leaf noIdx (0, nb) 3 0] else [xIn 2 leaf noIdx (0, nb) 1 0], 2, 0, (0, nb))
      else
        let d := (i + m - root) % m
        let prev := (i + m - 1) % m
        let next := (i + 1) % m
        ((if d = 0 then [] else [xIn d (memFlat c prev) prev (0, nb) 1 0]) ++
          (if d + 1 < m then [xOut (d + 1) (memFlat c next) next (0, nb) 1 0] else []), m - 1, 0, (0, nb))
    | 4 => ([], 1, 0, (0, 0))
    | 5 =>
      if tree then ([xOut 1 leaf noIdx (0, 0) 2 0, xIn 2 leaf noIdx (0, 0) 2 1], 2, 0, (0, 0))
      else
        let last := m - 1
        let up := (if i = 0 then [] else [xIn i (memFlat c (i - 1)) (i - 1) (0, 0) 2 0]) ++
          (if i < last then [xOut (i + 1) (memFlat c (i + 1)) (i + 1) (0, 0) 2 0] else [])
        let fin :=
          if i = last then [xOut m (memFlat c 0) 0 (0, 0) 2 1]
          else
            let p := if i = 0 then last else i - 1
            [xIn (m + i) (memFlat c p) p (0, 0) 2 1] ++ (if i + 1 < last then [xOut (m + i + 1) (memFlat c (i + 1)) (i + 1) (0, 0) 2 1] else [])
        (up ++ fin, 2 * (m - 1), 0, (0, 0))
    | k =>
      let sc := scatterPhases c axes 0 (0, nb)
      if c.alg = 3 then
        ([xOut 1 leaf noIdx (0, nb) 3 0, xIn 2 leaf noIdx (downRange c axes i) 1 0], 2, 0, downRange c axes i)
      else if c.alg = 2 then
        let n := sc.2.1
        let g := if k = 2 then gatherPhases c sc.2.2.2 (n + 2) else ([], n + 2)
        (sc.1 ++ [xOut (n + 1) leaf noIdx sc.2.2.1 3 n, xIn (n + 2) leaf noIdx sc.2.2.1 1 0] ++ g.1, g.2, n + 2, sc.2.2.1)
      else
        let ph := if k = 2 then sc.2.2.2 else if c.alg = 4 && 1 < box.2.2.2 then sc.2.2.2.take 1 else []
        let g := gatherPhases c ph sc.2.1
        (sc.1 ++ g.1, g.2, sc.2.1, if k = 2 then sc.2.2.1 else (ph.head?.map (fun (p : (Nat × Nat) × (Nat × Nat)) => p.2)).getD sc.2.2.1)

/-- Contributors of a switch in the order of application (R375): member indices at a leaf, leaf flat IDs at a spine. -/
def isLeafSw (c : Coll) (own : Nat) : Bool := c.members.any (fun (p : Nat × Nat) => p.2 == own)
def leafList (c : Coll) : List Nat := ((c.members.map (fun (p : Nat × Nat) => p.2)).eraseDups).mergeSort (fun a b => a ≤ b)

/-- The member indices behind contributor k of a switch. -/
def behind (c : Coll) (own : Nat) (leaf : Nat) : List Nat :=
  (List.range c.members.length).filter (fun i => memLeaf c i == (if isLeafSw c own then own else leaf))

def rangesOf (l : List (Nat × Nat)) : List (Nat × Nat) := l.eraseDups.filter (fun (r : Nat × Nat) => r.1 < r.2)

/-- A switch's plan (R375, R376). -/
def planSwitch (c : Coll) (box : Nat × Nat × Nat × Nat) (own parent : Nat) : List BXfer × Nat :=
  let m := c.members.length
  let axes := axesOf c.alg m box
  let k := cKind c.desc
  let top := k = 5
  let n := if c.alg = 2 && (k = 0 || k = 2) then (axes.map (fun (a : Nat × Nat) => a.2 - 1)).sum else 0
  let peers : List (Nat × Nat × List Nat) :=
    if isLeafSw c own then (behind c own own).map (fun i => (memFlat c i, i, [i]))
    else (leafList c).map (fun f => (f, noIdx, behind c own f))
  let all := (peers.map (fun (p : Nat × Nat × List Nat) => p.2.2)).flatten
  let fix (r : Nat × Nat) : Nat × Nat := if top then (0, 0) else r
  let ins := (peers.map (fun (p : Nat × Nat × List Nat) => (rangesOf (p.2.2.map (upRange c axes))).map (fun r => xIn (n + 1) p.1 p.2.1 (fix r) (if top then 2 else 3) 0))).flatten
  let down := (peers.map (fun (p : Nat × Nat × List Nat) => (rangesOf (p.2.2.map (downRange c axes))).map (fun r => xOut (n + 2) p.1 p.2.1 (fix r) (if top then 2 else 1) 1))).flatten
  let up := if parent = 0xFFFF then [] else
    (rangesOf (all.map (upRange c axes))).map (fun r => xOut (n + 1) parent noIdx (fix r) (if top then 2 else 3) 0) ++
    (rangesOf (all.map (downRange c axes))).map (fun r => xIn (n + 2) parent noIdx (fix r) (if top then 2 else 1) 1)
  (ins ++ up ++ down, n + 2)

/-- The transfers of an all-to-all-v once TABLE is known (R372, R373): starting at the next member, in member order. -/
def planA2a (c : Coll) : List BXfer :=
  let m := c.members.length
  let e := blkE (cFmt c.desc)
  ((List.range (m - 1)).map (fun t =>
    let j := (c.self + t + 1) % m
    let sc := leAt c.table (16 * j) 4
    let so := leAt c.table (16 * j + 4) 4
    let rc := leAt c.table (16 * j + 8) 4
    (if rc = 0 then [] else [xIn 1 (memFlat c j) j (0, 0) 4 0]) ++
    (if sc = 0 then [] else [{ xOut 1 (memFlat c j) j (0, sc / e) 4 0 with base := so / e }]))).flatten

/-- Store requirement Q (R380). -/
def storeNeed (c : Coll) (box : Nat × Nat × Nat × Nat) (reform : Bool) : Nat :=
  let d := c.desc
  let nb := cBlocks d
  let beta := blkBeta (cFmt d) c.a64
  let axes := axesOf c.alg c.members.length box
  let s1 := match axes with
    | a :: _ => (nb + a.2 - 1) / a.2
    | [] => nb
  131072 * (if cKind d = 4 then 16 else 1) +
  (if cInPlace d then (if c.alg = 1 || c.alg = 2 || c.alg = 4 then 2 * s1 * beta else 0) + (if reform then nb * beta else 0) else 0)

end Sys2Proof.Machine
end

