-- ==== Sys2Proof/Machine/Bond.lean ====
section
/-! DEFINITION. The bond engine (R349 to R397, R406 to R417): running collectives, step data and control, checks, completion, late members
and re-formation. -/

namespace Sys2Proof.Machine

open Sys2Proof

/-! ### Tables -/

def collAt (s : State) (slot : Nat) : Option Coll := s.bnd.colls.find? (fun c => c.slot == slot)
def collOfBond (s : State) (b : Nat) : Option Coll := s.bnd.colls.find? (fun c => c.bond == b)
def updColl (s : State) (slot : Nat) (f : Coll → Coll) : State :=
  { s with bnd := { s.bnd with colls := s.bnd.colls.map (fun c => if c.slot == slot then f c else c) } }
def dropColl (s : State) (slot : Nat) : State :=
  { s with bnd := { s.bnd with colls := s.bnd.colls.filter (fun c => c.slot != slot) } }
def updX (c : Coll) (xi : Nat) (f : BXfer → BXfer) : Coll :=
  { c with xs := c.xs.zipIdx.map (fun (p : BXfer × Nat) => if p.2 == xi then f p.1 else p.1) }
def xAt (c : Coll) (xi : Nat) : Option BXfer := c.xs[xi]?

/-- BND counters by index: 0 epoch drops, 1 resends, 2 late, 3 re-formations, 4 poisoned, 5 check failures. -/
def bndCount (s : State) (k : Nat) : State := s.inc BND_CNT.COUNT k

def bondValid (s : State) (b : Nat) : Bool := b < 4096 && s.on BND_BOND_CFG.VALID b && !(isMem s)
def bondEpoch (s : State) (b : Nat) : Nat := s.get BND_BOND_EPOCH.EPOCH b
def reformable (s : State) (c : Coll) : Bool := s.on BND_BOND_CFG.POLICY c.bond
def stepTo (s : State) (b : Nat) : Nat := Nat.max 1 (s.get BND_BOND_CFG.STEP_TO b) * 65536

/-- Held at the step limit (R251). -/
def collHeld (c : Coll) : Bool := c.limit != 0 && c.limit ≤ c.done && c.done < c.total

/-- The status registers of a slot and its bond. -/
def collStatus (s : State) (slot : Nat) : State :=
  match collAt s slot with
  | some c =>
    let s1 := ((s.put BND_SLOT_STATUS.STATE (if collHeld c then 3 else 2) slot).put BND_SLOT_STATUS.BOND c.bond slot).put BND_SLOT_STEP.STEP c.done slot
    (s1.put BND_BOND_STATUS.RUNNING 1 c.bond).put BND_BOND_STATUS.SLOT slot c.bond
  | none =>
    let u := unitOf s ukBond slot
    (s.put BND_SLOT_STATUS.STATE (if u.scrub then 5 else if u.en then 1 else 0) slot).put BND_SLOT_STATUS.BOND 0 slot

/-! ### Messages (R360, R361) -/

/-- The index by which a unit names itself in bond messages. (DEDUCED, log 83) -/
def cIdx (c : Coll) : Nat := if c.sw then noIdx else c.self

/-- A packet of a collective: VC, opcode, destination, step, block offset, payload. -/
def bondPacket (s : State) (ten tag bond epoch idx vc op dst step off : Nat) (last : Bool) (pay : List Byte) : Packet where
  dst := dst
  src := ownFlat s
  ten := ten
  vc := vc
  kep := curEpoch s ten
  op := op
  hops := 0
  flags := b2n last
  seq := step
  target := 0
  tag := tag
  lgen := 0
  hod := 0
  hgen := 0
  e32 := bond % 4096 + 65536 * (epoch % 65536)
  e36 := off
  e40 := idx % 4096
  pay := pay

/-- The fields of a bond control message. (DEDUCED, log 82; DEDUCED, log 83) -/
def ctlBody (kind epoch step off cnt idx : Nat) (tail : List Byte) : List Byte :=
  ([BitVec.ofNat 8 kind, 0, 0, 0] ++ leBytes 4 epoch ++ leBytes 4 step ++ leBytes 4 off ++ leBytes 4 cnt ++ leBytes 2 idx ++ [0, 0] ++
    tail ++ List.replicate 160 0).take 160

/-- A trace record of source BOND (Table - Trace sources): event 0 an arrival, 1 a departure; KIND 0 is data. -/
def traceBond (s : State) (evt ten tag b kind step off idx : Nat) : State :=
  traceEv s 5 evt ten tag none (leBytes 2 b ++ [BitVec.ofNat 8 (s.get BND_BOND_STATUS.SLOT b), BitVec.ofNat 8 kind] ++ leBytes 4 step ++ leBytes 4 off ++ leBytes 2 idx ++ leBytes 2 0)

/-- Sends a control message of a bond. -/
def bondSend (s : State) (ten tag b epoch idx dst kind step off cnt : Nat) (tail : List Byte) : State :=
  enqueue (traceBond s 1 ten tag b kind step off idx) (bondPacket s ten tag b epoch idx 5 0x41 dst step (off % 2 ^ 32) false (ctlBody kind epoch step off cnt idx tail)) 33 none none none none none

def sendCtl (s : State) (c : Coll) (dst kind step off cnt : Nat) : State :=
  bondSend s c.ten c.tag c.bond c.epoch (cIdx c) dst kind step off cnt []

/-- Acknowledges a step data packet (R358). -/
def sendStepAck (s : State) (b : Nat) (p : Packet) : State :=
  let i := match collOfBond s b with | some c => cIdx c | none => s.get BND_BOND_STATUS.SELF b
  bondSend s p.ten p.tag b (bondEpoch s b) i p.src 2 p.seq p.e36 0 []

/-! ### End of a collective (R397) -/

/-- The DST bytes that R392 leaves unspecified: free values. (DESIGN CHOICE, log 2) -/
def freeBytes (s : State) (n : Nat) : List Byte × State :=
  ((List.range n).map (fun k => BitVec.ofNat 8 (Config.free (s.free + k))), { s with free := s.free + n })

/-- A collective ends at this device with statuses. -/
def collEnd (s : State) (slot : Nat) (st : List Stat) : State :=
  match collAt s slot with
  | none => s
  | some c =>
    let s1 := match s.kiln.jobs.find? (fun j => 2 ≤ j.mode && j.key == slot) with | some j => dropJob s j.id | none => s
    let s2 := (c.stats ++ st).foldl (fun acc x => opAdd acc c.op x) (dropColl s1 slot)
    let s3 := (s2.put BND_BOND_STATUS.RUNNING 0 c.bond).put BND_BOND_STATUS.SLOT 0 c.bond
    collStatus s3 slot

/-- The detail of a status that STOP carries (R383, R385, R394, R413). -/
def stopStat (c : Coll) (code chunkIdx aux : Nat) : Stat :=
  match code with
  | 0x03 => ⟨3, aux⟩
  | 0x05 => limitSt c.word (7 * 65536)
  | 0x0F => badCmd c.word aux
  | 0x02 => ⟨2, aux⟩
  | _ => ⟨code, c.epoch + 2 ^ 32 * chunkIdx⟩

/-- Sends STOP to every other member and ends here (R383, R385, R389, R394, R413). -/
def stopAll (s : State) (slot code chunkIdx aux : Nat) : State :=
  match collAt s slot with
  | none => s
  | some c =>
    let s1 := (List.range c.members.length).foldl (fun acc i => if memFlat c i == ownFlat s then acc else sendCtl acc c (memFlat c i) 5 (c.done + 1) chunkIdx (code + 65536 * aux)) s
    collEnd s1 slot [stopStat c code chunkIdx aux]

/-! ### Memory (R353, R355, R379) -/

/-- An access of a collective to its device's memory, in the order that its context's accesses keep (R306, R316). -/
def bondTxn (s : State) (c : Coll) (op : MemOp) (a n : Nat) (d : List Byte) (why : Why) : State × Nat :=
  match opById s c.op with
  | some o => opTxn s o op a n d why
  | none => newTxn s (spaceOf a) op 2 (offsetOf a) n d why [] [] none c.ten

/-- The windows of the tenant permit a plane of a collective: perm 0 RD, 1 WR (R218, R545). -/
def planeOk (s : State) (t a n perm : Nat) : Bool :=
  spaceOf a != 2 && ownMemOk s t a n perm && !(perm == 1 && spaceOf a == 1 && spwProtected s (offsetOf a) n)

/-- Bytes of the DST planes that block position pos occupies are written; the step counts them (R355). (DEDUCED, log 81) -/
def collWrite (s : State) (slot step pos : Nat) (l : List Blk) : State :=
  match collAt s slot with
  | none => s
  | some c =>
    let f := cFmt c.desc
    let v := (l.map (valBytes f false)).flatten
    let a := cDst c.desc + pos * blkBytes f
    let s1 := if l.isEmpty then s else (bondTxn s c .wr a v.length v (.bondWr slot step)).1
    if f = 3 || l.isEmpty then s1
    else
      let e := cDexp c.desc + pos
      (bondTxn s1 c .wr e l.length (l.map expByteOf) (.bondWr slot step)).1

/-- Position in DST of a result block (R367, R368). -/
def dstPos (c : Coll) (b : Nat) : Nat := if cKind c.desc = 0 then b - c.final.1 else b

/-- Writes the K records of a top-k result (R371). -/
def writeRecs (s : State) (slot step : Nat) (l : List Cand) : State :=
  match collAt s slot with
  | none => s
  | some c =>
    let k := cK c.desc
    let d := ((l.take k).map candBytes).flatten ++ (List.replicate (k - l.length) candNone).flatten
    (bondTxn s c .wr (cDst c.desc) d.length d (.bondWr slot step)).1

/-- Reads of a slot's contribution under way. -/
def collReads (s : State) (slot : Nat) : Nat :=
  (s.xf.txns.filter (fun t => match t.why with | .bondRd k _ _ => k == slot | .bondTab k => k == slot | _ => false)).length

def unitBlks (fmt : Nat) : Nat := 256 / blkBytes fmt

/-- Starts reads of the contribution, 64 blocks at a time, at most 16 pairs outstanding; a full kiln queue holds them (R433). -/
def collRead : Nat → State → Nat → State
  | 0, s, _ => s
  | n + 1, s, slot =>
    match collAt s slot with
    | none => s
    | some c =>
      let held := match jobById s c.jobId with | some j => 32 ≤ j.queue.length | none => false
      match c.toRead with
      | [] => s
      | (a, b) :: rest =>
        if b ≤ a then collRead n (updColl s slot (fun x => { x with toRead := rest })) slot
        else if 32 ≤ collReads s slot || held then s
        else
          let f := cFmt c.desc
          let k := Nat.min 64 (b - a)
          let va := cSrc c.desc + a * blkBytes f
          let r := bondTxn s c .rd va (k * blkBytes f) [] (.bondRd slot (2 * a) k)
          let s2 := if f = 3 then r.1 else
            let ea := cSexp c.desc + a
            (bondTxn r.1 c .rd ea k [] (.bondRd slot (2 * a + 1) k)).1
          collRead n (updColl s2 slot (fun x => { x with order := x.order ++ [a], toRead := if a + k < b then (a + k, b) :: rest else rest })) slot

/-! ### Own contribution (R353, R370, R420) -/

/-- Blocks of the own contribution are known, from block b on. -/
def ownBlks (s : State) (slot b : Nat) (l : List Blk) : State :=
  match collAt s slot with
  | none => s
  | some c =>
    match cKind c.desc with
    | 1 =>
      let pos := c.self * cBlocks c.desc + b
      collWrite (updColl s slot (fun x => { x with res := l.zipIdx.foldl (fun t (p : Blk × Nat) => tabPut (pos + p.2) p.1 t) x.res, acc := l.zipIdx.foldl (fun t (p : Blk × Nat) => tabPut (pos + p.2) p.1 t) x.acc })) slot 0 pos l
    | 3 => updColl s slot (fun x => { x with res := l.zipIdx.foldl (fun t (p : Blk × Nat) => tabPut (b + p.2) p.1 t) x.res, acc := l.zipIdx.foldl (fun t (p : Blk × Nat) => tabPut (b + p.2) p.1 t) x.acc })
    | 5 =>
      let e := blkE (cFmt c.desc)
      let cs := (l.zipIdx.map (fun (p : Blk × Nat) => p.1.v.zipIdx.map (fun (q : Int × Nat) => (⟨(c.self * cCount c.desc + (b + p.2) * e + q.2) % 2 ^ 32, p.1.e, q.1⟩ : Cand)))).flatten
      updColl s slot (fun x => { x with recs := candMerge (cK c.desc) x.recs cs })
    | k =>
      let s1 := updColl s slot (fun x => { x with acc := l.zipIdx.foldl (fun t (p : Blk × Nat) => tabPut (b + p.2) p.1 t) x.acc })
      if c.members.length ≤ 1 && k ≤ 2 then
        let s2 := updColl s1 slot (fun x => { x with res := l.zipIdx.foldl (fun t (p : Blk × Nat) => tabPut (b + p.2) p.1 t) x.res })
        if cInPlace c.desc then s2 else collWrite s2 slot 0 b l
      else s1

/-- Blocks read are given to the kiln unit by unit, or are the contribution at once. -/
def rawBlks (s : State) (slot b n : Nat) (vals exps : List Byte) : State :=
  match collAt s slot with
  | none => s
  | some c =>
    let f := cFmt c.desc
    if cKilnEn c.desc && !c.sw then
      let u := unitBlks f
      let u0 := match jobById s c.jobId with | some j => j.nextU | none => 0
      let s0 := (List.range ((n + u - 1) / u)).foldl (fun acc k =>
        updJob acc c.jobId (fun j => pushUnit j ((vals.drop (256 * k)).take 256) ((exps.drop (u * k)).take u))) s
      let s1 := updColl s0 slot (fun x => { x with ustart := (List.range ((n + u - 1) / u)).foldl (fun t k => tabPut (u0 + k) (b + u * k) t) x.ustart })
      if c.toRead.isEmpty && collReads s slot == 0 then updJob s1 c.jobId (fun j => { j with last := true }) else s1
    else ownBlks s slot b (blksOf f false vals exps false n)

/-- Takes pairs of values and exponents that have both arrived, in block order. -/
def rawTake : Nat → State → Nat → State
  | 0, s, _ => s
  | n + 1, s, slot =>
    match collAt s slot with
    | none => s
    | some c =>
      let f := cFmt c.desc
      match (c.raw.find? (fun (p : Nat × List Byte) => p.1 % 2 == 0 && (!(cKilnEn c.desc) || c.order.head? == some (p.1 / 2)) && (f == 3 || (tabFind (p.1 + 1) c.raw).isSome))) with
      | none => s
      | some (k, v) =>
        let nb := v.length / blkBytes f
        let ex := (tabFind (k + 1) c.raw).getD []
        let s1 := updColl s slot (fun x => { x with raw := tabDel (k + 1) (tabDel k x.raw), order := x.order.erase (k / 2) })
        rawTake n (rawBlks s1 slot (k / 2) nb v ex) slot

/-- Kiln output of a contribution is taken in unit order. -/
def kilnTake : Nat → State → Nat → State
  | 0, s, _ => s
  | n + 1, s, slot =>
    match collAt s slot with
    | none => s
    | some c =>
      match jobById s c.jobId with
      | none => s
      | some j =>
        match j.outs.find? (fun o => o.u == j.nextOut) with
        | none => s
        | some o =>
          let f := cFmt c.desc
          let s1 := updJob s j.id (fun x => { x with outs := x.outs.filter (fun y => y.u != o.u), nextOut := x.nextOut + 1 })
          let s2 :=
            if c.sw then
              let l := blksOf f false o.data o.exps false (o.data.length / blkBytes f)
              updColl s1 slot (fun x => { x with res := l.zipIdx.foldl (fun t (p : Blk × Nat) => tabPut (o.u * unitBlks f + p.2) p.1 t) x.res })
            else if cKind c.desc = 5 && !(kInplace j.prog) then
              let cs := (List.range (o.data.length / 16)).map (candOf o.data)
              updColl s1 slot (fun x => { x with recs := candMerge (cK c.desc) x.recs cs })
            else ownBlks s1 slot (tabGet 0 o.u c.ustart) (blksOf f false o.data o.exps false (o.data.length / blkBytes f))
          kilnTake n s2 slot

/-- The own contribution is wholly known. -/
def ownDone (s : State) (c : Coll) : Bool :=
  c.toRead.isEmpty && c.raw.isEmpty && collReads s c.slot == 0 &&
  (match jobById s c.jobId with | some j => jobInDone s j && j.outs.isEmpty && ((kDrain j.prog).isEmpty || j.drain == 8) | none => true)

/-! ### Combination (R364, R375, R403 to R417) -/

/-- Order of contributor xi for block b at a switch: how many combinations come before it. -/
def contribIdx (c : Coll) (x : BXfer) (b : Nat) : Nat :=
  ((c.xs.takeWhile (fun y => !(y == x))).filter (fun y => !y.out && y.mode == 3 && y.lo ≤ b && b < y.hi)).length

def contribAll (c : Coll) (b : Nat) : Nat := (c.xs.filter (fun y => !y.out && y.mode == 3 && y.lo ≤ b && b < y.hi)).length

def rootSw (s : State) (c : Coll) : Bool := c.sw && s.get BND_BOND_TREE.PARENT c.bond == 0xFFFF

def verOf (c : Coll) (b : Nat) : Nat := tabGet 0 b c.ver
def accOf (c : Coll) (b : Nat) : Option Blk := tabFind b c.acc

/-- One block at a reduction point: the operands in order, and the counts of R408, R407 and R632. -/
def foldBlk (s : State) (first second : Blk) : State × Comb :=
  let r := combine first second
  let s1 := if r.inexact then s.inc BND_INEXACT_CNT.COUNT else s
  let s2 := if r.sat then s1.inc BND_SAT_CNT.COUNT else s1
  (s2.addPair .OBS_BND_BLOCKS 1, r)

/-- A saturation at a requantisation point (R410, R411): it counts as saturation and as an inexact event. -/
def noteSat (s : State) (sat : Bool) : State := if sat then (s.inc BND_SAT_CNT.COUNT).inc BND_INEXACT_CNT.COUNT else s

def quantAll (s : State) (f m : Nat) (l : List Blk) : State × List Blk :=
  l.foldl (fun (a : State × List Blk) b => let r := requant f m b; (noteSat a.1 r.2, a.2 ++ [r.1])) (s, [])

/-- Result blocks are formed at this point, from block b on: kept, checked, and written or held back (R367, R379, R383). -/
def formResult (s : State) (slot step b : Nat) (l : List Blk) : State :=
  match collAt s slot with
  | none => s
  | some c =>
    let s1 := updColl s slot (fun x => { x with res := l.zipIdx.foldl (fun t (p : Blk × Nat) => tabPut (b + p.2) p.1 t) x.res, okb := x.okb ++ (List.range l.length).map (fun k => b + k) })
    if c.sw then s1
    else if cInPlace c.desc then updColl s1 slot (fun x => { x with later := x.later ++ [(b, l)] })
    else collWrite s1 slot step (dstPos c b) l

/-- Combines a run of received blocks with what is held (R364 at a member, R375 at a switch). -/
def foldRun (s : State) (slot : Nat) (q : BPend) : State :=
  match collAt s slot with
  | none => s
  | some c =>
    match xAt c q.xi with
    | none => s
    | some x =>
      let f := cFmt c.desc
      let own := q.blks.zipIdx.map (fun (p : Blk × Nat) => if c.sw then tabFind (q.off + p.2) c.acc else some ((accOf c (q.off + p.2)).getD (blkZero f)))
      let r := (q.blks.zip own).zipIdx.foldl (fun (a : State × List Blk × Nat × Nat) (p : (Blk × Option Blk) × Nat) =>
        match p.1.2 with
        | none => (a.1, a.2.1 ++ [p.1.1], a.2.2.1, a.2.2.2)
        | some o =>
          let fst := if c.sw then o else p.1.1
          let snd := if c.sw then p.1.1 else o
          let z := foldBlk a.1 fst snd
          (z.1, a.2.1 ++ [z.2.blk], (a.2.2.1 + loss61 f (q.off + p.2) fst snd z.2) % p61, (a.2.2.2 + check61 f (q.off + p.2) [o]) % p61)) (s, [], 0, 0)
      let mk := r.2.1.any (·.mark)
      let ys := r.2.1.map (fun y => { y with mark := mk })
      let fast := cVerify c.desc == 1 || (cVerify c.desc == 0 && !(s.get GLB_SCALE_CLASS.CLASS == 2 && 64 < c.members.length))
      if (check61 f q.off ys + r.2.2.1) % p61 != (q.check + r.2.2.2) % p61 then
        stopAll (raise (bndCount r.1 (if fast then 4 else 5)) 10) slot (if fast then 4 else 0x0C) q.off 0
      else
        let s1 := updColl r.1 slot (fun y =>
          updX { y with acc := ys.zipIdx.foldl (fun t (p : Blk × Nat) => tabPut (q.off + p.2) p.1 t) y.acc, ver := ys.zipIdx.foldl (fun t (p : Blk × Nat) => tabPut (q.off + p.2) (if c.sw then verOf c (q.off + p.2) + 1 else x.step) t) y.ver } q.xi (fun z => { z with got := z.got + ys.length }))
        if c.sw then
          let fin := ys.zipIdx.filter (fun (p : Blk × Nat) => verOf c (q.off + p.2) + 1 == contribAll c (q.off + p.2))
          if rootSw s c && !(s.on KLN_TREE.EN c.bond) then
            fin.foldl (fun acc (p : Blk × Nat) => let z := quantAll acc f (if cKind c.desc ≤ 2 && cKind c.desc != 1 then cScale c.desc else 32768) [p.1]; formResult z.1 slot x.step (q.off + p.2) z.2) s1
          else s1
        else if x.step = c.redSteps then
          let z := quantAll s1 f (cScale c.desc) ys
          formResult z.1 slot x.step q.off z.2
        else s1

/-- Received data may be taken now (R406). -/
def pendReady (c : Coll) (q : BPend) : Bool :=
  match xAt c q.xi with
  | none => true
  | some x =>
    let bs := (List.range q.blks.length).map (fun k => q.off + k)
    match x.mode with
    | 0 => bs.all (fun b => (accOf c b).isSome && x.need ≤ verOf c b)
    | 3 => bs.all (fun b => verOf c b == contribIdx c x b)
    | _ => true

/-- Result blocks arrive (R368, R369, R376, R379). -/
def storeRun (s : State) (slot : Nat) (q : BPend) : State :=
  match collAt s slot with
  | none => s
  | some c =>
    match xAt c q.xi with
    | none => s
    | some x =>
      let s1 := updColl s slot (fun y => updX { y with res := q.blks.zipIdx.foldl (fun t (p : Blk × Nat) => tabPut (q.off + p.2) p.1 t) y.res } q.xi (fun z => { z with got := z.got + q.blks.length }))
      if c.sw then s1
      else if cInPlace c.desc && (reformable s c || x.step ≤ c.redSteps) then updColl s1 slot (fun y => { y with later := y.later ++ [(q.off, q.blks)] })
      else collWrite s1 slot x.step (dstPos c q.off) q.blks

/-- Takes every received run whose turn it is. -/
def absorb : Nat → State → Nat → State
  | 0, s, _ => s
  | n + 1, s, slot =>
    match collAt s slot with
    | none => s
    | some c =>
      match c.pend.find? (pendReady c) with
      | none => s
      | some q =>
        let s1 := updColl s slot (fun y => { y with pend := y.pend.filter (fun z => !(z.xi == q.xi && z.off == q.off)) })
        let m : Nat := match xAt c q.xi with | some x => x.mode | none => 1
        let s2 :=
          if m = 0 || m = 3 then foldRun s1 slot q
          else if m = 4 then updColl s1 slot (fun y => updX { y with res := q.blks.zipIdx.foldl (fun t (p : Blk × Nat) => tabPut ((q.xi + 1) * 2 ^ 32 + q.off + p.2) p.1 t) y.res } q.xi (fun z => { z with got := z.got + q.blks.length }))
          else storeRun s1 slot q
        absorb n s2 slot

/-! ### Candidate lists (R370) -/

/-- The list that an output of records sends: 0 the merged one, 1 the final one; none while it is not ready. -/
def listReady (s : State) (c : Coll) (need : Nat) : Option (List Cand) :=
  let k := cK c.desc
  let ins := c.xs.zipIdx.filter (fun (p : BXfer × Nat) => !p.1.out && p.1.mode == 2 && p.1.need == need)
  let whole := ins.all (fun (p : BXfer × Nat) => p.1.ended && p.1.hi ≤ p.1.got)
  let got := ins.foldl (fun acc (p : BXfer × Nat) => candMerge k acc (tabGet [] p.2 c.lists)) []
  if need = 0 then (if whole && (c.sw || ownDone s c) then some (if c.sw then got else candMerge k got c.recs) else none)
  else if ins.isEmpty then
    -- the final list is formed here
    let low := c.xs.zipIdx.filter (fun (p : BXfer × Nat) => !p.1.out && p.1.mode == 2 && p.1.need == 0)
    if low.all (fun (p : BXfer × Nat) => p.1.ended && p.1.hi ≤ p.1.got) && (c.sw || ownDone s c) then
      some (low.foldl (fun acc (p : BXfer × Nat) => candMerge k acc (tabGet [] p.2 c.lists)) (if c.sw then [] else c.recs))
    else none
  else if whole then some got else none

/-! ### Sending (R356, R412) -/

def xA64 (c : Coll) (x : BXfer) : Bool := c.a64 && (x.mode == 0 || (x.mode == 3 && (cKind c.desc == 0 || cKind c.desc == 2)))

/-- Blocks per window: whole full packets within 64 KiB. (DEDUCED, log 80) -/
def winBlks (s : State) (c : Coll) (x : BXfer) : Nat :=
  if x.mode = 2 then 4096
  else
    let n := blkPerPkt (cFmt c.desc) (xA64 c x) (conf s c.ten)
    Nat.max n (65536 / blkBeta (cFmt c.desc) (xA64 c x) / n * n)

/-- Block b may leave on a transfer. -/
def blkReady (c : Coll) (x : BXfer) (b : Nat) : Bool :=
  match x.mode with
  | 0 => (accOf c b).isSome && x.need ≤ verOf c b
  | 3 => if c.sw then verOf c b == contribAll c b && 0 < verOf c b else (accOf c b).isSome && x.need ≤ verOf c b
  | 4 => (accOf c (x.base + b)).isSome
  | _ => (tabFind b c.res).isSome

/-- The block as it is sent: partials are requantised under NATIVE, an own contribution goes as it is (R365, R409). -/
def blkOut (c : Coll) (x : BXfer) (b : Nat) : Blk × Bool :=
  match x.mode with
  | 1 => (((tabFind b c.res).getD (blkZero (cFmt c.desc))), false)
  | 4 => ((accOf c (x.base + b)).getD (blkZero (cFmt c.desc)), false)
  | _ =>
    let y := (accOf c b).getD (blkZero (cFmt c.desc))
    if xA64 c x || (verOf c b == 0) || (c.sw && (cKind c.desc == 1 || cKind c.desc == 3)) then (y, false) else requant (cFmt c.desc) 32768 y

/-- Sends one packet of a transfer and keeps it until its acknowledgement (R358). -/
def sendStep (s : State) (slot xi off : Nat) (last : Bool) (pay : List Byte) : State :=
  match collAt s slot with
  | none => s
  | some c =>
    match xAt c xi with
    | none => s
    | some x =>
      let p := bondPacket s c.ten c.tag c.bond c.epoch (cIdx c) 4 0x40 x.peer x.step off last pay
      let r := sealPkt (traceBond s 1 c.ten c.tag c.bond 0 x.step off (cIdx c)) 0x40 p
      let s1 := enqueue r.1 r.2 33 none none none none none
      updColl s1 slot (fun y => { y with sent := y.sent ++ [⟨xi, off, p, some (now s)⟩] })

/-- Checks owed to the peers of sent result ranges (R384). -/
def needChecks (s : State) (c : Coll) : Bool :=
  let fast := cVerify c.desc == 1 || (cVerify c.desc == 0 && !(s.get GLB_SCALE_CLASS.CLASS == 2 && 64 < c.members.length))
  fast && (cKind c.desc == 0 || cKind c.desc == 2) && 1 < c.members.length

/-- Sends what may be sent on transfer xi. -/
def pushX : Nat → State → Nat → Nat → State
  | 0, s, _, _ => s
  | n + 1, s, slot, xi =>
    match collAt s slot with
    | none => s
    | some c =>
      match xAt c xi with
      | none => s
      | some x =>
        if !x.out || (c.limit != 0 && c.limit < x.step) || keyStall s c.ten then s
        else if x.mode = 2 then
          if x.ended || x.wins.isEmpty then s
          else
            match listReady s c x.need with
            | none => s
            | some l =>
              let k := (l.length + 126) / 127
              let s1 := (List.range (Nat.max 1 k)).foldl (fun acc i =>
                let part := (l.drop (127 * i)).take 127
                sendStep acc slot xi (127 * i) (Nat.max 1 k ≤ i + 1) (recPay (cFmt c.desc) (cMult c.desc) (cMultEn c.desc) (127 * i) part)) s
              updColl s1 slot (fun y => updX y xi (fun z => { z with ended := true, lo := 0, hi := l.length, nxt := l.length }))
        else if x.hi ≤ x.nxt then s
        else
          match x.wins.find? (fun (w : Nat × Nat) => w.1 ≤ x.nxt && x.nxt < w.2) with
          | none => s
          | some w =>
            let stop := Nat.min (Nat.min w.2 x.hi) (x.nxt + blkPerPkt (cFmt c.desc) (xA64 c x) (conf s c.ten))
            let bs := (List.range (stop - x.nxt)).map (fun k => x.nxt + k)
            if !(bs.all (blkReady c x)) then s
            else
              let r := bs.foldl (fun (a : State × List Blk) b => let z := blkOut c x b; (noteSat a.1 z.2, a.2 ++ [z.1])) (s, [])
              let s1 := sendStep r.1 slot xi x.nxt (x.hi ≤ stop) (stepPay (cFmt c.desc) (xA64 c x) (cMult c.desc) (cMultEn c.desc) x.nxt r.2)
              let s2 := updColl s1 slot (fun y => updX y xi (fun z => { z with nxt := stop }))
              let s3 := if x.mode = 1 && needChecks s c then updColl s2 slot (fun y => { y with chks := y.chks ++ [(xi, x.nxt, stop)] }) else s2
              pushX n s3 slot xi

/-- Sends every CHECK whose range has passed (R384). Bytes 12 to 15 give the first block, 16 to 19 the count with bit 31 for a pass. -/
def sendChecks (s : State) (slot : Nat) : State :=
  match collAt s slot with
  | none => s
  | some c =>
    let due := c.chks.filter (fun (k : Nat × Nat × Nat) => (List.range (k.2.2 - k.2.1)).all (fun i => c.okb.contains (k.2.1 + i)))
    let s1 := updColl s slot (fun y => { y with chks := y.chks.filter (fun (k : Nat × Nat × Nat) => !(due.contains k)) })
    due.foldl (fun acc (k : Nat × Nat × Nat) =>
      match xAt c k.1 with
      | some x => sendCtl acc c x.peer 6 x.step k.2.1 (k.2.2 - k.2.1 + 2 ^ 31)
      | none => acc) s1

/-! ### Windows (R356, R357, R373, R375) -/

/-- Windows that are open at this unit. (DEDUCED, log 80) -/
def winsOpen (c : Coll) : Nat := (c.xs.map (fun x => if x.out then 0 else x.wins.length)).sum
def winsOf (c : Coll) (peer : Nat) : Nat := (c.xs.map (fun x => if x.out || x.peer != peer then 0 else x.wins.length)).sum

/-- Grants the next window of transfer xi where the rules leave room. (DEDUCED, log 80) -/
def grantX (s : State) (slot xi : Nat) : State :=
  match collAt s slot with
  | none => s
  | some c =>
    match xAt c xi with
    | none => s
    | some x =>
      let more := if x.mode = 2 then x.nxt == 0 else if x.mode = 4 then !x.ended && x.wins.isEmpty && (x.nxt == 0 || !x.ended) else x.nxt < x.hi
      let room := if c.sw then winsOf c x.peer < 2 else if x.mode = 4 then winsOpen c < 16 else winsOpen c < 2
      if x.out || !more || !room || (c.limit != 0 && c.limit < x.step) || fenced s x.peer then s
      else
        let w := winBlks s c x
        let stop := if x.mode = 2 || x.mode = 4 then x.nxt + w else Nat.min x.hi (x.nxt + w)
        let bytes := if x.mode = 2 then cK c.desc * 16 else (stop - x.nxt) * blkBeta (cFmt c.desc) (xA64 c x)
        let s1 := sendCtl s c x.peer 1 x.step x.nxt bytes
        updColl s1 slot (fun y => updX y xi (fun z => { z with wins := z.wins ++ [(z.nxt, stop)], nxt := stop }))

def grantAll (s : State) (slot : Nat) : State :=
  match collAt s slot with
  | none => s
  | some c => (List.range c.xs.length).foldl (fun acc xi => grantX (grantX acc slot xi) slot xi) s

/-! ### Completion (R355, R397) -/

def xDone (c : Coll) (xi : Nat) (x : BXfer) : Bool :=
  if x.out then x.hi ≤ x.nxt && (x.mode != 2 || x.ended) && !(c.sent.any (fun e => e.xi == xi))
  else x.hi - x.lo ≤ x.got && ((x.mode != 2 && x.mode != 4) || x.ended)

def stepWrites (s : State) (slot n : Nat) : Bool :=
  s.xf.txns.any (fun t => match t.why with | .bondWr k m => k == slot && m ≤ n && !(txnAccepted t) | _ => false)

/-- Every transfer of the steps up to n is over. -/
def stepsOver (c : Coll) (n : Nat) : Bool := c.xs.zipIdx.all (fun (p : BXfer × Nat) => n < p.1.step || xDone c p.2 p.1)

def hasPart (c : Coll) (n : Nat) : Bool := c.xs.any (fun x => x.step == n)

/-- The last step that is complete at this member (R355): steps in which it takes no part complete with the next one in which it does. -/
def lastDone (s : State) (c : Coll) : Nat :=
  let ok := (List.range (c.total + 1)).filter (fun n => c.done < n && stepsOver c n && !(stepWrites s c.slot n) && (cKind c.desc != 4 || !c.table.isEmpty || c.sw) &&
    (hasPart c n || !(c.xs.any (fun x => n < x.step))))
  ok.foldl Nat.max c.done

/-- The whole result is held (R379, R390). -/
def resultHeld (s : State) (c : Coll) : Bool :=
  c.done == c.total && (cKind c.desc != 5 || (listReady s c 1).isSome) && cKind c.desc != 0 && cKind c.desc != 4 && !c.sw

/-- A collective has finished its part: steps, writes, checks (R397). -/
def collFinished (s : State) (c : Coll) : Bool :=
  c.done == c.total && c.later.isEmpty && c.pend.isEmpty && (c.sw || ownDone s c) && ((cKind c.desc != 4 && cKind c.desc != 5) || c.sw || c.copied) &&
  !(s.xf.txns.any (fun t => match t.why with | .bondWr k _ => k == c.slot | _ => false)) &&
  (c.sw || !(needChecks s c) || c.res.all (fun (p : Nat × Blk) => c.okb.contains p.1)) && c.chks.isEmpty

/-- Result ranges that R379 holds back may be written. -/
def flushLater (s : State) (slot : Nat) : State :=
  match collAt s slot with
  | none => s
  | some c =>
    let go := if reformable s c then c.done == c.total else c.redSteps ≤ c.done && !(c.limit != 0 && c.limit ≤ c.redSteps && c.redSteps < c.total)
    if c.later.isEmpty || !go then s
    else c.later.foldl (fun acc (p : Nat × List Blk) => collWrite acc slot (Nat.min c.total (c.redSteps + 1)) (dstPos c p.1) p.2) (updColl s slot (fun y => { y with later := [] }))

/-- What a segment or list that has ended leads to: a segment of the expected length is written, another is not (R374). -/
def segEnds (s : State) (slot : Nat) : State :=
  match collAt s slot with
  | none => s
  | some c =>
    c.xs.zipIdx.foldl (fun acc (p : BXfer × Nat) =>
      let x := p.1
      if !x.out && x.mode == 4 && x.ended && x.hi ≤ x.got && x.base == 0 then
        let e := blkE (cFmt c.desc)
        let rc := leAt c.table (16 * x.pidx + 8) 4
        let ro := leAt c.table (16 * x.pidx + 12) 4
        let l := (List.range x.hi).filterMap (fun k => tabFind ((p.2 + 1) * 2 ^ 32 + k) c.res)
        let a1 := updColl acc slot (fun y => updX { y with res := y.res.filter (fun (z : Nat × Blk) => !((p.2 + 1) * 2 ^ 32 ≤ z.1 && z.1 < (p.2 + 2) * 2 ^ 32)) } p.2 (fun z => { z with base := 1 }))
        if x.hi * e = rc then collWrite a1 slot 1 (ro / e) l
        else updColl a1 slot (fun y => { y with stats := y.stats ++ [badCmd y.word 2] })
      else acc) s

/-- The root's KLN_TREE program: result blocks go through it in order (R420). -/
def treeKiln (s : State) (slot : Nat) : State :=
  match collAt s slot with
  | none => s
  | some c =>
    if !(rootSw s c) || !(s.on KLN_TREE.EN c.bond) then s
    else
      let f := cFmt c.desc
      let u := unitBlks f
      let top := c.xs.foldl (fun m x => if x.mode == 3 then Nat.max m x.hi else m) 0
      let n := Nat.min u (top - c.fed)
      let bs := (List.range n).map (fun k => c.fed + k)
      match jobById s c.jobId with
      | none => s
      | some j =>
        if n = 0 || 32 ≤ j.queue.length || !(bs.all (fun b => verOf c b == contribAll c b)) then s
        else
          let z := quantAll s f (cScale c.desc) (bs.map (fun b => (accOf c b).getD (blkZero f)))
          let s1 := updJob z.1 j.id (fun x => { pushUnit x ((z.2.map (valBytes f false)).flatten) (if f = 3 then [] else z.2.map expByteOf) with last := top ≤ c.fed + n })
          updColl s1 slot (fun y => { y with fed := y.fed + n, okb := y.okb ++ bs })

/-- The own segment of an all-to-all-v is copied once it has been read. -/
def ownSegment (s : State) (slot : Nat) : State :=
  match collAt s slot with
  | none => s
  | some c =>
    let e := blkE (cFmt c.desc)
    let n := leAt c.table (16 * c.self) 4 / e
    let a := leAt c.table (16 * c.self + 4) 4 / e
    let r := leAt c.table (16 * c.self + 12) 4 / e
    if cKind c.desc != 4 || c.sw || c.table.isEmpty || c.copied || !((List.range n).all (fun k => (accOf c (a + k)).isSome)) then s
    else
      let l := (List.range n).filterMap (fun k => accOf c (a + k))
      let s1 := updColl s slot (fun y => { y with copied := true })
      if n * e = leAt c.table (16 * c.self + 8) 4 then collWrite s1 slot 1 r l
      else updColl s1 slot (fun y => { y with stats := y.stats ++ [badCmd y.word 2] })

/-- The candidate list is written once it is final (R371). -/
def topWrite (s : State) (slot : Nat) : State :=
  match collAt s slot with
  | none => s
  | some c =>
    if cKind c.desc != 5 || c.sw || c.copied then s
    else
      match listReady s c 1 with
      | none => s
      | some l =>
        let ins := (c.xs.filter (fun x => !x.out)).map (·.step)
        writeRecs (updColl s slot (fun y => { y with copied := true })) slot (ins.foldl Nat.max 0) l

/-- Windows whose blocks have all arrived and been taken are given back. -/
def winFull (c : Coll) (xi : Nat) (x : BXfer) (w : Nat × Nat) : Bool :=
  let got := ((c.seen.filter (fun (k : Nat × Nat × Nat) => k.1 == xi && w.1 ≤ k.2.1 && k.2.1 < w.2)).map (fun (k : Nat × Nat × Nat) => k.2.2)).sum
  (w.2 - w.1 ≤ got || (x.ended && x.hi ≤ x.got)) && !(c.pend.any (fun q => q.xi == xi && w.1 ≤ q.off && q.off < w.2))

def closeWins (s : State) (slot : Nat) : State :=
  updColl s slot (fun c => { c with xs := c.xs.zipIdx.map (fun (p : BXfer × Nat) => if p.1.out then p.1 else { p.1 with wins := p.1.wins.filter (fun w => !(winFull c p.2 p.1 w)) }) })

/-- Everything a slot can do now. -/
def collPump (s : State) (slot : Nat) : State :=
  match collAt s slot with
  | none => s
  | some c0 =>
    let s1 := closeWins (segEnds (absorb 64 (kilnTake 64 (rawTake 64 (collRead 64 s slot) slot) slot) slot) slot) slot
    let s2 := grantAll (kilnTake 64 (treeKiln s1 slot) slot) slot
    let s3 := (List.range c0.xs.length).foldl (fun acc xi => pushX 64 acc slot xi) s2
    collStatus (flushLater (topWrite (ownSegment (sendChecks s3 slot) slot) slot) slot) slot

/-- The contexts that wait for a step of the slot go on (R253). -/
def wakeBond (s : State) (slot : Nat) : State :=
  s.prog.ctx.foldl (fun acc p =>
    match (ctxOf acc p.1).wait with
    | some w => (match w.kind with
      | .bond k n => if k == slot && n ≤ acc.get BND_SLOT_STEP.STEP slot then releaseWait acc p.1 else acc
      | _ => acc)
    | none => acc) s

/-- The end of a collective that has finished: its status is of its marks and of its re-formation (R392, R408). -/
def collFinish (s : State) (slot : Nat) : State :=
  match collAt s slot with
  | none => s
  | some c =>
    if !(collFinished s c) then s
    else
      let mark := c.res.any (fun (p : Nat × Blk) => p.2.mark)
      collEnd s slot ((if mark then [⟨0x08, 0⟩] else []) ++ (if c.excluded = 0 && !c.fromResult then [] else [⟨0x09, c.epoch + 2 ^ 32 * c.excluded⟩]))

/-- BOND_STEP_COMPLETE: steps complete, and the collective with its last (R355, R397). -/
def bondStep (s : State) (slot : Nat) : State :=
  match collAt s slot with
  | none => s
  | some c =>
    let n := lastDone s c
    if n ≤ c.done && c.total != 0 && !(collFinished s c) then s
    else
      let s1 := count (updColl s slot (fun y => { y with done := n, timer := if n < y.total then some (now s) else none, lateAt := none, lateTo := 0, answered := false })) 0x0A slot 255 (some c.ten) (some c.tag) (1, slot) (n - c.done)
      let s3 := wakeBond (collStatus (flushLater s1 slot) slot) slot
      collFinish s3 slot

/-! ### Start (R249, R351, R386) -/

/-- What a collective reads of SRC: nothing away from the root of a broadcast, the own and sent segments of an all-to-all-v. -/
def readPlan (c : Coll) : List (Nat × Nat) :=
  match cKind c.desc with
  | 3 => if c.self = cRoot c.desc then [(0, cBlocks c.desc)] else []
  | 4 => []
  | _ => [(0, cBlocks c.desc)]

/-- Lays the plan of a collective and starts it from step 1 (also R391). -/
def collPlan (s : State) (slot : Nat) : State :=
  match collAt s slot with
  | none => s
  | some c =>
    let box := bondBox s c.bond
    let p := if c.sw then let q := planSwitch c box (ownFlat s) (s.get BND_BOND_TREE.PARENT c.bond); (q.1, q.2, 0, (0, 0)) else planMember c box
    let s1 := updColl s slot (fun y => { y with xs := p.1, total := p.2.1, redSteps := p.2.2.1, final := p.2.2.2, done := 0, timer := if p.2.1 = 0 then none else some (now s) })
    let s2 := if c.sw then s1 else updColl s1 slot (fun y => { y with toRead := readPlan y })
    -- the kiln operation of the contribution, or of the root's result ranges
    let kid := if c.sw then (if rootSw s c && s.on KLN_TREE.EN c.bond then some (s.get KLN_TREE.SLOT c.bond) else none)
      else if cKilnEn c.desc then some (cKslot c.desc) else none
    let s3 := match kid with
      | some k =>
        let w := match cFmt c.desc with | 2 => 1 | 3 => 2 | _ => 0
        let r := newJob s2 (if c.sw then 3 else 2) slot k c.ten c.tag w (blkE (cFmt c.desc)) 0 0
        updColl r.1 slot (fun y => { y with jobId := r.2 })
      | none => s2
    if cKind c.desc = 4 && !c.sw then
      (bondTxn s3 c .rd (cTable c.desc) (16 * c.members.length) [] (.bondTab slot)).1
    else s3

def collNew (s : State) (slot b op ten tag word : Nat) (d : BitVec 512) (limit : Nat) (sw : Bool) : Coll where
  slot := slot
  bond := b
  sw := sw
  op := op
  ten := ten
  tag := tag
  word := word
  desc := d
  limit := limit
  epoch := bondEpoch s b
  members := bondMembers s b
  self := s.get BND_BOND_STATUS.SELF b
  alg := algInForce s b ten
  a64 := s.on BND_BOND_CFG.PFMT b
  done := 0
  total := 0
  redSteps := 0
  final := (0, 0)
  xs := []
  acc := []
  ver := []
  res := []
  okb := []
  seen := []
  sent := []
  pend := []
  toRead := []
  raw := []
  fed := 0
  table := []
  recs := []
  lists := []
  later := []
  chks := []
  jobId := 0
  copied := false
  order := []
  ustart := []
  timer := none
  lateAt := none
  lateTo := 0
  answered := false
  excluded := 0
  fromResult := false
  stats := []

/-- TABLE has been read: segments are planned, and the own one is copied (R372). -/
def collTable (s : State) (slot : Nat) (d : List Byte) : State :=
  match collAt s slot with
  | none => s
  | some c =>
    let c1 := { c with table := d }
    let e := blkE (cFmt c.desc)
    let bad := (List.range c.members.length).any (fun j => leAt d (16 * j) 4 % e != 0 || leAt d (16 * j + 4) 4 % e != 0 || leAt d (16 * j + 8) 4 % e != 0 || leAt d (16 * j + 12) 4 % e != 0)
    let f := cFmt c.desc
    let plane (v x n o perm : Nat) : Bool := n == 0 || (planeOk s c.ten (v + o / e * blkBytes f) (n / e * blkBytes f) perm && (f == 3 || planeOk s c.ten (x + o / e) (n / e) perm))
    if bad then collEnd s slot [badCmd c.word 2]
    else if !((List.range c.members.length).all (fun j => plane (cSrc c.desc) (cSexp c.desc) (leAt d (16 * j) 4) (leAt d (16 * j + 4) 4) 0 && plane (cDst c.desc) (cDexp c.desc) (leAt d (16 * j + 8) 4) (leAt d (16 * j + 12) 4) 1)) then collEnd s slot [accessSt c.word 0xFFFF]
    else
      let segs := (List.range c.members.length).map (fun j => (leAt d (16 * j + 4) 4 / e, leAt d (16 * j + 4) 4 / e + leAt d (16 * j) 4 / e))
      updColl s slot (fun _ => { c1 with xs := planA2a c1, toRead := segs.filter (fun (r : Nat × Nat) => r.1 < r.2) })

end Sys2Proof.Machine
end

