-- ==== Sys2Proof/Machine/BondMsg.lean ====
section
/-! DEFINITION. What arrives at the bond engine and its timers: step data, control messages, late members and re-formation, fenced members
(R355 to R361, R382 to R396). -/

namespace Sys2Proof.Machine

open Sys2Proof

/-! ### Switches take part (R352, R396) -/

/-- A switch begins its part of a collective of bond b, where its slot is leased to the bond's tenant. -/
def swStart (s : State) (b ten tag : Nat) : State :=
  let slot := s.get BND_BOND_TREE.SLOT b
  let n := tabGet 0 b s.bnd.count
  let d := Config.treeDesc b n
  let s1 := { s with bnd := { s.bnd with count := tabSet 0 b (n + 1) s.bnd.count } }
  if !(isSw s) || !(leasedTo s ukBond slot ten) || !(unitUsable s ukBond slot) || (collAt s slot).isSome || cDescBad d || cKind d == 4 then bndCount s 0
  else
    let c := collNew s1 slot b 0 ten tag 0 d 0 true
    let s2 := collPlan { s1 with bnd := { s1.bnd with colls := s1.bnd.colls ++ [c] } } slot
    if s2.on KLN_TREE.EN b && (s2.get KLN_TREE.GEN b != s2.get KLN_SLOT_CFG.GEN (s2.get KLN_TREE.SLOT b)) then
      stopAll s2 slot 2 0 (ukKiln + 256 * s2.get KLN_TREE.GEN b + 65536 * s2.get KLN_TREE.SLOT b)
    else collPump s2 slot

/-! ### Step data (R358, R359, R360, R413, R415) -/

/-- The transfer that a packet belongs to: the step, the peer, and a window granted that covers its block offset. -/
def dataX (c : Coll) (p : Packet) : Option (Nat × BXfer) :=
  (c.xs.zipIdx.find? (fun (q : BXfer × Nat) => !q.1.out && q.1.step == p.seq && q.1.peer == p.src && q.1.lo ≤ p.e36 && p.e36 < q.1.nxt)).map (fun (q : BXfer × Nat) => (q.2, q.1))

/-- A whole, consistent payload of step data: blocks and CHECK, or records and CHECK. -/
def dataOk (f : Nat) (off : Nat) (pay : List Byte) : Option (List Blk × List Cand × Nat) :=
  let n := pay.length
  if n < 16 then none
  else
    let t := pay.drop (n - 16)
    let fl := leAt t 10 1
    let k := leAt t 11 1
    let body := pay.take (n - 16)
    let ck := leAt t 0 8
    if 2 ^ 61 ≤ ck || leAt t 12 4 != 0 then none
    else if bit fl 7 then
      let w := (List.range (2 * k)).map (fun i => leAt body (8 * i) 8)
      if body.length != 16 * k || recs61 (2 * off) w != ck then none
      else some ([], (List.range k).map (candOf body), ck)
    else
      let a64 := bit fl 4
      let vb := if a64 then 8 * blkE f else blkBytes f
      let len := k * vb + (if f = 3 then 0 else k)
      let l := blksOf f a64 body (body.drop (k * vb)) (bit fl 6) k
      if body.length != (len + 7) / 8 * 8 || k = 0 || check61 f off l != ck then none else some (l, [], ck)

/-- Step data whose payload is open has arrived. -/
def bondData (s : State) (p : Packet) : State :=
  let b := p.e32 % 4096
  if !(bondValid s b) || p.e32 / 65536 != bondEpoch s b % 65536 || p.ten != s.get BND_BOND_CFG.TENANT b then bndCount s 0
  else
    match collOfBond s b with
    | none => if isSw s then bndCount s 0 else sendStepAck s b p
    | some c =>
      match dataX c p with
      | none => s
      | some (xi, x) =>
        if c.seen.any (fun (k : Nat × Nat × Nat) => k.1 == xi && k.2.1 == p.e36) then sendStepAck s b p
        else
          let t := p.pay.drop (p.pay.length - 16)
          let fl := leAt t 10 1
          match dataOk (fl % 16 % 4) p.e36 p.pay with
          | none => s
          | some (l, cs, ck) =>
            if fl % 16 != cFmt c.desc || bit fl 7 != (x.mode == 2) then stopAll s c.slot 0x0F 0 2
            else if bit fl 5 != cMultEn c.desc || leAt t 8 2 != cMult c.desc then stopAll s c.slot 0x0F 0 8
            else
              let n := if x.mode = 2 then cs.length else l.length
              let s1 := sendStepAck s b p
              let s2 := updColl s1 c.slot (fun y =>
                updX { y with seen := y.seen ++ [(xi, p.e36, n)], pend := if x.mode = 2 then y.pend else y.pend ++ [⟨xi, p.e36, l, ck⟩], lists := if x.mode = 2 then tabPut xi (candMerge (cK y.desc) (tabGet [] xi y.lists) cs) y.lists else y.lists } xi (fun z =>
                  let z1 := if x.mode = 2 then { z with got := z.got + n } else z
                  if (x.mode == 2 || x.mode == 4) && bit p.flags 0 then { z1 with ended := true, hi := p.e36 + n } else z1))
              collPump s2 c.slot

/-! ### Late members (R386 to R393) -/

/-- The peers that a collective awaits in its next step: member indices, 0xFFFE for a switch; none where its own reads or kiln hold it. -/
def awaited (c : Coll) : List Nat :=
  let open_ := c.xs.zipIdx.filter (fun (p : BXfer × Nat) => !(xDone c p.2 p.1))
  let n := open_.foldl (fun m (p : BXfer × Nat) => Nat.min m p.1.step) (c.total + 1)
  let nm (x : BXfer) : Nat := if x.pidx = noIdx then 0xFFFE else x.pidx
  let now_ := open_.filter (fun (p : BXfer × Nat) => p.1.step == n)
  let ins := now_.filter (fun (p : BXfer × Nat) => !p.1.out &&
    ((c.seen.filter (fun (k : Nat × Nat × Nat) => k.1 == p.2)).map (fun (k : Nat × Nat × Nat) => k.2.2)).sum < (if p.1.hi ≤ p.1.lo then 1 else p.1.hi - p.1.lo))
  let outs := now_.filter (fun (p : BXfer × Nat) => p.1.out && (c.sent.any (fun e => e.xi == p.2) || !(p.1.wins.any (fun (w : Nat × Nat) => w.1 ≤ p.1.nxt && p.1.nxt < w.2))))
  let l := if ins.isEmpty then outs else ins
  if c.sw then (l.map (fun (p : BXfer × Nat) => nm p.1)).eraseDups else ((l.map (fun (p : BXfer × Nat) => nm p.1)).take 1)

/-- This device acts as coordinator on a report (R389). (DEDUCED, log 82) -/
def lateReport (s : State) (b i w tries : Nat) : State :=
  let x := (tabFind b s.bnd.coords).getD ⟨now s, [], [], []⟩
  let _ := tries
  let x1 := { x with from? := if i = noIdx then x.from? else x.from? ++ [i], named := if 0xFFFE ≤ w % 65536 then x.named else x.named ++ [w % 65536], fenced := if bit w 16 then x.fenced ++ [w % 65536] else x.fenced }
  { s with bnd := { s.bnd with coords := tabPut b x1 s.bnd.coords } }

/-- Sends a LATE that names w to the coordinator of index k (R388). -/
def sendLate (s : State) (slot w : Nat) : State :=
  match collAt s slot with
  | none => s
  | some c =>
    let k := c.lateTo % Nat.max 1 c.members.length
    let s1 := updColl s slot (fun y => { y with lateAt := some (now s), answered := memFlat c k == ownFlat s })
    if memFlat c k == ownFlat s then lateReport s1 c.bond (cIdx c) w k
    else sendCtl s1 c (memFlat c k) 3 (c.done + 1) w k

/-- BOND_STEP_TIMEOUT (R386, R387, R388). (DEDUCED, log 88) -/
def stepTimeout (s : State) (slot : Nat) : State :=
  match collAt s slot with
  | none => s
  | some c =>
    match c.timer with
    | none => s
    | some t =>
      if now s < t + stepTo s c.bond || collHeld c || !(coreRuns s) then s
      else
        let s1 := updColl (bndCount s 2) slot (fun y => { y with timer := some (now s) })
        if reformable s c && c.lateAt.isNone then (awaited c).foldl (fun acc w => sendLate acc slot w) s1 else s1

/-- LATE_RETRY_TIMEOUT (R388). -/
def lateRetry (s : State) (slot : Nat) : State :=
  match collAt s slot with
  | none => s
  | some c =>
    match c.lateAt with
    | none => s
    | some t =>
      if !(coreRuns s) || !(reformable s c) then s
      else if c.answered then
        (if now s < t + stepTo s c.bond then s else (awaited c).foldl (fun acc w => sendLate acc slot w) s)
      else if now s < t + 2 * stepTo s c.bond then s
      else (awaited c).foldl (fun acc w => sendLate acc slot w) (updColl s slot (fun y => { y with lateTo := (y.lateTo + 1) % Nat.max 1 y.members.length }))

/-- A LATE has arrived (R389). -/
def bondLate (s : State) (p : Packet) : State :=
  let b := p.e32 % 4096
  let w := leAt p.pay 12 4
  let tries := leAt p.pay 16 4
  let i := leAt p.pay 20 2
  if w = noIdx then
    match collOfBond s b with
    | some c => updColl s c.slot (fun y => { y with answered := true })
    | none => s
  else if !(s.on BND_BOND_STATUS.MEMBER b) || tries != s.get BND_BOND_STATUS.SELF b then bndCount s 0
  else
    let s1 := lateReport s b i w tries
    bondSend s1 p.ten p.tag b (bondEpoch s b) (s.get BND_BOND_STATUS.SELF b) p.src 3 p.seq noIdx tries []

/-- The reads of a slot that a restart abandons go on without effect. -/
def inertReads (s : State) (slot : Nat) : State :=
  { s with xf := { s.xf with txns := s.xf.txns.map (fun t => match t.why with | .bondRd k a n => if k == slot then { t with why := .bondRd 999 a n } else t | .bondTab k => if k == slot then { t with why := .bondTab 999 } else t | _ => t) } }

/-- The registers of a bond after re-formation (R391): survivors close up, EPOCH and ALG change. -/
def reformRegs (s : State) (b epoch : Nat) (keep : List (Nat × Nat)) (ring : Bool) : State :=
  let base := s.get BND_BOND_MEM.BASE b
  let s1 := keep.zipIdx.foldl (fun acc (p : (Nat × Nat) × Nat) => (acc.put BND_MEMBER.FLAT_ID p.1.1 (base + p.2)).put BND_MEMBER.LEAF p.1.2 (base + p.2)) s
  let s2 := (s1.put BND_BOND_MEM.COUNT keep.length b).put BND_BOND_EPOCH.EPOCH epoch b
  let alg := s2.get BND_BOND_CFG.ALG b
  bondSelf (bndCount (if alg = 1 || alg = 2 || ring then s2.put BND_BOND_CFG.ALG 0 b else s2) 3) b

/-- A broadcast of the complete result from the first survivor (R391). (DEDUCED, log 86) -/
def planResult (c : Coll) : List BXfer × Nat :=
  let m := c.members.length
  let i := c.self
  let mode := if cKind c.desc = 5 then 2 else 1
  let top := (c.res.foldl (fun t (p : Nat × Blk) => Nat.max t (p.1 + 1)) 0)
  let nb := if mode = 2 then 0 else if i = 0 then top else cBlocks c.desc * (if cKind c.desc = 1 then m + c.excluded else 1)
  ((if i = 0 then [] else [xIn i (memFlat c (i - 1)) (i - 1) (0, nb) mode 1]) ++
    (if i + 1 < m then [xOut (i + 1) (memFlat c (i + 1)) (i + 1) (0, nb) mode 1] else []), m - 1)

/-- The DST bytes of a collective become free values (R392). (DESIGN CHOICE, log 87) -/
def unspecDst (s : State) (c : Coll) : State :=
  let n := cBlocks c.desc * blkBytes (cFmt c.desc)
  let r := freeBytes s n
  (bondTxn r.2 c .wr (cDst c.desc) n r.1 (.bondWr c.slot 0)).1

/-- A survivor applies REFORM at once (R391, R392, R393). (DEDUCED, log 86) -/
def applyReform (s : State) (b epoch : Nat) (excl : List Nat) (result : Bool) : State :=
  if epoch != (bondEpoch s b + 1) % 2 ^ 32 then bndCount s 0
  else
    let old := bondMembers s b
    let keep := (old.zipIdx.filter (fun (p : (Nat × Nat) × Nat) => !(excl.contains p.2))).map (fun (p : (Nat × Nat) × Nat) => p.1)
    let swF := old.any (fun (p : Nat × Nat) => fenced s p.2)
    let self := s.get BND_BOND_STATUS.SELF b
    let s1 := reformRegs { s with bnd := { s.bnd with coords := tabDel b s.bnd.coords } } b epoch keep swF
    match collOfBond s b with
    | none => s1
    | some c =>
      let slot := c.slot
      let s2 := inertReads s1 slot
      let newIdx (i : Nat) : Nat := (List.range i).foldl (fun n k => if excl.contains k then n else n + 1) 0
      if !c.sw && excl.contains self then collEnd s2 slot [limitSt c.word (7 * 65536)]
      else if !c.sw && cKind c.desc = 3 && excl.contains (cRoot c.desc) && !result then unspecDst (collEnd s2 slot [limitSt c.word (7 * 65536)]) c
      else
        let s3 := match jobById s2 c.jobId with | some j => if cKind c.desc = 4 && !c.sw then s2 else dropJob s2 j.id | none => s2
        let c1 := { c with epoch := epoch, members := keep, self := s3.get BND_BOND_STATUS.SELF b, alg := algInForce s3 b c.ten, excluded := c.excluded + excl.length, sent := [], seen := [], pend := [], later := [], chks := [], okb := [], ver := [], lists := [], raw := [], order := [], ustart := [], fed := 0, lateAt := none, lateTo := 0, answered := false, done := 0, timer := some (now s) }
        if cKind c.desc = 4 && !c.sw then
          let xs := c.xs.zipIdx.map (fun (p : BXfer × Nat) =>
            let x := p.1
            if excl.contains x.pidx then { x with hi := 0, lo := 0, got := 0, nxt := 0, ended := true, wins := [], base := if x.out then x.base else 1 }
            else if xDone c p.2 x then { x with pidx := newIdx x.pidx, wins := [] }
            else { x with pidx := newIdx x.pidx, wins := [], nxt := 0, got := 0, ended := false, hi := if x.out then x.hi else 0 })
          collPump (updColl s3 slot (fun _ => { c1 with xs := xs, seen := [], table := c.table, raw := c.raw, order := c.order, ustart := c.ustart })) slot
        else if result && !c.sw && cKind c.desc != 0 then
          let recs := match listReady s c 1 with | some l => l | none => c.recs
          let c2 := { c1 with fromResult := true, redSteps := 0, recs := recs, toRead := [], jobId := 0, copied := c.copied && c1.self == 0, okb := (c.res.map (fun (p : Nat × Blk) => p.1)) }
          let p := planResult c2
          collPump (updColl s3 slot (fun _ => { c2 with xs := p.1, total := p.2 })) slot
        else
          let d := if cKind c.desc = 3 then BitVec.ofNat 512 (setBits c.desc.toNat (8 * 42) 16 (newIdx (cRoot c.desc))) else c.desc
          let c2 := { c1 with desc := d, acc := [], res := [], recs := [], copied := false, jobId := 0, table := [] }
          collPump (collPlan (updColl s3 slot (fun _ => c2)) slot) slot

/-- COORD_COLLECT_END for bond b (R389, R390). -/
def collectEnd (s : State) (b : Nat) : State :=
  match tabFind b s.bnd.coords with
  | none => s
  | some x =>
    if now s < x.at0 + 65536 || !(coreRuns s) then s
    else
      let self := s.get BND_BOND_STATUS.SELF b
      let n := bondCount s b
      let ex := (List.range n).filter (fun i => i != self && ((x.named.contains i && !(x.from?.contains i)) || x.fenced.contains i || i < self))
      let swF := x.fenced.contains 0xFFFE
      let s1 := { s with bnd := { s.bnd with coords := tabDel b s.bnd.coords } }
      let ten := s.get BND_BOND_CFG.TENANT b
      let tag := match collOfBond s b with | some c => c.tag | none => 0
      let members := bondMembers s b
      let goTo (f : State → Nat → State) (z : State) : State :=
        (((members.map (fun (p : Nat × Nat) => p.1)) ++ (members.map (fun (p : Nat × Nat) => p.2))).eraseDups.filter (fun d => d != ownFlat s && d != 0xFFFF)).foldl f z
      if ex.isEmpty && !swF then s1
      else if 64 < ex.length then
        let s2 := goTo (fun acc d => bondSend acc ten tag b (bondEpoch s b) self d 5 0 0 5 []) s1
        match collOfBond s b with
        | some c => collEnd s2 c.slot [limitSt c.word (7 * 65536)]
        | none => s2
      else
        let result := match collOfBond s b with | some c => resultHeld s c && cKind c.desc != 0 | none => false
        let epoch := (bondEpoch s b + 1) % 2 ^ 32
        let tail := (((ex.map (fun i => leBytes 2 i)) ++ List.replicate (64 - ex.length) (leBytes 2 0xFFFF)).flatten) ++ [BitVec.ofNat 8 (b2n result)]
        let s2 := goTo (fun acc d => bondSend acc ten tag b epoch self d 4 0 0 0 tail) s1
        applyReform s2 b epoch ex result

/-! ### Control messages (R360, R361) -/

/-- A GRANT gives a transfer of this sender a window. -/
def bondGrant (s : State) (c : Coll) (p : Packet) : Option State :=
  let off := leAt p.pay 12 4
  let cnt := leAt p.pay 16 4
  match c.xs.zipIdx.find? (fun (q : BXfer × Nat) => q.1.out && q.1.step == p.seq && q.1.peer == p.src && q.1.lo ≤ off && (off < q.1.hi || q.1.mode == 2) && !(q.1.wins.any (fun (w : Nat × Nat) => w.1 == off))) with
  | none => none
  | some (x, xi) =>
    let n := if x.mode = 2 then 4096 else cnt / blkBeta (cFmt c.desc) (xA64 c x)
    some (collPump (updColl s c.slot (fun y => updX y xi (fun z => { z with wins := z.wins ++ [(off, off + n)] }))) c.slot)

/-- A CHECK (R384, R385). (DEDUCED, log 89) -/
def bondCheck (s : State) (c : Coll) (p : Packet) : State :=
  let off := leAt p.pay 12 4
  let cnt := leAt p.pay 16 4
  if bit cnt 31 then collFinish (collPump (updColl s c.slot (fun y => { y with okb := y.okb ++ (List.range (cnt % 2 ^ 31)).map (fun k => off + k) })) c.slot) c.slot
  else collEnd (bndCount s 4) c.slot [⟨4, c.epoch + 2 ^ 32 * off⟩]

def holdEarly (s : State) (b : Nat) (p : Packet) : State :=
  if (s.bnd.early.filter (fun (e : Nat × Packet) => e.1 == b)).length < 4096 then { s with bnd := { s.bnd with early := s.bnd.early ++ [(b, p)] } } else s

/-- A control message acts on a running collective, or waits for its collective (R356). -/
def ctlAct (s : State) (b : Nat) (p : Packet) : State :=
  let kind := leAt p.pay 0 1
  match collOfBond s b with
  | none =>
    if kind = 2 then s
    else if isSw s && kind = 1 then
      let s1 := swStart s b p.ten p.tag
      match collOfBond s1 b with
      | some c => (bondGrant s1 c p).getD s1
      | none => s1
    else holdEarly s b p
  | some c =>
    match kind with
    | 1 =>
      match bondGrant s c p with
      | some t => t
      | none =>
        if c.sw then
          -- a window granted again: the bond's next collective has begun
          let s1 := swStart (collEnd (inertReads s c.slot) c.slot []) b p.ten p.tag
          match collOfBond s1 b with
          | some c1 => (bondGrant s1 c1 p).getD s1
          | none => s1
        else holdEarly s b p
    | 2 => collPump (updColl s c.slot (fun y => { y with sent := y.sent.filter (fun e => !(e.off == leAt p.pay 12 4 && e.pkt.seq == p.seq && e.pkt.dst == p.src)) })) c.slot
    | _ => bondCheck s c p

/-- A control message has arrived. (DEDUCED, log 85) -/
def bondCtl (s : State) (p : Packet) : State :=
  let b := p.e32 % 4096
  let kind := leAt p.pay 0 1
  let ep := leAt p.pay 4 4
  if !(bondValid s b) || kind = 0 || 6 < kind || p.ten != s.get BND_BOND_CFG.TENANT b then bndCount s 0
  else if kind = 4 then
    applyReform s b ep (((List.range 64).map (fun k => leAt p.pay (24 + 2 * k) 2)).filter (fun i => i != 0xFFFF)) (leAt p.pay 152 1 == 1)
  else if kind = 5 then
    match collOfBond s b with
    | some c =>
      let st := leAt p.pay 16 2
      let s1 := if st = 4 then bndCount s 4 else if st = 0x0C then bndCount s 5 else s
      collEnd s1 c.slot [stopStat c st (leAt p.pay 12 4) (leAt p.pay 18 2)]
    | none => s
  else if ep != bondEpoch s b then bndCount s 0
  else if kind = 3 then bondLate s p
  else ctlAct s b p

/-- Messages that came before the collective are taken at its start. -/
def takeEarly (s : State) (b : Nat) : State :=
  let l := (s.bnd.early.filter (fun (e : Nat × Packet) => e.1 == b)).map (fun (e : Nat × Packet) => e.2)
  l.foldl (fun acc p => ctlAct acc b p) { s with bnd := { s.bnd with early := s.bnd.early.filter (fun (e : Nat × Packet) => e.1 != b) } }

/-- A member's collective starts on a slot (R249): plan, windows, reads. -/
def bondBegin (s : State) (slot b op ten tag word : Nat) (d : BitVec 512) (limit : Nat) : State :=
  let c := collNew s slot b op ten tag word d limit false
  let s1 := collPlan { s with bnd := { s.bnd with colls := s.bnd.colls ++ [c] } } slot
  collPump (takeEarly s1 b) slot

/-! ### Resends, memory, fences, leases -/

/-- STEP_RESEND_TIMEOUT of entry k of a slot (R358). -/
def stepResend (s : State) (slot k : Nat) : State :=
  match collAt s slot with
  | none => s
  | some c =>
    match c.sent[k]? with
    | none => s
    | some e =>
      match e.last with
      | none => s
      | some t =>
        if now s < t + s.get HOD_XPORT_CFG.RTO * 64 || !(coreRuns s) then s
        else
          let r := sealPkt (bndCount s 1) 0x40 { e.pkt with kep := curEpoch s c.ten }
          updColl (enqueue r.1 r.2 33 none none none none none) slot (fun y => { y with sent := y.sent.zipIdx.map (fun (p : BSent × Nat) => if p.2 == k then { p.1 with last := some (now s) } else p.1) })

/-- Contribution bytes have been read, or the read was refused. -/
def bondRead (s : State) (slot key len : Nat) (d : List Byte) (refused : Bool) : State :=
  match collAt s slot with
  | none => s
  | some c =>
    if refused then collEnd (inertReads s slot) slot [accessSt c.word 0xFFFF]
    else
      let _ := len
      collPump (updColl s slot (fun y => { y with raw := tabPut key d y.raw })) slot

/-- A read of the TABLE of an all-to-all-v has returned its data (R361). (DEDUCED, log 38) -/
def bondTabRead (s : State) (slot : Nat) (d : List Byte) (refused : Bool) : State :=
  match collAt s slot with
  | none => s
  | some c => if refused then collEnd s slot [accessSt c.word 0xFFFF] else collPump (collTable s slot d) slot

/-- A result write was refused. -/
def bondWrote (s : State) (slot : Nat) (refused : Bool) : State :=
  match collAt s slot with
  | none => s
  | some c => if refused then collEnd (inertReads s slot) slot [accessSt c.word 0xFFFF] else collFinish s slot

/-- Every slot acts on peers that are fenced (R394, R395). -/
def bondFences (s : State) : State :=
  s.bnd.colls.foldl (fun acc c0 =>
    match collAt acc c0.slot with
    | none => acc
    | some c =>
      match (c.xs.zipIdx.find? (fun (p : BXfer × Nat) => !(xDone c p.2 p.1) && fenced acc p.1.peer)) with
      | none => acc
      | some (x, _) =>
        if reformable acc c then
          (if c.lateAt.isSome then acc else sendLate acc c.slot ((if x.pidx = noIdx then 0xFFFE else x.pidx) + 65536))
        else if c.sw then acc else stopAll acc c.slot 3 0 x.peer) s

/-- A slot's lease changes (R349, R552): its collective ends with ABORTED. -/
def bondAbort (s : State) (slot : Nat) : State :=
  match collAt s slot with
  | none => s
  | some c => collEnd (inertReads s slot) slot [abortedSt c.word]

end Sys2Proof.Machine
end

