-- ==== Sys2Proof/Machine/Target.lean ====
section
/-! DEFINITION. The target engine (06, 07, 13): sequenced flows, the checks at the target, performing requests, mailboxes, the page store,
acknowledgements. -/

namespace Sys2Proof.Machine

open Sys2Proof

/-! ### Flows at the destination (R265, R285) -/

def RxFlow.zero : RxFlow := ⟨0, 0, none, 0, none, [], none, none⟩
def rxOf (s : State) (k : Nat) : RxFlow := tabGet RxFlow.zero k s.xf.rx
def setRx (s : State) (k : Nat) (x : RxFlow) : State := { s with xf := { s.xf with rx := tabSet RxFlow.zero k x s.xf.rx } }
def updRx (s : State) (k : Nat) (f : RxFlow → RxFlow) : State := setRx s k (f (rxOf s k))

def mcBase : Nat := 2 ^ 24
def rxKey (p : Packet) : Nat := if isGroup p.dst then mcBase + p.src * 65536 + p.dst else p.src * 16 + p.vc
def keyMc (k : Nat) : Bool := mcBase ≤ k
def keySrc (k : Nat) : Nat := if keyMc k then (k - mcBase) / 65536 else k / 16

/-- The flow and number of the packet for which an access is made, and whether it writes. -/
def whyFlow (w : Why) : Option (Nat × Nat × Bool) :=
  match w with
  | .pktWr f q => some (f, q, true)
  | .pktRd f q _ _ => some (f, q, false)
  | .msgWr f q _ => some (f, q, true)
  | .tag f p => some (f, p.seq, false)
  | .merge f p _ => some (f, p.seq, true)
  | _ => none

def flowTxns (s : State) (k : Nat) : List Txn := s.xf.txns.filter (fun t => match whyFlow t.why with | some (f, _, _) => f == k | none => false)

/-- Accesses of the flow that are not accepted: later ones of the flow wait for them (R305). -/
def flowAfter (s : State) (k : Nat) : List Nat := ((flowTxns s k).filter (fun t => !(txnAccepted t))).map (·.id)

/-- Unfinished writes of packets from a source device (R246). (DEDUCED, log 129) -/
def srcWrites (s : State) (src : Nat) : List Nat :=
  (s.xf.txns.filter (fun t => match whyFlow t.why with | some (f, _, w) => w && keySrc f == src | none => false)).map (·.id)

/-- The least of a list of numbers counted from a base, modulo 2^32; the given bound where the list is empty. -/
def seqLeast (base bound : Nat) (l : List Nat) : Nat :=
  l.foldl (fun m q => if sub32 q base < sub32 m base then q else m) bound

def txnSeq (t : Txn) : Nat := match whyFlow t.why with | some (_, q, _) => q | none => 0

/-- Forwards under way of packets of a flow (R296). -/
def fwdSeqs (s : State) (k : Nat) : List Nat :=
  s.xf.ops.filterMap (fun o => if o.kind = .pageFwd then (match o.org with | some g => if g.2.2 == k then some g.2.1 else none | none => none) else none)

/-- The number after the last packet accepted in order (R269, R307). -/
def ackNext (s : State) (k : Nat) : Nat :=
  let x := rxOf s k
  seqLeast x.acked x.expected (((flowTxns s k).filter (fun t => !(txnAccepted t))).map txnSeq ++ jobSeqs s k)

/-- The number after the coherent watermark (R308). -/
def wmNext (s : State) (k : Nat) : Nat :=
  let x := rxOf s k
  seqLeast x.wm x.expected (((flowTxns s k).filter (fun t => isWrite t.op || (match t.why with | .merge _ _ _ => true | .pktWr _ _ => true | _ => false))).map txnSeq ++ jobSeqs s k ++ fwdSeqs s k)

/-! ### Acknowledgements (R269, R282, R285, R455) -/

/-- The highest request number up to which every response from a peer has arrived (R282). -/
def rspWm (s : State) (dst vc : Nat) : Nat :=
  let f := flowKey dst vc false
  let n := (txFlow s f).next
  let out := ((allReplay s).filter (fun r => r.flow == f && r.rsp)).map (·.seq)
  (seqLeast (n + 2 ^ 31) n out + (2 ^ 32 - 1)) % 2 ^ 32

def ackPacket (s : State) (k : Nat) : Packet :=
  let mc := keyMc k
  let src := keySrc k
  let g := if mc then k % 65536 else 0
  let vc := if mc then 1 else k % 16
  ⟨src, ownFlat s, serviceDom, 3, 0, 0x33, 0, 0, (ackNext s k + (2 ^ 32 - 1)) % 2 ^ 32, 0, 0, 0, 0, 0, 0, 0, ownFlat s,
   leBytes 4 ((wmNext s k + (2 ^ 32 - 1)) % 2 ^ 32) ++ leBytes 4 (rspWm s src vc) ++ [BitVec.ofNat 8 (vc + 8 * b2n mc), 0] ++
   leBytes 2 (if mc then mcSelf s g else 0) ++ leBytes 2 g ++ leBytes 2 0⟩

/-- Sends the acknowledgement of a flow now. -/
def sendAck (s : State) (k : Nat) : State :=
  let n := ackNext s k
  let w := wmNext s k
  let s1 := updRx s k (fun x => { x with acked := n, oldest := if n = x.expected then none else x.oldest.map (fun _ => now s), wm := w, wmAt := none })
  sendFormed s1 (ackPacket s k)

/-- Acknowledgements that are due by count, and the time at which the watermark moved (R269, R308); a leaf acknowledges each packet (R285). -/
def ackPass (s : State) : State :=
  s.xf.rx.foldl (fun acc (p : Nat × RxFlow) =>
    let x := rxOf acc p.1
    let d := sub32 (ackNext acc p.1) x.acked
    if (keyMc p.1 && 0 < d) || 16 ≤ d then sendAck acc p.1
    else if wmNext acc p.1 != x.wm && x.wmAt.isNone then updRx acc p.1 (fun y => { y with wmAt := some (now acc) })
    else acc) s

/-- ACK_TIMER of a flow (R269, R308). -/
def ackTimer (s : State) (k : Nat) : State :=
  let x := rxOf s k
  let due (o : Option Nat) : Bool := match o with | some t => t + 512 ≤ now s | none => false
  if coreRuns s && ((due x.oldest && ackNext s k != x.acked) || due x.wmAt) then sendAck s k else s

/-! ### Responses -/

/-- The requester of a packet: ORIG of a forward (Table - Header extension). -/
def origOf (p : Packet) : Nat := if p.vc = 2 && !(hasFlag p flMcast) then p.e40 else p.src
def origSeq (p : Packet) : Nat := if p.vc = 2 && !(hasFlag p flMcast) then p.e32 else p.seq

/-- A response to a request, under the epoch of the request (R297). -/
def rspPacket (s : State) (p : Packet) (op : Nat) (pay : List Byte) : Packet :=
  ⟨origOf p, ownFlat s, p.ten, 3, p.kep, op, 0, 1, origSeq p, 0, p.tag, 0, p.hod, p.hgen, 0, 0, ownFlat s, pay⟩

def sendRsp (s : State) (p : Packet) (op : Nat) (pay : List Byte) : State :=
  let r := sealPkt s op (rspPacket s p op pay)
  sendFormed r.1 r.2

/-- Refuses a packet: its number is consumed, and the requester learns why (R268). -/
def refuse (s : State) (p : Packet) (st detail : Nat) : State :=
  sendFormed s (nackOf s { p with src := origOf p, seq := origSeq p } st detail)

def accDetail (s : State) : Nat := ownFlat s * 65536

/-! ### What a request accesses -/

/-- The opcode whose effect a packet has: that of the forwarded request for PAGE_FWD, which carries it in its KSLOT byte. -/
def innerOp (p : Packet) : Nat := if p.op = 0x21 then p.e36 % 256 else p.op

/-- Bytes of data that a packet brings, sealing aside. -/
def dataLen (s : State) (p : Packet) : Nat :=
  if conf s p.ten && (p.op = 0x10 || p.op = 0x20 || (p.op = 0x21 && innerOp p = 0x10)) then p.pay.length - 24 else p.pay.length

/-- Length of the access, and its window permission: 0 RD, 1 WR, 2 ATOM. -/
def reqLen (s : State) (p : Packet) : Nat :=
  match innerOp p with
  | 0x11 => if p.op = 0x21 then bits p.e36 16 16 else p.e32
  | 0x12 => if bit (leAt p.pay 0 8) 4 then 16 else 8
  | 0x13 => p.e32
  | 0x14 => 8
  | 0x15 => 8
  | 0x16 => 8
  | _ => dataLen s p
def reqPerm (p : Packet) : Nat := match innerOp p with | 0x11 => 0 | 0x13 => 0 | 0x14 => 0 | 0x12 => 2 | _ => 1

def isKilnPkt (p : Packet) : Bool := hasFlag p flKiln && (p.op == 0x10 || p.op == 0x20)

/-- The request expects a response beside its acknowledgement. -/
def wantsRsp (p : Packet) : Bool :=
  match innerOp p with | 0x11 => true | 0x12 => p.e32 == 0 | 0x13 => true | 0x14 => true | _ => false

/-! ### Mailboxes (R288 to R293) -/

def mboxLive (s : State) : List Nat :=
  s.regs.filterMap (fun p =>
    if regOff .HOD_MBOX_CFG 0 0 ≤ p.1 ∧ p.1 < regOff .HOD_MBOX_CFG 4104 0 ∧ (p.1 - regOff .HOD_MBOX_CFG 0 0) % 32 = 0 ∧ p.2.toNat.testBit 31 = true
    then some ((p.1 - regOff .HOD_MBOX_CFG 0 0) / 32) else none)

def mboxBase (s : State) (b : Nat) : Nat := s.get HOD_MBOX_ADDR.ADDR b * 2 ^ 22

/-- The enabled mailbox whose message space holds a HOST offset. -/
def mboxAt (s : State) (off : Nat) : Option Nat := (mboxLive s).find? (fun b => mboxBase s b ≤ off && off < mboxBase s b + 2 ^ 21)

def mboxTen (b : Nat) : Nat := idxTen (b / 8)

/-- Records of a ring that are reserved and not written. -/
def recsDue (s : State) (b : Nat) : Nat := ((s.xf.msgs.map (fun m => (m.recs.filter (fun (r : Nat × Nat) => r.1 == b)).length)).sum)

def mboxFull (s : State) (b : Nat) : Bool :=
  2 ^ (s.get HOD_MBOX_CFG.LOG2_SIZE b) ≤ sub32 (s.get HOD_MBOX_TAIL.COUNT b) (s.get HOD_MBOX_HEAD.COUNT b) + recsDue s b

/-- The mailboxes that SHARE names with mailbox b (R293). -/
def mboxShares (s : State) (b : Nat) : List Nat :=
  ((bitsSet 8 (s.get HOD_MBOX_CFG.SHARE b)).map (fun m => b / 8 * 8 + m)).filter (fun x => x != b)

def freeHandle (s : State) : Option Nat := (List.range 16384).find? (fun h => (tabFind h s.xf.handles).isNone && !(s.xf.msgs.any (fun m => m.handle == h)))

def poolSize (p : Nat) : Nat := match p with | 0 => 4096 | 1 => 65536 | _ => 2 ^ 21
def poolFor (len : Nat) : Nat := if len ≤ 4096 then 0 else if len ≤ 65536 then 1 else 2

def updMsg (s : State) (id : Nat) (f : Msg → Msg) : State :=
  { s with xf := { s.xf with msgs := s.xf.msgs.map (fun m => if m.id == id then f m else m) } }
def msgById (s : State) (id : Nat) : Option Msg := s.xf.msgs.find? (fun m => m.id == id)
def dropMsg (s : State) (id : Nat) : State := { s with xf := { s.xf with msgs := s.xf.msgs.filter (fun m => m.id != id) } }

/-- Asks the manager for a buffer (R290, R700). -/
def bpmAsk (s : State) (msg pool ten : Nat) : State :=
  let used := s.xf.bpm.map (·.id)
  let id := ((List.range 256).find? (fun i => !(used.contains i))).getD 256
  { s with xf := { s.xf with bpm := s.xf.bpm ++ [⟨id, msg, pool, ten, none, false⟩] } }

/-- A first packet: the record is reserved and a buffer asked for; otherwise the status that refuses it (R289, R290, R293). -/
def msgBegin (s : State) (k b : Nat) (p : Packet) : Except (Nat × Nat) State :=
  let off := offsetOf p.target - mboxBase s b
  let p0 := poolFor p.e32
  let sh := mboxShares s b
  if 2 ^ 21 < p.e32 || off != 0 then .error (7, accDetail s)
  else if 256 ≤ s.xf.msgs.length || mboxFull s b || sh.any (fun x => mboxFull s x) then .error (0x0D, p0)
  else
    match freeHandle s with
    | none => .error (0x0D, p0)
    | some h =>
      let id := s.xf.nextMsg
      let m : Msg := ⟨id, k, b, p.ten, p.src, p.tag, p.e32, 0, p0, p0, 0, h, sh, (b :: sh).map (fun x => (x, 0)), false, 0, some p⟩
      .ok (bpmAsk { s with xf := { s.xf with msgs := s.xf.msgs ++ [m], nextMsg := id + 1 } } id p0 p.ten)

/-- Writes a packet's bytes into the buffer of its message. -/
def msgWrite (s : State) (k id : Nat) (p : Packet) (d : List Byte) : State :=
  match msgById s id with
  | none => s
  | some m =>
    let off := offsetOf p.target - mboxBase s m.box
    let r := newTxn s 0 .wr 0 (m.addr + off) d.length d (.msgWr k p.seq id) (flowAfter s k) [] none p.ten
    updMsg r.1 id (fun x => { x with got := x.got + d.length, lastAt := now s, first := none })

/-- The arrival record of a message in mailbox b with a tail count (R292, R293). -/
def arrBytes (s : State) (m : Msg) (b tail : Nat) : List Byte :=
  let phase := (tail / 2 ^ (s.get HOD_MBOX_CFG.LOG2_SIZE b) + 1) % 2
  leBytes 8 m.addr ++ leBytes 4 m.len ++ leBytes 2 m.handle ++ leBytes 2 m.src ++ leBytes 8 m.lastAt ++ leBytes 4 m.tag ++
  [BitVec.ofNat 8 m.pool, BitVec.ofNat 8 (phase + 2 * b2n (!m.shares.isEmpty) + 4 * b2n (!(sure s))), 0, 0]

/-- A message whose bytes are all coherent: its records are written (R292). -/
def msgFinish (s : State) (id : Nat) : State :=
  match msgById s id with
  | none => s
  | some m =>
    if m.got < m.len || !m.open? || s.xf.txns.any (fun t => match t.why with | .msgWr _ _ j => j == id | .arrRec j _ => j == id | _ => false) then s
    else
      let s1 := m.recs.foldl (fun acc (r : Nat × Nat) =>
        let b := r.1
        let n := acc.get HOD_MBOX_TAIL.COUNT b
        let base := (acc.get HOD_MBOX_RING_LO.BASE b) * 4096 + 2 ^ 32 * acc.get HOD_MBOX_RING_HI.BASE b
        let a := base + 32 * (n % 2 ^ (acc.get HOD_MBOX_CFG.LOG2_SIZE b))
        (newTxn (acc.inc HOD_MBOX_TAIL.COUNT b) 0 .wr 0 a 32 (arrBytes acc m b n) (.arrRec id b) [] [] none m.ten).1) s
      dropMsg { s1 with xf := { s1.xf with handles := tabPut m.handle ⟨m.ten, m.pool, m.addr, 1 + m.shares.length⟩ s1.xf.handles } } id

/-! ### The page store (R295 to R297, R568) -/

def pageOf (a : Nat) : Nat := offsetOf a / 65536
def isPage (s : State) (p : Packet) : Bool := isMem s && spaceOf p.target == 0 && pageOf p.target < s.get HOD_PS_CFG.PAGES && p.ten != serviceDom
def tagAddr (s : State) (pg : Nat) : Nat := (s.rg .HOD_PS_TAGBASE_LO).toNat + 2 ^ 32 * s.get HOD_PS_TAGBASE_HI.ADDR + 16 * pg

/-- Bricks of a page under the storage key of an epoch (R568): the tweak is GEN * 2^40 + P * 512 + brick. -/
def pageXts (f : List Byte → Nat → List Byte → List Byte) (s : State) (ten epoch gen a : Nat) (d : List Byte) : List Byte :=
  ((List.range (d.length / 128)).map (fun k =>
    let o := a + 128 * k
    let b := f (storeKey s ten epoch) (gen * 2 ^ 40 + o / 65536 * 512 + o % 65536 / 128) ((d.drop (128 * k)).take 128)
    (b ++ List.replicate 128 0).take 128)).flatten

/-- The bricks that hold a range: first offset and length. -/
def brickSpan (a n : Nat) : Nat × Nat := (a / 128 * 128, (a + n + 127) / 128 * 128 - a / 128 * 128)

/-- Starts the tag read of a page request; the flow waits for it. -/
def tagRead (s : State) (k : Nat) (p : Packet) : State :=
  (newTxn s 0 .rd 0 (tagAddr s (pageOf p.target)) 16 [] (.tag k p) (flowAfter s k) [] none p.ten).1

/-- An operation of the target engine with one packet or copy to send (R232, R296). -/
def targetOp (s : State) (kind : OpKind) (p : Packet) (k dst raddr laddr len epoch : Nat) (fixed : Option Packet) : State :=
  let id := s.xf.nextOp
  let d : BitVec 512 := BitVec.ofNat 512 ((if isKilnPkt { p with op := 0x20 } then (p.e36 % 256 + 256) * 2 ^ 224 + (p.e36 / 256 % 256) * 2 ^ 480 else 0) + epoch * 2 ^ 496 + p.lgen * 2 ^ 504)
  let o : Op := ⟨id, 1024, 0, 0, kind, d, ⟨0, 0, false, false⟩, p.ten, p.tag, if kind = .formed then 0 else 2, hodTarget, p.hgen, [dst], [⟨dst, raddr, laddr, len, 0⟩], 0, [], none, true, [], false, none, [], 0, 0, 0, false, [], p.hod, 0, none, some (origOf p, origSeq p, k), fixed⟩
  { s with xf := { s.xf with ops := s.xf.ops ++ [o], nextOp := id + 1 } }

/-- One notice leaves for a pallet's source (R522): a PUT on VC0 under the service domain to `CIR_NOTICE` there. No request is behind it. -/
def noticeOut (s : State) (x : Nat × Nat) : State :=
  let a := 2 * 2 ^ 52 + regOff .CIR_NOTICE 0 0
  let p : Packet := ⟨x.1, ownFlat s, serviceDom, 0, 0, 0x10, 0, 1, 0, a, 0, 0, 0, 0, 0, 0, ownFlat s, leBytes 4 x.2⟩
  let id := s.xf.nextOp
  let s1 := targetOp s .formed p 0 x.1 a 0 4 0 (some p)
  { s1 with xf := { s1.xf with ops := s1.xf.ops.map (fun o => if o.id == id then { o with org := none } else o) } }

/-- Notices that wait to be sent. (DESIGN CHOICE, log 13) -/
def noticePass (s : State) : State := s.net.toSend.foldl noticeOut { s with net := { s.net with toSend := [] } }

/-- Forwards a request to the new holder (R296). -/
def pageForward (s : State) (k : Nat) (p : Packet) (fid fpage : Nat) : State :=
  let t := fpage * 65536 + offsetOf p.target % 65536
  let pay := if innerOp p = 0x10 && conf s p.ten then (openPay s p).getD [] else p.pay
  let q : Packet := { p with dst := fid, src := ownFlat s, vc := 2, op := 0x21, hops := 0, flags := p.flags &&& 1, target := t, e32 := p.seq, e36 := p.op + 65536 * (if p.op = 0x11 then p.e32 else 0), e40 := p.src, pay := pay }
  targetOp s .pageFwd p k fid t 0 p.pay.length 0 (some q)

/-! ### Checks (R548) -/

/-- Checks 1 and 2 and the window part of check 3: none where they pass, else status and detail. -/
def targetCheck (s : State) (p : Packet) : Option (Nat × Nat) :=
  let sp := spaceOf p.target
  let off := offsetOf p.target
  let n := reqLen s p
  if !(tenActive s p.ten) then some (7, accDetail s)
  else if badSpace p.target then some (0x0F, 2 * 65536)
  else if sp = 2 && (p.ten != serviceDom || p.vc != 0 || innerOp p = 0x12) then some (7, accDetail s)
  else if !(inSpace sp off n) then some (7, accDetail s)
  else if sp = 2 && (off % 4 != 0 || n % 4 != 0) then some (0x0F, 9 * 65536)
  else if sp = 0 && isSw s then some (7, accDetail s)
  else if (innerOp p = 0x12 || innerOp p = 0x14 || innerOp p = 0x15 || innerOp p = 0x16) && off % n != 0 then some (0x0F, 9 * 65536)
  else none

/-- Check 3 for a target that is in no mailbox and no page (R545), with the protected ranges of R615. -/
def windowCheck (s : State) (p : Packet) : Option (Nat × Nat) :=
  let sp := spaceOf p.target
  let off := offsetOf p.target
  if isKilnPkt p then none
  else if sp = 2 then none
  else if !(winOk s p.ten sp off (reqLen s p) (reqPerm p) true) || (sp == 1 && reqPerm p != 0 && spwProtected s off (reqLen s p)) then some (7, accDetail s)
  else none

/-- Checks 4 and 5: the payload in the clear, or status and detail. -/
def openCheck (s : State) (p : Packet) (page : Bool) : Except (Nat × Nat) (List Byte) :=
  let sealed_ := conf s p.ten && (p.op == 0x10 || p.op == 0x20 || (p.op == 0x21 && innerOp p == 0x10))
  let reads := conf s p.ten && innerOp p == 0x11
  if (page || sealed_ || reads) && !(epochLive s p.ten p.kep) then .error (6, p.kep)
  else if sealed_ then
    match openPay s p with
    | some d => .ok d
    | none => .error (7, accDetail s)
  else .ok p.pay

/-- The counts of a refusal by check 4 or 5. -/
def countRefusal (s : State) (p : Packet) (st : Nat) : State :=
  if st = 6 then s.inc SEC_RETIRED_CNT.COUNT else if conf s p.ten then raise (s.inc SEC_TAG_FAIL_CNT.COUNT) 4 else s

/-! ### Performing (R267, R281 to R284, R418) -/

def atomCached (s : State) (k q : Nat) : Option Nat := (s.xf.atomCache.find? (fun z => z.1 == k && z.2.1 == q)).map (fun z => z.2.2)

/-- Fetching atomics whose result is not known yet. -/
def atomsOut (s : State) : Nat := (s.xf.txns.filter (fun t => match t.why with | .pktRd _ _ _ p => innerOp p == 0x12 && p.e32 == 0 | _ => false)).length

/-- What became of a packet: performed (its number is consumed), held at the head of its flow, or discarded unconsumed. -/
inductive Perf where
  | done
  | wait
  | gone
deriving DecidableEq, Repr

def atomOf (p : Packet) : MemOp :=
  let w := bit (leAt p.pay 0 8) 4
  let n := if w then 16 else 8
  .atom (leAt p.pay 0 8 % 16) w (leAt p.pay 8 n) (leAt p.pay (8 + n) n)

/-- A packet on VC2 that no other response answers: DONE follows once its writes are coherent (R232, R276, R296). -/
def noteDone (s : State) (k : Nat) (p : Packet) : State :=
  if p.op = 0x20 || (p.op = 0x21 && !(wantsRsp p)) then { s with xf := { s.xf with dones := s.xf.dones ++ [(k, p.seq, p)] } } else s

/-- The memory effect of a request whose checks have passed, on plain memory. -/
def performPlain (s : State) (k : Nat) (p : Packet) (d : List Byte) : State :=
  let sp := spaceOf p.target
  let off := offsetOf p.target
  let n := reqLen s p
  let aft := flowAfter s k
  let kind := match innerOp p with | 0x12 => 2 | 0x16 => 1 | _ => if reqPerm p = 0 then 0 else 1
  let s0 := noteDone (watch s kind 1 sp off n p.ten p.tag p.src none) k p
  match innerOp p with
  | 0x11 => (newTxn s0 sp .rd 0 off n [] (.pktRd k p.seq 0 p) aft [] none p.ten).1
  | 0x14 => (newTxn s0 sp .rd 0 off 8 [] (.pktRd k p.seq 0 p) aft [] none p.ten).1
  | 0x12 =>
    if p.e32 = 0 then (newTxn s0 sp (atomOf p) 0 off n [] (.pktRd k p.seq 0 p) aft [] none p.ten).1
    else (newTxn s0 sp (atomOf p) 0 off n [] (.pktWr k p.seq) aft [] none p.ten).1
  | 0x15 => (newTxn s0 sp .wr 0 off 8 (p.pay.take 8) (.pktWr k p.seq) aft (srcWrites s p.src) none p.ten).1
  | 0x16 => (newTxn s0 sp (.atom 0 false (leAt p.pay 0 8) 0) 0 off 8 [] (.pktWr k p.seq) aft (((flowTxns s k).filter (fun t => isWrite t.op)).map (·.id)) none p.ten).1
  | 0x13 => targetOp s0 .copyData p k (leAt p.pay 0 2) (leAt p.pay 8 8) p.target p.e32 0 none
  | _ => if d.isEmpty then s0 else (newTxn s0 sp .wr 0 off d.length d (.pktWr k p.seq) aft [] none p.ten).1

/-- A request to a page, its tag's epoch and generation known (R568): whole bricks go through the storage key; a partial write
merges with its bricks first. -/
def performPage (s : State) (k : Nat) (p : Packet) (d : List Byte) (epoch : Nat) : State × Perf :=
  let off := offsetOf p.target
  let n := reqLen s p
  let aft := flowAfter s k
  let sp := brickSpan off n
  let s0 := noteDone (watch s (if innerOp p = 0x12 then 2 else if reqPerm p = 0 then 0 else 1) 1 0 off n p.ten p.tag p.src none) k p
  if innerOp p = 0x13 then (targetOp s0 .copyData p k (leAt p.pay 0 2) (leAt p.pay 8 8) p.target p.e32 (1 + epoch) none, .done)
  else if reqPerm p = 0 then ((newTxn s0 0 .rd 0 sp.1 sp.2 [] (.pktRd k p.seq (1 + epoch) p) aft [] none p.ten).1, .done)
  else if n = 0 then (s0, .done)
  else if off % 128 = 0 && n % 128 = 0 && (p.op = 0x10 || p.op = 0x20 || innerOp p = 0x10) then
    ((newTxn s0 0 .wr 0 off n (pageXts Config.xts s p.ten epoch p.lgen off d) (.pktWr k p.seq) aft [] none p.ten).1, .done)
  else ((newTxn s0 0 .rd 0 sp.1 sp.2 [] (.merge k { p with pay := d } epoch) aft [] none p.ten).1, .wait)

/-- A kiln-bound packet at its output device (R418, R433). -/
def performKiln (s : State) (k : Nat) (p : Packet) (d : List Byte) : State × Perf :=
  let slot := p.e36 % 256
  let gen := p.e36 / 256 % 256
  let key := k * 64 + p.hod
  if !(isEp s) || !(leasedTo s ukKiln slot p.ten) then (refuse s p 7 (accDetail s), .done)
  else if gen != unitGen s ukKiln slot then (refuse s p 2 (staleSt ukKiln gen slot).detail, .done)
  else
    match jobFor s 0 key with
    | some j =>
      if j.stat.isSome then (updJob s j.id (fun x => { x with last := x.last || hasFlag p flLast, bufSeq := p.seq }), .done)
      else if jobHolds j then (s, .wait)
      else (noteDone (feedJob s j.id p.seq d (hasFlag p flLast)) k p, .done)
    | none =>
      let iw := parIw (tabGet 0 slot s.kiln.param)
      let r := newJob s 0 key slot p.ten p.tag iw 0 p.target (if p.op = 0x10 then p.e32 else 2 ^ 32)
      (noteDone (feedJob r.1 r.2 p.seq d (hasFlag p flLast)) k p, .done)

/-- A packet to a mailbox (R289, R290). -/
def performMsg (s : State) (k b : Nat) (p : Packet) : State × Perf :=
  if p.op != 0x10 || hasFlag p flKiln then (refuse s p 7 (accDetail s), .done)
  else if mboxTen b != p.ten then (refuse s p 7 (accDetail s), .done)
  else
    match openCheck s p false with
    | .error e => (refuse (countRefusal s p e.1) p e.1 e.2, .done)
    | .ok d =>
      if p.e32 != 0 then
        match msgBegin s k b p with
        | .error e => (refuse s p e.1 e.2, .done)
        | .ok t => (t, .wait)
      else
        match s.xf.msgs.find? (fun m => m.flow == k && m.box == b && m.open? && m.got < m.len) with
        | none => (refuse s p 7 (accDetail s), .done)
        | some m =>
          if mboxBase s b + m.len < offsetOf p.target + d.length then (refuse s p 7 (accDetail s), .done)
          else (msgWrite s k m.id p d, .done)

/-- Performs a request packet of a flow: the checks in order, then its effect (R267, R548). -/
def perform (s : State) (k : Nat) (p : Packet) : State × Perf :=
  if p.op = 0x17 then (if tenActive s p.ten then s else refuse s p 7 (accDetail s), .done)
  else
    match targetCheck s p with
    | some e => (refuse s p e.1 e.2, .done)
    | none =>
      if innerOp p = 0x12 && p.e32 = 0 && 1024 ≤ s.xf.atomCache.length + atomsOut s then (s.inc HOD_CNT.COUNT 5, .gone)
      else
        match (if spaceOf p.target = 0 && !(isSw s) then mboxAt s (offsetOf p.target) else none) with
        | some b => performMsg s k b p
        | none =>
          if isPage s p then
            if pageOf p.target != pageOf (p.target + Nat.max 1 (reqLen s p) - 1) then (refuse s p 7 (accDetail s), .done)
            else (tagRead s k p, .wait)
          else
            match windowCheck s p with
            | some e => (refuse s p e.1 e.2, .done)
            | none =>
              match openCheck s p false with
              | .error e => (refuse (countRefusal s p e.1) p e.1 e.2, .done)
              | .ok d => if isKilnPkt p then performKiln s k p d else (performPlain s k p d, .done)

/-- DEMOTED at a switch of a pallet packet is no failure here: the requester learns of it (R520). -/
def noteDemoted (s : State) (p : Packet) : State :=
  if hasFlag p flDemoted && p.vc = 6 then sendFormed s (nackOf s p 0x0E 0) else s

/-! ### The head of a flow (R267) -/

/-- A packet of the flow has been performed: the next number is expected. -/
def accepted (s : State) (k : Nat) (q : Nat) (p : Packet) : State :=
  let s1 := updRx s k (fun x => { x with expected := (x.expected + 1) % 2 ^ 32, cur := none, oldest := some (x.oldest.getD (now s)), gapAt := none })
  consume s1 q p

/-- Performs the packet at the head of a flow and then the held ones that follow it. -/
def runHead : Nat → State → Nat → Packet × Nat → State
  | 0, s, _, _ => s
  | n + 1, s, k, (p, q) =>
    let r := perform s k p
    match r.2 with
    | .gone => consume r.1 q p
    | .wait => updRx r.1 k (fun x => { x with cur := some (p, q) })
    | .done =>
      let s1 := accepted (noteDemoted r.1 p) k q p
      let x := rxOf s1 k
      match x.held.find? (fun h => h.1.seq == x.expected) with
      | some h => runHead n (updRx s1 k (fun y => { y with held := y.held.filter (fun z => z.1.seq != h.1.seq) })) k h
      | none => updRx s1 k (fun y => { y with gapAt := if y.held.isEmpty then none else some (now s1) })

/-- The packet that the flow waited for has been performed: the flow goes on. -/
def headDone (s : State) (k : Nat) : State :=
  match (rxOf s k).cur with
  | none => s
  | some (p, q) =>
    let s1 := accepted (noteDemoted s p) k q p
    let x := rxOf s1 k
    match x.held.find? (fun h => h.1.seq == x.expected) with
    | some h => runHead 4096 (updRx s1 k (fun y => { y with held := y.held.filter (fun z => z.1.seq != h.1.seq) })) k h
    | none => s1

/-- Retries a packet that waits at the head of its flow for kiln room. -/
def headRetry (s : State) (k : Nat) : State :=
  match (rxOf s k).cur with
  | none => s
  | some (p, q) =>
    if isKilnPkt p then runHead 4096 (updRx s k (fun x => { x with cur := none })) k (p, q) else s

/-- Bytes held in the reorder buffer. -/
def robUsed (s : State) : Nat := ((s.xf.rx.map (fun (x : Nat × RxFlow) => (x.2.held.map (fun h => 48 + h.1.pay.length)).sum))).sum

/-- The response of a request that has been performed already (R267, R274, R282). -/
def dupAnswer (s : State) (k : Nat) (p : Packet) : State :=
  match innerOp p with
  | 0x12 =>
    match atomCached s k p.seq with
    | some v => sendRsp s p 0x31 (leBytes (if bit (leAt p.pay 0 8) 4 then 16 else 8) v)
    | none => s
  | 0x13 => if s.xf.ops.any (fun o => o.kind == .copyData && o.org == some (origOf p, origSeq p, k)) then s else (perform s k p).1
  | 0x11 => (perform s k p).1
  | 0x14 => (perform s k p).1
  | _ => if (p.op = 0x21 || (p.op = 0x20 && hasFlag p flLast)) && !(s.xf.dones.any (fun z => z.1 == k && z.2.1 == p.seq)) then sendRsp s p 0x35 [] else s

/-- Another pair can be kept by a leaf (R285). -/
def leafRoom (s : State) (k : Nat) : Bool := !(keyMc k) || s.xf.mcLeaf.contains k || s.xf.mcLeaf.length < 4096

/-- A packet of a sequenced flow arrives from port q (R267). -/
def acceptPkt (s : State) (q : Nat) (p : Packet) : State :=
  let k := rxKey p
  if !(leafRoom s k) then consume (s.inc HOD_CNT.COUNT 1) q p
  else
    let s0 := if keyMc k && !(s.xf.mcLeaf.contains k) then { s with xf := { s.xf with mcLeaf := s.xf.mcLeaf ++ [k] } } else s
    let x := rxOf s0 k
    let d := sub32 p.seq x.expected
    if 2 ^ 31 ≤ d then
      let s1 := s0.inc HOD_CNT.COUNT 0
      let s2 := if wantsRsp p || p.vc = 2 then dupAnswer s1 k p else s1
      consume (sendAck s2 k) q p
    else if 4096 ≤ d then consume (s0.inc HOD_CNT.COUNT 2) q p
    else if d = 0 then
      if x.cur.isSome then consume s0 q p else runHead 4096 s0 k (p, q)
    else if x.held.any (fun h => h.1.seq == p.seq) then consume s0 q p
    else if robUsed s0 + 48 + p.pay.length ≤ s0.get HOD_ROB_CFG.SIZE_64K * 65536 then
      let s1 := updRx s0 k (fun y => { y with held := y.held ++ [(p, q)], gapAt := some (y.gapAt.getD (now s)) })
      consume (count s1 9 0 255 (some p.ten) (some p.tag) (0, 0)) q p
    else consume (s0.inc HOD_CNT.COUNT 1) q p

/-- MC_LEAF_SKIP (R287): a leaf goes past a missing number. -/
def leafSkip (s : State) (k : Nat) : State :=
  let x := rxOf s k
  match x.gapAt with
  | none => s
  | some t =>
    if !(keyMc k) || !(coreRuns s) || x.held.isEmpty || now s < t + (s.get HOD_XPORT_CFG.REPLAY_MAX + 2) * s.get HOD_XPORT_CFG.RTO * 64 then s
    else
      let n := seqLeast x.expected ((x.expected + 4096) % 2 ^ 32) (x.held.map (fun h => h.1.seq))
      match x.held.find? (fun h => h.1.seq == n) with
      | none => s
      | some h => runHead 4096 (updRx (s.inc HOD_CNT.COUNT 7) k (fun y => { y with expected := n, held := y.held.filter (fun z => z.1.seq != n) })) k h

/-! ### Completions of target accesses -/

/-- A tag has been read (R295, R296, R297). -/
def tagData (s : State) (k : Nat) (p : Packet) (d : List Byte) (refused : Bool) : State :=
  let cur := match (rxOf s k).cur with | some (c, _) => c == p | none => false
  let fin (t : State) : State := if cur then headDone t k else t
  let st := leAt d 3 1
  if refused then fin (refuse s p 7 (accDetail s))
  else if st = 0 || leAt d 0 2 != p.ten then fin (refuse s p 7 (accDetail s))
  else if leAt d 2 1 != p.lgen then fin (refuse s p 2 (ukPage + 256 * leAt d 2 1 + 65536 * (pageOf p.target % 65536)))
  else if !(epochLive s p.ten p.kep) then fin (refuse (s.inc SEC_RETIRED_CNT.COUNT) p 6 p.kep)
  else if st = 2 then
    if p.op = 0x21 then fin (refuse s p 7 (accDetail s))
    else fin (pageForward s k p (leAt d 6 2) (leAt d 8 4))
  else if st = 3 then s
  else
    match openCheck s p true with
    | .error e => fin (refuse (countRefusal s p e.1) p e.1 e.2)
    | .ok dd =>
      if hasFlag p flKiln then fin (refuse s p 7 (accDetail s))
      else
        let r := performPage s k p dd (leAt d 4 1 % 2)
        match r.2 with
        | .wait => r.1
        | _ => fin r.1

/-- Page requests that a SWEEPING tag holds look at it again. (DEDUCED, log 73) -/
def tagRetry (s : State) : State :=
  s.xf.rx.foldl (fun acc (x : Nat × RxFlow) =>
    match (rxOf acc x.1).cur with
    | some (p, _) =>
      if isPage acc p && !(acc.xf.txns.any (fun t => match whyFlow t.why with | some (f, q, _) => f == x.1 && q == p.seq | none => false)) then tagRead acc x.1 p else acc
    | none => acc) s

/-- The bricks of a partial page write have been read: it is merged and written back (R568). An atomic works on the plain bytes. -/
def mergeData (s : State) (k : Nat) (p : Packet) (epoch : Nat) (d : List Byte) (refused : Bool) : State :=
  let cur := match (rxOf s k).cur with | some (c, _) => c.seq == p.seq | none => false
  let fin (t : State) : State := if cur then headDone t k else t
  if refused then fin (refuse s p 7 (accDetail s))
  else
    let off := offsetOf p.target
    let sp := brickSpan off (reqLen s p)
    let clear := pageXts Config.xtsInv s p.ten epoch p.lgen sp.1 d
    let at0 := off - sp.1
    let n := match innerOp p with | 0x12 => reqLen s p | 0x15 => 8 | 0x16 => 8 | _ => p.pay.length
    let old := leAt clear at0 n
    let neu : List Byte := match innerOp p with
      | 0x12 => match atomOf p with | .atom op _ a c => leBytes n (atomNew op (8 * n) old a c) | _ => []
      | 0x15 => p.pay.take 8
      | 0x16 => leBytes 8 (old + leAt p.pay 0 8)
      | _ => p.pay
    let out := clear.take at0 ++ neu ++ clear.drop (at0 + n)
    let s1 := (newTxn s 0 .wr 0 sp.1 sp.2 (pageXts Config.xts s p.ten epoch p.lgen sp.1 out) (.pktWr k p.seq) [] [] none p.ten).1
    let s2 := if innerOp p = 0x12 && p.e32 = 0 then sendRsp { s1 with xf := { s1.xf with atomCache := s1.xf.atomCache ++ [(k, p.seq, old)] } } p 0x31 (leBytes n old) else s1
    fin s2

/-- A read or atomic of a request has finished (R274, R281, R297). -/
def reqData (s : State) (k q pg : Nat) (p : Packet) (d : List Byte) (refused : Bool) : State :=
  if refused then refuse s p 7 (accDetail s)
  else
    let off := offsetOf p.target
    let dd := if pg = 0 then d else
      let sp := brickSpan off (reqLen s p)
      ((pageXts Config.xtsInv s p.ten (pg - 1) p.lgen sp.1 d).drop (off - sp.1)).take (reqLen s p)
    match innerOp p with
    | 0x12 => sendRsp { s with xf := { s.xf with atomCache := s.xf.atomCache ++ [(k, q, ofLe dd)] } } p 0x31 dd
    | 0x14 => sendRsp s p 0x32 (dd.take 8 ++ [BitVec.ofNat 8 p.hops] ++ leBytes 7 0)
    | _ => sendRsp s p 0x30 dd

/-- A refused write of a packet: the requester learns of it (R47, R268). -/
def writeRefused (s : State) (k q : Nat) : State :=
  let mc := keyMc k
  match s.xf.dones.find? (fun z => z.1 == k && z.2.1 == q) with
  | some z => refuse { s with xf := { s.xf with dones := s.xf.dones.filter (fun y => y != z) } } z.2.2 7 (accDetail s)
  | none =>
  sendFormed s ⟨keySrc k, ownFlat s, serviceDom, 3, 0, 0x34, 0, 0, q, 0, 0, 0, 0, 0, 0, 0, ownFlat s,
    leBytes 2 7 ++ [BitVec.ofNat 8 (if mc then 1 else k % 16)] ++ leBytes 5 0 ++ leBytes 8 (accDetail s)⟩

/-- COPY_DATA and forwards whose writes are coherent answer DONE to the requester (R232, R276). -/
def doneRsp (s : State) (p : Packet) : State := sendRsp s p 0x35 []

/-- Every DONE that is due now. -/
def donePass (s : State) : State :=
  s.xf.dones.foldl (fun acc (z : Nat × Nat × Packet) =>
    if sub32 (wmNext acc z.1) (z.2.1 + 1) < 2 ^ 31 then
      let s1 := { acc with xf := { acc.xf with dones := acc.xf.dones.filter (fun y => y != z) } }
      if z.2.2.op = 0x21 || hasFlag z.2.2 flLast then doneRsp s1 z.2.2 else s1
    else acc) s

/-- A buffer answer for a message (R290, R291): the pool, and the address where granted. -/
def bpmResult (s : State) (msg pool : Nat) (addr : Option Nat) : State :=
  match msgById s msg with
  | none => s
  | some m =>
    match m.first with
    | none => s
    | some p =>
      match addr with
      | some a =>
        match openCheck s p false with
        | .error e => headDone (refuse (dropMsg s msg) p e.1 e.2) m.flow
        | .ok d =>
          let s1 := updMsg s msg (fun x => { x with addr := a, pool := pool, open? := true })
          headDone (msgWrite s1 m.flow msg p d) m.flow
      | none =>
        if pool < 2 then bpmAsk (updMsg s msg (fun x => { x with pool := pool + 1 })) msg (pool + 1) m.ten
        else headDone (refuse (dropMsg s msg) p 0x0D m.pool0) m.flow

end Sys2Proof.Machine
end

