-- ==== Sys2Proof/Machine/Rsp.lean ====
section
/-! DEFINITION. The requester's side of responses: data and results that return, acknowledgements, refusals, and the read-combining
buffer (05, 06, 07). -/

namespace Sys2Proof.Machine

open Sys2Proof

/-! ### Matching -/

/-- a is at or before b in sequence order modulo 2^32. -/
def seqLe (a b : Nat) : Bool := sub32 b a < 2 ^ 31

/-- The entry that a response answers: one of the hod that it names with its number that expects a response, sent to the
responder where there is one, else with its tag (a request that was forwarded or copied). -/
def rspEntry (s : State) (p : Packet) : Option Replay :=
  let l := (replayOf s p.hod).filter (fun r => r.rsp && r.seq == p.seq)
  match l.find? (fun r => r.flow / 16 == p.src) with
  | some r => some r
  | none => l.find? (fun r => r.pkt.tag == p.tag)

/-- Removes one entry. -/
def dropEntry (s : State) (r : Replay) : State :=
  hodStatus (mapReplay s (fun x => x.flow == r.flow && x.seq == r.seq) (fun _ => none)) r.pkt.hod

/-- The hod that a response names has another lease generation now (R275). -/
def rspStale (s : State) (p : Packet) : Bool := p.hgen != s.get HOD_CFG.GEN p.hod

/-- Reports the arrival of a response to its target (R282): the acknowledgement of the reverse flow carries it. -/
def reportRsp (s : State) (r : Replay) : State := sendAck s (r.flow / 16 * 16 + r.flow % 8)

/-- A response without a request that waits for it, or for a hod leased anew (R275). -/
def strayRsp (s : State) (p : Packet) : State :=
  if rspStale s p then
    match rspEntry s p with
    | some r => reportRsp (dropEntry (s.inc HOD_CNT.COUNT 6) r) r
    | none => s.inc HOD_CNT.COUNT 6
  else s.inc HOD_CNT.COUNT 0

/-! ### The read-combining buffer (R329 to R335) -/

def rcbLife (s : State) : Nat := Nat.max 1 (s.get HOD_RCB_CFG.LIFETIME) * 64

/-- The entry of a brick that a GET of the tenant may use: valid and young, or being filled and to be kept. -/
def rcbFind (s : State) (ten flat a : Nat) : Option Rcb :=
  s.xf.rcb.find? (fun e => e.ten == ten && e.flat == flat && e.addr == a && e.keep && (e.busy || now s < e.filled + rcbLife s))

/-- Drops the entries that satisfy a condition; a fill in flight answers its own GET and is not kept (R334). -/
def rcbDrop (s : State) (c : Rcb → Bool) : State :=
  { s with xf := { s.xf with rcb := s.xf.rcb.filterMap (fun e => if c e then (if e.busy then some { e with keep := false } else none) else some e) } }

/-- An invalidation by a write or an acquire counts the entries it ends (R333). -/
def rcbInvalidate (s : State) (c : Rcb → Bool) : State :=
  let n := (s.xf.rcb.filter (fun e => c e && e.keep && !e.busy)).length
  rcbDrop (if n = 0 then s else s.inc HOD_RCB_INV_CNT.COUNT 0 0 n) c

/-- An instruction of the tenant touches a remote range (R333). -/
def rcbTouch (s : State) (ten flat a n : Nat) : State :=
  rcbInvalidate s (fun e => e.ten == ten && e.flat == flat && a / 2 ^ 52 == e.addr / 2 ^ 52 && overlaps a (Nat.max 1 n) e.addr 128)

/-- An acquire of the tenant. -/
def rcbAcquire (s : State) (ten : Nat) : State := rcbInvalidate s (fun e => e.ten == ten)

/-- A GET may use the buffer (R330): not bound to the kiln (log). -/
def rcbEligible (s : State) (o : Op) : Bool :=
  (match o.kind with | .get => true | _ => false) && !(isSw s) && s.on HOD_RCB_CFG.EN && o.mods.ord = 0 && !(dKilnOn o.desc) &&
  (match o.pieces with
   | [p] => p.dst != ownFlat s && spaceOf p.raddr < 2 && 0 < p.len && p.raddr / 128 == (p.raddr + p.len - 1) / 128
   | _ => false)

/-- Writes the bytes that a GET asked for out of its brick. -/
def rcbServe (s : State) (id : Nat) (brick : List Byte) : State :=
  match opById s id with
  | none => s
  | some o =>
    let a := dRaddr o.desc % 128
    let d := (brick.drop a).take (dLen o.desc)
    let s1 := if d.isEmpty then s else (opTxn s o .wr (dLaddr o.desc) d.length d (.local id)).1
    updOp s1 id (fun x => { x with pieces := [], rcb := 0, bytes := x.bytes + d.length })

/-- Makes room for a fill of the tenant: 16 entries, the oldest fill gives way (R332). None where every entry is being filled. -/
def rcbRoom (s : State) (ten : Nat) : Option State :=
  let mine := s.xf.rcb.filter (fun e => e.ten == ten && e.keep)
  if mine.length < 16 then some s
  else
    match mine.filter (fun e => !e.busy) with
    | [] => none
    | e :: r =>
      let old := r.foldl (fun b x => if x.filled < b.filled then x else b) e
      some { s with xf := { s.xf with rcb := s.xf.rcb.erase old } }

/-- An eligible GET looks its brick up (R331, R332): a hit, a wait for a fill, or a read of the whole brick. -/
def rcbLook (s : State) (o : Op) (p : Piece) : State :=
  let a := p.raddr / 128 * 128
  match rcbFind s o.ten p.dst a with
  | some e =>
    let s1 := s.inc HOD_RCB_HIT_CNT.COUNT
    if e.busy then
      updOp { s1 with xf := { s1.xf with rcb := s1.xf.rcb.map (fun x => if x == e then { x with waiters := x.waiters ++ [o.id] } else x) } } o.id (fun x => { x with rcb := 2 })
    else rcbServe s1 o.id e.data
  | none =>
    let s1 := s.inc HOD_RCB_MISS_CNT.COUNT
    let r := (rcbRoom s1 o.ten).getD s1
    let e : Rcb := ⟨o.ten, p.dst, a, 0, [], true, (rcbRoom s1 o.ten).isSome, [o.id]⟩
    updOp { r with xf := { r.xf with rcb := r.xf.rcb ++ [e] } } o.id (fun x => { x with rcb := 0, pieces := [{ p with raddr := a, len := 128 }] })

/-- Every eligible GET that may start looks its brick up. (DEDUCED, log 106) -/
def rcbPass (s : State) : State :=
  s.xf.ops.foldl (fun acc o0 =>
    match opById acc o0.id with
    | some o =>
      if o.rcb = 1 && !o.stopped && mayStart acc o then
        (if rcbEligible acc o then (match o.pieces with | p :: _ => rcbLook acc o p | [] => acc) else updOp acc o.id (fun x => { x with rcb := 0 }))
      else acc
    | none => acc) s

/-- A fill has arrived for its first waiter: all are served, and the entry is kept where nothing invalidated it. -/
def rcbFilled (s : State) (e : Rcb) (d : List Byte) : State :=
  let s1 := { s with xf := { s.xf with rcb := s.xf.rcb.filterMap (fun x => if x == e then (if e.keep then some { e with busy := false, data := d, filled := now s, waiters := [] } else none) else some x) } }
  e.waiters.foldl (fun acc i => rcbServe acc i d) s1

/-- A fill whose GET has ended without it fails: the GETs that wait for it take its statuses. -/
def rcbClean (s : State) : State :=
  s.xf.rcb.foldl (fun acc e =>
    if !e.busy then acc
    else
      let own := (e.waiters.head?).bind (opById acc)
      let lost := match own with | some o => o.stopped || (o.pieces.isEmpty && (opEntries acc o.id).isEmpty) | none => true
      if !lost then acc
      else
        let st := match own with | some o => o.stats | none => []
        let s1 := { acc with xf := { acc.xf with rcb := acc.xf.rcb.filter (fun x => x != e) } }
        (e.waiters.drop 1).foldl (fun a i => updOp (st.foldl (fun b z => opAdd b i z) a) i (fun x => { x with pieces := [], rcb := 0, stopped := true })) s1) s

/-- RCB_EXPIRE (R333): entry k of a tenant at the end of its lifetime. -/
def rcbExpire (s : State) (ten k : Nat) : State :=
  match (s.xf.rcb.filter (fun e => e.ten == ten && e.keep))[k]? with
  | some e => if !e.busy && e.filled + rcbLife s ≤ now s then rcbDrop s (fun x => x == e) else s
  | none => s

def execRcbExpire (ten k : Nat) (s : State) : Host.Outcome State Fault Refusal := .next (rcbExpire s ten k)

/-! ### Kiln input from returned data (R418, R419) -/

/-- Byte offset within its operation's input of data for a local address. -/
def inOffset (o : Op) (a : Nat) : Nat := a - dLaddr o.desc

/-- The operation's job for returned data. -/
def getJob (s : State) (o : Op) (out : Nat) : State × Nat :=
  match jobFor s 1 o.id with
  | some j => (s, j.id)
  | none =>
    let slot := dKiln o.desc % 256
    newJob s 1 o.id slot o.ten o.tag (parIw (tabGet 0 slot s.kiln.param)) 0 out (dOutMax o.desc)

/-- Feeds returned data that is next in order, and frees its buffers. -/
def feedEarly : Nat → State → Nat → State
  | 0, s, _ => s
  | n + 1, s, id =>
    match jobById s id with
    | none => s
    | some j =>
      if jobHolds j then s
      else
        match j.early.find? (fun (x : Nat × Packet × Nat) => x.1 == j.fed) with
        | none => s
        | some x =>
          let s1 := updJob s id (fun y => { y with early := y.early.filter (fun (z : Nat × Packet × Nat) => z.1 != x.1) })
          feedEarly n (consume (feedJob s1 id 0 x.2.1.pay false) x.2.2 x.2.1) id

/-! ### Responses -/

/-- GET_DATA (R274, R569): the bytes are written at their local address and the request is closed. -/
def getData (s : State) (q : Nat) (p : Packet) : State :=
  match rspEntry s p with
  | none => consume (strayRsp s p) q p
  | some r =>
    if rspStale s p then consume (strayRsp s p) q p
    else
      match (if conf s p.ten then openPay s p else some p.pay) with
      | none => consume (raise (s.inc SEC_TAG_FAIL_CNT.COUNT) 4) q p
      | some d0 =>
        let d := d0.take r.len
        let s1 := reportRsp (dropEntry s r) r
        match opById s1 r.op with
        | none => consume s1 q p
        | some o =>
          match s1.xf.rcb.find? (fun e => e.busy && e.waiters.head? == some o.id) with
          | some e => consume (rcbFilled s1 e d) q p
          | none =>
            if dKilnOn o.desc then
              let j := getJob s1 o (dLaddr o.desc)
              feedEarly 512 (updJob j.1 j.2 (fun x => { x with early := x.early ++ [(inOffset o r.laddr, { p with pay := d }, q)] })) j.2
            else
              let s2 := if d.isEmpty then s1 else (opTxn s1 o .wr r.laddr d.length d (.local o.id)).1
              consume (updOp s2 o.id (fun x => { x with bytes := x.bytes + d.length })) q p

/-- A result for the registers of an operation. -/
def landPair (s : State) (o : Op) (lo hi : Nat) (two : Bool) : State :=
  let s1 := landG s o.ctx o.rd (BitVec.ofNat 64 lo)
  if two then landG s1 o.ctx (o.rd + 1) (BitVec.ofNat 64 hi) else s1

/-- ATOM_RSP (R240, R282). (DEDUCED, log 110) -/
def atomRsp (s : State) (p : Packet) : State :=
  match rspEntry s p with
  | none => strayRsp s p
  | some r =>
    if rspStale s p then strayRsp s p
    else
      let s1 := reportRsp (dropEntry s r) r
      match opById s1 r.op with
      | some o => landPair s1 o (leAt p.pay 0 8) (leAt p.pay 8 8) (match o.kind with | .atom _ w => w | _ => false)
      | none => s1

/-- The measurement word (R242). -/
def measureWord (rtt out back : Nat) : Nat := rtt % 2 ^ 48 + 2 ^ 48 * (out % 256) + 2 ^ 56 * (back % 256)

/-- MEASURE_RSP (R242). (DEDUCED, log 130) -/
def measureRsp (s : State) (p : Packet) : State :=
  match rspEntry s p with
  | none => strayRsp s p
  | some r =>
    if rspStale s p then strayRsp s p
    else
      let s1 := reportRsp (dropEntry s r) r
      match opById s1 r.op with
      | some o => landPair s1 o (leAt p.pay 0 8) (measureWord (now s - r.first.getD (now s)) (leAt p.pay 8 1) p.hops) true
      | none => s1

/-- DONE (R276): a copy through a third device is closed. One for a forward that the acknowledgement still covers is no duplicate. -/
def doneMsg (s : State) (p : Packet) : State :=
  match rspEntry s p with
  | some r =>
    if rspStale s p then strayRsp s p
    else
      let s1 := reportRsp (dropEntry s r) r
      match opById s1 r.op with
      | some o => updOp s1 r.op (fun x => { x with bytes := x.bytes + dLen o.desc })
      | none => s1
  | none =>
    if (replayOf s p.hod).any (fun r => r.seq == p.seq && r.pkt.tag == p.tag) || s.xf.ops.any (fun o => o.hod == p.hod && o.tag == p.tag && o.coh.any (fun z => z.2.1 == p.seq))
    then s else strayRsp s p

/-! ### Acknowledgements (R269, R282, R285, R308) -/

/-- An operation whose packets must be coherent at their destination (Table - Completion points). -/
def wantsCoh (o : Op) : Bool := match o.kind with | .atom _ _ => false | .measure => false | .get => false | .gather => false | _ => true

/-- The requests of a flow up to a number are acknowledged: those that expect a response stay in the replay list. -/
def ackFlow (s : State) (f n : Nat) : State :=
  (allReplay s).foldl (fun acc r =>
    if r.flow == f && seqLe r.seq n then
      if r.rsp then mapReplay acc (fun x => x == r) (fun x => some { x with acked := true })
      else
        let s1 := dropEntry acc r
        updOp s1 r.op (fun o => if wantsCoh o then { o with coh := o.coh ++ [(r.flow, r.seq, 0)] } else o)
    else acc) s

/-- A leaf acknowledges the multicast packets of a group up to a number (R285, R286). -/
def ackLeaf (s : State) (f n leaf : Nat) : State :=
  (allReplay s).foldl (fun acc r =>
    if r.flow == f && seqLe r.seq n && !(bit r.leaves leaf) then
      let r2 := { r with leaves := maskSet r.leaves leaf }
      let s1 := updOp (mapReplay acc (fun x => x == r) (fun _ => some r2)) r.op (fun o => { o with coh := o.coh ++ [(f, r.seq, leaf)] })
      if leavesOf (f / 16) &&& r2.leaves = leavesOf (f / 16) then giveUp s1 r2 else s1
    else acc) s

/-- The coherent watermark of a flow, of one leaf for a multicast. -/
def cohMark (s : State) (f n leaf : Nat) : State :=
  { s with xf := { s.xf with ops := s.xf.ops.map (fun o => { o with coh := o.coh.filter (fun z => !(z.1 == f && z.2.2 == leaf && seqLe z.2.1 n)) }) } }

/-- ACK. -/
def ackMsg (s : State) (p : Packet) : State :=
  let vc := leAt p.pay 8 1 % 8
  if bit (leAt p.pay 8 1) 3 then
    let f := flowKey (leAt p.pay 12 2) 1 true
    let leaf := leAt p.pay 10 2 % 256
    cohMark (ackLeaf s f p.seq leaf) f (leAt p.pay 0 4) leaf
  else
    let f := flowKey p.src vc false
    let s1 := cohMark (ackFlow s f p.seq) f (leAt p.pay 0 4) 0
    { s1 with xf := { s1.xf with atomCache := s1.xf.atomCache.filter (fun z => !(z.1 == p.src * 16 + vc && seqLe z.2.1 (leAt p.pay 4 4))) } }

/-! ### Refusals (R268) -/

/-- The entry that a negative acknowledgement names. -/
def nackEntry (s : State) (p : Packet) : Option Replay :=
  let vc := leAt p.pay 2 1 % 8
  match (if vc = 2 then none else (allReplay s).find? (fun r => r.flow == flowKey p.src vc false && r.seq == p.seq)) with
  | some r => some r
  | none => (replayOf s p.hod).find? (fun r => r.seq == p.seq && r.pkt.tag == p.tag)

/-- The status of a refusal as its operation takes it: details that name the instruction carry its word. (DEDUCED, log 107) -/
def nackStat (o : Op) (code detail : Nat) : Stat :=
  if code = 7 || code = 0x0F then ⟨code, detail / 65536 * 65536 + o.word⟩ else if code = 0x0B then abortedSt o.word else ⟨code, detail⟩

def nackOp (s : State) (id code detail : Nat) : State :=
  match opById s id with
  | some o => opAdd s id (nackStat o code detail)
  | none => s

/-- NACK: the packet is covered and its operation takes the status. A packet that only became mortar still waits (R520); a replication point
reports a fenced leaf (R510); a write refused after its acknowledgement is found among those not yet coherent. -/
def nackMsg (s : State) (p : Packet) : State :=
  let code := leAt p.pay 0 2
  let detail := leAt p.pay 8 8
  match nackEntry s p with
  | some r =>
    if code = 0x0E then nackOp s r.op code detail
    else if bit r.flow 3 then
      if code = 3 then
        let leaf := bits detail 16 16
        let r2 := { r with leaves := maskSet r.leaves leaf, fenced := maskSet r.fenced leaf }
        let s1 := mapReplay s (fun x => x == r) (fun _ => some r2)
        if leavesOf (r.flow / 16) &&& r2.leaves = leavesOf (r.flow / 16) then giveUp s1 r2 else s1
      else nackOp s r.op code detail
    else nackOp (dropEntry s r) r.op code detail
  | none =>
    let f := flowKey p.src (leAt p.pay 2 1 % 8) false
    match s.xf.ops.find? (fun o => o.coh.any (fun z => z.2.1 == p.seq && (z.1 == f || (o.hod == p.hod && o.tag == p.tag)))) with
    | some o => nackOp (updOp s o.id (fun x => { x with coh := x.coh.filter (fun z => z.2.1 != p.seq) })) o.id code detail
    | none => s

end Sys2Proof.Machine
end

