-- ==== Sys2Proof/Machine/Observe.lean ====
section
/-! DEFINITION. Observation (16): selectable counters as they are read and frozen, samples, program-counter samples, the trace units' commands
and drains, debug, and the fault port. -/

namespace Sys2Proof.Machine

open Sys2Proof

/-! ### Contexts as they are seen (R116, R130) -/

/-- STATE and stall reason of a context (Table - Context state encoding). (DEDUCED, log 131) -/
def ctxState (s : State) (c : Nat) : Nat × Nat :=
  let x := ctxOf s c
  if x.scrub then (6, 0)
  else if x.ten.isNone then (0, 0)
  else if x.halt.isSome then (5, 0)
  else
    match x.wait with
    | some w =>
      (match w.kind with
       | .seq _ _ => (3, 6)
       | .flag _ _ _ _ _ => (3, 6)
       | .bond _ _ => (3, 7)
       | .time _ => (3, 11)
       | .list _ => (match x.stall with | some r => if r = 0 then (2, 0) else (4, r) | none => (2, 0))
       | _ => (4, 6))
    | none =>
      match x.cur, x.stall with
      | some _, some r => (4, r)
      | some _, none => (match curCmd s c with | some m => if orderedWaits s m then (3, 6) else (2, 0) | none => (2, 0))
      | none, _ => if 16 ≤ x.cmds.length then (4, 6) else if course s < x.usable || x.cmds.any (fun m => some m.ten != x.ten) then (4, 9) else (1, 0)

/-- TRW_CTX_STATUS (R116). -/
def ctxStatus (s : State) (c : Nat) : Nat :=
  let st := ctxState s c
  let q := match curCmd s c with | some m => m.q % 8 | none => 0
  st.1 + 16 * st.2 + 256 * q + 2048 * (ctxOf s c).cmds.length

/-! ### Counters (R634 to R637) -/

/-- The leased unit that a counter's unit filter names belongs to a confidential tenant (R574). -/
def ctrUnitConf (s : State) (i : Nat) : Bool :=
  s.on OBS_CTR_SEL0.FILT_UNIT i && conf s (unitOf s (s.get OBS_CTR_SEL1.UKIND i) (s.get OBS_CTR_UNIT.INDEX i)).ten &&
  (unitOf s (s.get OBS_CTR_SEL1.UKIND i) (s.get OBS_CTR_UNIT.INDEX i)).en

/-- What a domain may see of counter i (R636); `mask` applies the confidential clause. -/
def ctrSeen (s : State) (i dom : Nat) (mask : Bool) : Bool :=
  let t := s.get OBS_CTR_SEL1.TENANT i
  let filt := s.on OBS_CTR_SEL0.FILT_TEN i && !(inCensus s i)
  (dom == serviceDom || (filt && dom == t)) && !(mask && ((filt && conf s t) || (ctrUnitConf s i && !(inCensus s i))))

def ctrRead (s : State) (i dom : Nat) (mask : Bool) : Nat := if ctrSeen s i dom mask then s.get64 .OBS_CTR i else 0

/-- The frozen copy is read by the old tenant and the service domain (R637). -/
def frozenSeen (s : State) (i dom : Nat) : Bool :=
  let t := s.get OBS_CTR_FROZEN_TEN.TENANT i
  (tabFind i s.obs.frozenAt).isSome && (dom == serviceDom || dom == t) && !(conf s t)

/-- Keys of pallet words and of ring counts among the frozen counters. -/
def frzPallet : Nat := 1000
def frzRing : Nat := 10000

/-- Step 2 of a scrub (R552, R637): the counters whose unit filter names the unit are copied with the old tenant and zeroed; they stop until
step 4. A pallet's counts are kept for the old tenant. (DEDUCED, log 101) -/
def freezeUnit (s : State) (kind i ten : Nat) : State :=
  let mine := (ctrLive s).filter (fun k => !(inCensus s k) && s.on OBS_CTR_SEL0.FILT_UNIT k && s.get OBS_CTR_SEL1.UKIND k == kind && s.get OBS_CTR_UNIT.INDEX k == i)
  let s1 := mine.foldl (fun acc k =>
    let v := acc.get64 .OBS_CTR k
    let a := (((acc.put64 .OBS_CTR_FROZEN k v).put OBS_CTR_FROZEN_TEN.TENANT ten k).put64 .OBS_CTR k 0)
    { a with obs := { a.obs with frozenAt := tabPut k (course s) a.obs.frozenAt, frozenIdx := a.obs.frozenIdx ++ [k] } }) s
  if kind = ukPallet then
    let v := (s1.rg .CIR_PALLET_CNT i).toNat
    let s2 := s1.setRg .CIR_PALLET_CNT 0 i
    { s2 with obs := { s2.obs with palFrozen := tabPut i (v, ten) s2.obs.palFrozen, frozenAt := tabPut (frzPallet + i) (course s) s2.obs.frozenAt } }
  else s1

/-- Step 4: the unit's counters count for the new lease. -/
def thawUnit (s : State) (kind i : Nat) : State :=
  { s with obs := { s.obs with frozenIdx := s.obs.frozenIdx.filter (fun k => !(s.get OBS_CTR_SEL1.UKIND k == kind && s.get OBS_CTR_UNIT.INDEX k == i)) } }

/-- FULL_CNT of a tenant's rings freezes as the tenant leaves the device. (DEDUCED, log 101) -/
def freezeRings (s : State) (t : Nat) : State :=
  (tenRings t).foldl (fun acc j => if acc.get TEN_CQ_STATUS.FULL_CNT j = 0 then acc else
    { acc with obs := { acc.obs with frozenAt := tabPut (frzRing + j) (course s) acc.obs.frozenAt } }) s

/-- READOUT_EXPIRE (R554): frozen counter k is cleared after READOUT courses. -/
def readoutExpire (s : State) (k : Nat) : State :=
  match tabFind k s.obs.frozenAt with
  | none => s
  | some c =>
    if course s < c + Nat.max 1 (s.get SEC_SCRUB_CFG.READOUT) then s
    else
      let s1 := { s with obs := { s.obs with frozenAt := tabDel k s.obs.frozenAt } }
      if frzRing ≤ k then s1.put TEN_CQ_STATUS.FULL_CNT 0 (k - frzRing)
      else if frzPallet ≤ k then { s1 with obs := { s1.obs with palFrozen := tabDel (k - frzPallet) s1.obs.palFrozen } }
      else (s1.put64 .OBS_CTR_FROZEN k 0).put OBS_CTR_FROZEN_TEN.TENANT 0 k

def execReadoutExpire (k : Nat) (s : State) : Host.Outcome State Fault Refusal := .next (readoutExpire s k)

/-- CIR_PALLET_CNT as a domain reads it: the frozen word while there is one, zero to others (R554). (DEDUCED, log 21) -/
def palletCntRead (s : State) (i dom : Nat) : W32 :=
  match tabFind i s.obs.palFrozen with
  | some (v, t) => if dom = t || dom = serviceDom then BitVec.ofNat 32 v else 0
  | none => s.rg .CIR_PALLET_CNT i

/-! ### Rings of records (R641) -/

/-- The gap mark of the next record of CORE, which takes it (R91). (DEDUCED, log 65) -/
def takeGap (s : State) : Nat × State := (b2n s.clk.gapCore, { s with clk := { s.clk with gapCore := false } })

def phaseOf (n log2 : Nat) : Nat := (n / 2 ^ log2 + 1) % 2

def unsureBit (s : State) : Nat := if sure s then 0 else 1

/-! ### Hardware samples (R639 to R642) -/

def Sample.zero : Sample := ⟨0, 0, none⟩
def smpOf (s : State) (c : Nat) : Sample := tabGet Sample.zero c s.obs.smp
def setSmp (s : State) (c : Nat) (x : Sample) : State := { s with obs := { s.obs with smp := tabSet Sample.zero c x s.obs.smp } }

def smpBase (s : State) (c : Nat) : Nat := s.get OBS_SMP_BASE_LO.BASE c * 32 + 2 ^ 32 * s.get OBS_SMP_BASE_HI.BASE c
/-- Bytes of a record of n counters. -/
def smpBytes (n : Nat) : Nat := 32 * ceilDiv (32 + 8 * n) 32

/-- One sample of channel c: captured, its values written, its header to follow (R640, R641). (DEDUCED, log 99) -/
def sampleTake (s : State) (c : Nat) (periodic action : Bool) : State :=
  let x := smpOf s c
  if !(s.on OBS_SMP_CFG.EN c) || !(coreRuns s) then s
  else
    let x1 := { x with seq := (x.seq + 1) % 2 ^ 32 }
    let l := s.get OBS_SMP_CFG.LOG2_SIZE c
    let tail := s.get OBS_SMP_TAIL.TAIL c
    if x.busy.isSome || sub32 tail (s.get OBS_SMP_HEAD.HEAD c) = 2 ^ l then setSmp s c { x1 with missed := x.missed + 1 }
    else
      let first := s.get OBS_SMP_CFG.FIRST c
      let n := s.get OBS_SMP_CFG.COUNT c
      let own := s.get OBS_SMP_INT.OWNER c
      let g := takeGap s
      let fl := phaseOf tail l + 2 * g.1 + 4 * unsureBit s + 8 * b2n periodic + 16 * b2n action
      let hdr := leBytes 8 (now s) ++ leBytes 4 x.seq ++ [BitVec.ofNat 8 c, BitVec.ofNat 8 fl] ++ leBytes 2 n ++ leBytes 2 first ++ leBytes 2 own ++ leBytes 4 x.missed ++ leBytes 8 0
      let vals := ((List.range n).map (fun k => leBytes 8 (ctrRead s (first + k) own false))).flatten
      let a := smpBase s c + smpBytes n * (tail % 2 ^ l)
      (newTxn (setSmp g.2 c { x1 with missed := 0, busy := some hdr }) (s.get OBS_SMP_BASE_HI.SPACE c) .wr 1 (a + 32) (8 * n) vals (.sampleVal c) [] [] none own).1

/-- The values of a sample are coherent: its header is written. -/
def sampleValues (s : State) (c : Nat) : State :=
  match (smpOf s c).busy with
  | none => s
  | some h =>
    let a := smpBase s c + smpBytes (leAt h 14 2) * (s.get OBS_SMP_TAIL.TAIL c % 2 ^ (s.get OBS_SMP_CFG.LOG2_SIZE c))
    (newTxn s (s.get OBS_SMP_BASE_HI.SPACE c) .wr 1 a 32 h (.sampleHdr c) [] [] none (leAt h 18 2)).1

/-- The header has been written, or its write was refused: then the sample counts as missed. (DEDUCED, log 99) -/
def sampleHeader (s : State) (c : Nat) (refused : Bool) : State :=
  let x := smpOf s c
  match x.busy with
  | none => s
  | some h =>
    if refused then setSmp s c { x with busy := none, missed := x.missed + leAt h 20 4 + 1 }
    else setSmp (s.put OBS_SMP_TAIL.TAIL (s.get OBS_SMP_TAIL.TAIL c + 1) c) c { x with busy := none }

/-- The samples of a boundary into a course (R639, R641): periodic channels and those that a due SAMPLE action names. -/
def sampleCourse (s : State) (mask : Nat) : State :=
  (List.range 8).foldl (fun acc c =>
    let i := acc.get OBS_SMP_INT.INTERVAL c
    let per := i != 0 && course s % i == 0
    if per || bit mask c then sampleTake acc c per (bit mask c) else acc) s

/-- Enabling a channel is refused where its record ring is ill-formed or outside its owner's windows (R639, R642). (DEDUCED, log 24) -/
def smpEnableOk (s : State) (c : Nat) : Bool :=
  let l := s.get OBS_SMP_CFG.LOG2_SIZE c
  let n := s.get OBS_SMP_CFG.COUNT c
  let sp := s.get OBS_SMP_BASE_HI.SPACE c
  let own := s.get OBS_SMP_INT.OWNER c
  let len := smpBytes n * 2 ^ l
  6 ≤ l && l ≤ 16 && 1 ≤ n && n ≤ 256 && s.get OBS_SMP_CFG.FIRST c + n ≤ 256 && sp ≤ 1 && smpBase s c % 4096 == 0 && inSpace sp (smpBase s c) len &&
  (own == serviceDom || (own < 512 && winOk s own sp (smpBase s c) len 1 false))

/-! ### Program-counter samples (R644, R645) -/

/-- The contexts of core n that are bound, from the one after the last sampled. -/
def pcsNext (s : State) (n : Nat) : Option Nat :=
  let last := tabGet 0 n s.obs.pcs
  ((List.range 32).map (fun k => 32 * n + (last + k) % 32)).find? (fun c => (ctxOf s c).ten.isSome && ctxExists s c)

/-- PC_SAMPLE of core n, once its period has passed. (DEDUCED, log 100) -/
def pcSample (s : State) (n : Nat) : State :=
  let sh := s.get OBS_PCS_SHIFT.SHIFT
  let due := s.clk.cclk / 2 ^ sh
  if 18 ≤ n || !(s.on OBS_PCS_CFG.EN) || !(coreRuns s) || tabGet 0 (1000 + n) s.obs.pcs = due then s
  else
    let s0 := { s with obs := { s.obs with pcs := tabSet 0 (1000 + n) due s.obs.pcs } }
    match pcsNext s n with
    | none => s0
    | some c =>
      let s1 := { s0 with obs := { s0.obs with pcs := tabSet 0 n ((c + 1) % 32) s0.obs.pcs } }
      let l := s.get OBS_PCS_CFG.LOG2_SIZE
      let slot := (s.get OBS_PCS_TAIL.TAIL + s.obs.pcsBusy) % 2 ^ 32
      if 2 ^ l ≤ sub32 slot (s.get OBS_PCS_HEAD.HEAD) then { s1 with obs := { s1.obs with pcsMissed := s1.obs.pcsMissed + 1 } }
      else
        let x := ctxOf s c
        let ten := x.ten.getD 0
        let m := conf s ten
        let st := ctxState s c
        let g := takeGap s1
        let fl := phaseOf slot l + 2 * g.1 + 4 * unsureBit s + 8 * b2n m
        let cmd := curCmd s c
        let word := if m then 0 else here s c
        let tag := if m then 0 else curTag s c
        let seq := if m then 0 else (match cmd with | some k => k.seq | none => 0)
        let d := leBytes 8 (now s) ++ leBytes 2 c ++ [BitVec.ofNat 8 (st.1 + 16 * st.2), BitVec.ofNat 8 fl] ++ leBytes 2 ten ++ leBytes 2 word ++ leBytes 4 tag ++ leBytes 4 seq ++ leBytes 4 s.obs.pcsMissed ++ leBytes 4 0
        let a := s.get OBS_PCS_BASE_LO.BASE * 32 + 2 ^ 32 * s.get OBS_PCS_BASE_HI.BASE + 32 * (slot % 2 ^ l)
        let s2 := { g.2 with obs := { g.2.obs with pcsMissed := 0, pcsBusy := g.2.obs.pcsBusy + 1 } }
        (newTxn s2 (s.get OBS_PCS_BASE_HI.SPACE) .wr 1 a 32 d .pcs [] [] none (s.get OBS_PCS_SHIFT.OWNER)).1

/-- A program-counter record has been written. -/
def pcsWritten (s : State) : State :=
  { s.inc OBS_PCS_TAIL.TAIL with obs := { s.obs with pcsBusy := s.obs.pcsBusy - 1 } }

def execPcSample (n : Nat) (s : State) : Host.Outcome State Fault Refusal := .next (pcSample s n)

/-- The ring of program-counter samples may be enabled. (DEDUCED, log 24) -/
def pcsEnableOk (s : State) : Bool :=
  let l := s.get OBS_PCS_CFG.LOG2_SIZE
  let sp := s.get OBS_PCS_BASE_HI.SPACE
  let a := s.get OBS_PCS_BASE_LO.BASE * 32 + 2 ^ 32 * s.get OBS_PCS_BASE_HI.BASE
  let own := s.get OBS_PCS_SHIFT.OWNER
  6 ≤ l && l ≤ 16 && sp ≤ 1 && a % 4096 == 0 && inSpace sp a (32 * 2 ^ l) && (own == serviceDom || (own < 512 && winOk s own sp a (32 * 2 ^ l) 1 false))

/-! ### Trace units (R646 to R653) -/

/-- The 32 bytes of a trace record. -/
def trcBytes (r : TrcRec) (phase : Nat) : List Byte :=
  leBytes 8 r.time ++ [BitVec.ofNat 8 r.kind, BitVec.ofNat 8 (r.flags + 32 * phase)] ++ leBytes 2 r.ten ++ leBytes 4 r.tag ++ (r.detail ++ leBytes 16 0).take 16

/-- Entry e of a unit's buffer. -/
def trcEntry (s : State) (u e : Nat) : Option TrcRec :=
  let t := trcOf s u
  ((t.recs ++ t.frozenA ++ t.frozenB).find? (fun (x : Nat × TrcRec) => x.1 == e)).map (·.2)

/-- A word of OBS_TRC_BUF: an entry that holds no record reads zero. (DESIGN CHOICE, log 105) -/
def trcWord (s : State) (u j : Nat) : W32 :=
  match trcEntry s u (j / 8) with
  | some r => BitVec.ofNat 32 (leAt (trcBytes r 0) (4 * (j % 8)) 4)
  | none => 0

/-- ARM (R648). -/
def trcArm (s : State) (u : Nat) : State :=
  let s1 := setTrc s u { Trc.zero with draining := (trcOf s u).draining, drainAt := (trcOf s u).drainAt }
  putHeld (((s1.put OBS_TRC_STATUS.STATE 1 u).put OBS_TRC_STATUS.FROZEN_A 0 u).put OBS_TRC_STATUS.FROZEN_B 0 u) u

/-- DISARM: recording ends; the records are kept. -/
def trcDisarm (s : State) (u : Nat) : State := s.put OBS_TRC_STATUS.STATE 0 u

/-- RELEASE of the frozen half (R650). -/
def trcRelease (s : State) (u : Nat) : State :=
  putHeld ((((setTrc s u { trcOf s u with frozenA := [], frozenB := [] }).put OBS_TRC_STATUS.FROZEN_A 0 u).put OBS_TRC_STATUS.FROZEN_B 0 u)) u

/-- A write of OBS_TRC_CTL: its set bits act in order. (DESIGN CHOICE, log 104) -/
def trcCtl (s : State) (u v : Nat) : State :=
  let s1 := if bit v 0 then trcArm s u else s
  let s2 := if bit v 1 then trcDisarm s1 u else s1
  let s3 := if bit v 2 then trcFire 4 s2 u else s2
  let s4 := if bit v 3 && trcLive s3 u then trcSnap s3 u else s3
  if bit v 4 then trcRelease s4 u else s4

/-- TRACE_STOPPED (R651): after the records that follow the trigger. -/
def trcStopped (s : State) (u : Nat) : State :=
  let t := trcOf s u
  if s.get OBS_TRC_STATUS.STATE u = 2 && t.trig && t.left = 0 then s.put OBS_TRC_STATUS.STATE 3 u else s

def execTraceStopped (u : Nat) (s : State) : Host.Outcome State Fault Refusal := .next (trcStopped s u)

/-- The record that a drain copies next: the oldest, or under SNAP the oldest of a frozen half (R652). -/
def drainNext (s : State) (u : Nat) : Option TrcRec :=
  let t := trcOf s u
  if s.get OBS_TRC_CFG.POLICY u = 2 then ((t.frozenA ++ t.frozenB).head?).map (fun (x : Nat × TrcRec) => x.2)
  else (t.recs.head?).map (fun (x : Nat × TrcRec) => x.2)

/-- Takes the drained record off; a frozen half that has been copied whole is released. -/
def drainPop (s : State) (u : Nat) : State :=
  let t := trcOf s u
  let t1 :=
    if s.get OBS_TRC_CFG.POLICY u = 2 then
      (match t.frozenA with
       | _ :: r => { t with frozenA := r }
       | [] => { t with frozenB := t.frozenB.drop 1 })
    else { t with recs := t.recs.drop 1 }
  let s1 := setTrc s u { t1 with draining := none }
  let s2 := if t.frozenA.length = 1 && t1.frozenA.isEmpty then s1.put OBS_TRC_STATUS.FROZEN_A 0 u else s1
  putHeld (if t.frozenB.length = 1 && t1.frozenB.isEmpty then s2.put OBS_TRC_STATUS.FROZEN_B 0 u else s2) u

/-- A drain write has been accepted: its entry is free. -/
def drainFree (s : State) (u : Nat) : State :=
  match (trcOf s u).draining with
  | some id => if idAccepted s id then (drainPop s u).put OBS_DRN_TAIL.TAIL (s.get OBS_DRN_TAIL.TAIL u + 1) u else s
  | none => s

/-- TRACE_DRAIN of unit u (R652): one record, at most one in 8 CCLK cycles, while the ring has room. -/
def traceDrain (s0 : State) (u : Nat) : State :=
  let s := drainFree s0 u
  let t := trcOf s u
  let l := s.get OBS_DRN_CFG.LOG2_SIZE u
  let tail := s.get OBS_DRN_TAIL.TAIL u
  if !(s.on OBS_DRN_CFG.DRAIN_EN u) || !(coreRuns s) || t.draining.isSome || s.clk.cclk < t.drainAt || 2 ^ l ≤ sub32 tail (s.get OBS_DRN_HEAD.HEAD u) then s
  else
    match drainNext s u with
    | none => s
    | some r =>
      let a := s.get OBS_DRN_BASE_LO.BASE u * 32 + 2 ^ 32 * s.get OBS_DRN_BASE_HI.BASE u + 32 * (tail % 2 ^ l)
      let w := newTxn s (s.get OBS_DRN_BASE_HI.SPACE u) .wr 1 a 32 (trcBytes r (phaseOf tail l)) (.drain u) [] [] none serviceDom
      setTrc w.1 u { t with draining := some w.2, drainAt := s.clk.cclk + 8 }

def execTraceDrain (u : Nat) (s : State) : Host.Outcome State Fault Refusal := .next (traceDrain s u)

/-- A trace configuration whose filter names a confidential tenant (R653). -/
def trcCfgConf (s : State) (v : Nat) : Bool := bit v 11 && conf s (bits v 13 10)

/-- A trigger that could only match a confidential tenant: KIND under a filter of one, WATCH of a watchpoint filtered to one. -/
def trcTrigConf (s : State) (u v : Nat) : Bool :=
  let src := bits v 0 4
  let targ := bits v 4 8
  (src == 1 && s.on OBS_TRC_CFG.FILT_TEN u && conf s (s.get OBS_TRC_CFG.TENANT u)) ||
  (src == 2 && targ < 64 && s.on OBS_WP_CFG.FILT_TEN targ && conf s (s.get OBS_WP_TEN.TENANT targ))

/-! ### Breakpoints and debug (R656 to R659) -/

/-- A requested halt takes effect where the context does not wait (R655, R657). -/
def haltTake (s : State) (c : Nat) : State :=
  updCtx s c (fun x => match x.haltReq with | some r => if x.wait.isNone then { x with halt := some r, haltReq := none } else x | none => x)

def haltPass (s : State) : State := s.prog.ctx.foldl (fun acc (p : Nat × Ctx) => if p.2.haltReq.isSome then haltTake acc p.1 else acc) s

/-- A context of a tenant in confidential mode. -/
def ctxConf (s : State) (c : Nat) : Bool := match (ctxOf s c).ten with | some t => conf s t | none => false

/-- The halted context has no operation outstanding (R657). -/
def drained (s : State) (c : Nat) : Bool :=
  (ctxOf s c).halt.isSome && !(s.xf.ops.any (fun o => o.ctx == c)) && !(s.xf.txns.any (fun t => t.ctx == some c))

/-- OBS_DBG_STATUS. -/
def dbgStatus (s : State) : Nat :=
  let c := s.get OBS_DBG_CTL.CONTEXT
  if ctxConf s c then 0
  else
    match (ctxOf s c).halt with
    | some h => 1 + 2 * b2n (drained s c) + 16 * h.1 + 256 * h.2
    | none => 0

/-- A command of OBS_DBG_CTL.CMD (R657, R659). -/
def dbgCmd (s : State) (cmd : Nat) : State :=
  let c := s.get OBS_DBG_CTL.CONTEXT
  if cmd = 0 || 4 ≤ cmd || !(ctxExists s c) then s
  else if ctxConf s c then s.put OBS_STATUS.CONF_REFUSED 1
  else
    match cmd with
    | 1 => if (ctxOf s c).halt.isSome then s else haltTake (updCtx s c (fun x => { x with haltReq := some (0, 0) })) c
    | 2 => updCtx s c (fun x => { x with halt := none, haltReq := none, stepOne := false })
    | _ => if (ctxOf s c).halt.isSome then updCtx s c (fun x => { x with halt := none, haltReq := none, stepOne := true }) else s

/-- Word j of OBS_DBG_REG (R658). (DESIGN CHOICE, log 105) -/
def dbgRead (s : State) (j : Nat) : W32 :=
  let c := s.get OBS_DBG_CTL.CONTEXT
  let x := ctxOf s c
  if x.halt.isNone || ctxConf s c then 0
  else if j < 64 then (if x.pendG.testBit (j / 2) then 0 else BitVec.ofNat 32 (bits (gReg x (j / 2)).toNat (32 * (j % 2)) 32))
  else if j = 64 then BitVec.ofNat 32 (predBits x)
  else if j = 65 then BitVec.ofNat 32 (here s c)
  else if j < 128 then 0
  else if x.pendD.testBit ((j - 128) / 16) then 0
  else BitVec.ofNat 32 (bits (dReg x ((j - 128) / 16)).toNat (32 * ((j - 128) % 16)) 32)

/-- A write of word j of OBS_DBG_REG (R658, R659). -/
def dbgWrite (s : State) (j : Nat) (v : W32) : State :=
  let c := s.get OBS_DBG_CTL.CONTEXT
  if ctxConf s c then s.put OBS_STATUS.CONF_REFUSED 1
  else if !(drained s c) then s.put OBS_STATUS.BUSY 1
  else
    updCtx s c (fun x =>
      if j < 64 then setGReg x (j / 2) (BitVec.ofNat 64 (setBits (gReg x (j / 2)).toNat (32 * (j % 2)) 32 v.toNat))
      else if j = 64 then { x with p := bits v.toNat 1 7 * 2 + 1 }
      else if j = 65 then { x with pc := ⟨bit v.toNat 15, v.toNat % 0x8000⟩, line := none }
      else if j < 128 then x
      else setDReg x ((j - 128) / 16) (BitVec.ofNat 512 (setBits (dReg x ((j - 128) / 16)).toNat (32 * ((j - 128) % 16)) 32 v.toNat)))

/-- The breakpoint that context c hits at its program counter (R656). (DEDUCED, log 108) -/
def bpHit (s : State) (c : Nat) : Option Nat :=
  let x := ctxOf s c
  if x.stepOne then none
  else (List.range 16).find? (fun b =>
    s.on OBS_BP0.EN b && (if s.on OBS_BP0.ALL b then x.ten == some (s.get OBS_BP0.CONTEXT b) else s.get OBS_BP0.CONTEXT b == c) &&
    (s.get OBS_BP0.SEG b == b2n x.pc.code) && s.get OBS_BP1.WORD b == x.pc.word && !(ctxConf s c))

/-- A breakpoint whose enabling write names a confidential tenant is refused (R659). -/
def bpConf (s : State) (v : Nat) : Bool :=
  bit v 31 && (if bit v 10 then conf s (bits v 0 10) else ctxConf s (bits v 0 10))

/-! ### The fault port (R662, R663) -/

/-- The source that is presented next: pending, of highest severity, of lowest index. -/
def fltChoose (s : State) : Option (Nat × Nat) :=
  ((List.range 128).filter (fun i => fltPending s i && s.get FLT_SEV.SEV i != 0)).foldl (fun b i =>
    match b with
    | none => some (i, s.get FLT_SEV.SEV i)
    | some (_, v) => if v < s.get FLT_SEV.SEV i then some (i, s.get FLT_SEV.SEV i) else b) none

/-- The presentation in force must end, or one can begin. -/
def fltChange (s : State) : Bool :=
  match s.obs.flt.shown with
  | none => (fltChoose s).isSome
  | some (i, v) => !(fltPending s i) || s.get FLT_SEV.SEV i != v || (match fltChoose s with | some (_, w) => v < w | none => true)

/-- The fault port at the current RCOSC cycle: a change decided in cycle n takes valid low in n + 1, drives the new source from n + 2
and raises valid in n + 3. -/
def fltTick (s : State) : State :=
  let f := s.obs.flt
  let put (g : FltPort) : State := { s with obs := { s.obs with flt := g } }
  match f.lowAt with
  | some n =>
    let src := match f.shown with | some (i, _) => i | none => 0
    let sev := match f.shown with | some (_, v) => v | none => 0
    if n + 3 ≤ s.clk.rcosc then put { f with lowAt := none, valid := f.shown.isSome, src := src, sev := sev }
    else if n + 2 ≤ s.clk.rcosc then put { f with valid := false, src := src, sev := sev }
    else if n + 1 ≤ s.clk.rcosc then put { f with valid := false }
    else s
  | none => if fltChange s then put { f with lowAt := some s.clk.rcosc, shown := fltChoose s } else s

/-- FAULT_PRESENT (R662). -/
def execFaultPresent (s : State) : Host.Outcome State Fault Refusal := .next (if s.clk.aon then fltTick s else s)

end Sys2Proof.Machine
end

