-- ==== Sys2Proof/Machine/Lease.lean ====
section
/-! DEFINITION. Tenants and leases at a course boundary (13): tenant enables, view values, lease changes with their scrubs, and the end of a
scrub. -/

namespace Sys2Proof.Machine

open Sys2Proof

/-! ### Lease registers (Table - Unit kinds) -/

def leaseReg (kind : Nat) : RegName :=
  match kind with
  | 1 => .BND_SLOT_CFG
  | 2 => .KLN_SLOT_CFG
  | 4 => .HOD_CFG
  | 5 => .CIR_PALLET_LEASE
  | _ => .TRW_CTX_CFG

/-- The bit of EN, or of BIND for a context. -/
def leaseBit (kind : Nat) : Nat := if kind = ukCtx then 24 else 31

/-- Units of a kind on the personality. -/
def unitCount (s : State) (kind : Nat) : Nat :=
  match kind with
  | 1 => if isMem s then 0 else 32
  | 2 => if isMem s then 0 else 256
  | 4 => if isSw s then 0 else 64
  | 5 => 4096
  | 6 => if isEp s then 512 else 0
  | _ => 0

/-- TENANT and EN as the register holds them. -/
def leaseWritten (s : State) (kind i : Nat) : Nat × Bool :=
  let v := (s.rg (leaseReg kind) i).toNat
  (bits v 0 10, bit v (leaseBit kind))

def putLease (s : State) (kind i ten : Nat) (en : Bool) : State :=
  let v := (s.rg (leaseReg kind) i).toNat
  s.setRg (leaseReg kind) (BitVec.ofNat 32 (setBits (setBits v 0 10 ten) (leaseBit kind) 1 (b2n en))) i

/-- The generation goes up by one modulo 256. -/
def bumpGen (s : State) (kind i : Nat) : State :=
  let v := (s.rg (leaseReg kind) i).toNat
  s.setRg (leaseReg kind) (BitVec.ofNat 32 (setBits v 16 8 (bits v 16 8 + 1))) i

/-- The lease in force: none, or the tenant. -/
def leaseNow (s : State) (kind i : Nat) : Nat × Bool :=
  if kind = ukCtx then
    (match (ctxOf s i).ten with
     | some t => (t, true)
     | none => (0, false))
  else ((unitOf s kind i).ten, (unitOf s kind i).en)

/-- The value differs from the one in force (R112, R259, R348, R513, R550). -/
def leaseDiffers (s : State) (kind i ten : Nat) (en : Bool) : Bool :=
  let c := leaseNow s kind i
  if kind = ukCtx then c.2 != en || (en && c.1 != ten) else c != (ten, en)

/-! ### The scrub (R552) -/

/-- Step 1: the unit stops, and its operations and commands complete with ABORTED (R113, R260, R349, R434, R513). -/
def stopUnit (s : State) (kind i : Nat) : State :=
  match kind with
  | 1 => bondAbort s i
  | 2 =>
    (s.kiln.jobs.filter (fun j => j.slot == i)).foldl (fun acc j =>
      match j.mode with
      | 0 => updJob acc j.id (fun x => { x with stat := some (abortedSt 0), queue := [], buf := [], outs := [] })
      | 1 => dropJob (match opById acc j.key with | some o => opKill acc o.id (abortedSt o.word) | none => acc) j.id
      | _ => dropJob (bondAbort acc j.key) j.id) s
  | 4 => abortHod s i
  | 5 => abortPallet s i
  | 6 =>
    let s1 := (ctxOf s i).cmds.foldl (fun acc m => abortCmd acc i m.id false) s
    updCtx (inertTxns s1 (fun y => match y with | .fetch k _ => k == i | _ => false)) i (fun x => { x with fetch := none })
  | _ => s

/-- Step 3: the unit's state is zeroised. A context keeps the commands that still run, and nothing that is owed to it reaches its registers. -/
def clearUnit (s : State) (kind i : Nat) : State :=
  match kind with
  | 2 => kilnClear s i
  | 4 => hodStatus (setReplay s i []) i
  | 5 => s.put CIR_PALLET_PORTS.STATE 0 i
  | 6 => updCtx (inertTxns s (fun y => match y with | .dld k _ _ _ => k == i | _ => false)) i (fun x => { Ctx.zero with cmds := x.cmds })
  | _ => s

/-- Steps 3 and 4: the lease that follows. `scrubbed` is false for a unit that was not leased and is not leased now. -/
def enterLease (s : State) (kind i ten : Nat) (en scrubbed : Bool) : State :=
  let s1 := bumpGen (putLease s kind i ten en) kind i
  let u := course s + 1
  let s2 := if kind = ukCtx then updCtx s1 i (fun x => { x with ten := if en then some ten else none, usable := u, scrub := scrubbed })
    else s1
  let s3 := setUnit s2 kind i ⟨ten, en, u, scrubbed⟩
  match kind with
  | 1 => collStatus s3 i
  | 4 => hodStatus s3 i
  | _ => s3

/-- One lease change (R550 to R552). (DEDUCED, log 102) -/
def leaseChange (s : State) (kind i ten : Nat) (en : Bool) : State :=
  if !(leaseDiffers s kind i ten en) then putLease s kind i ten en
  else
    let was := leaseNow s kind i
    let bad := en && !(tenActive s ten)
    let s0 := if bad then s.put SEC_STATUS.LEASE_ERR 1 else s
    let go := en && !bad
    let s1 := stopUnit s0 kind i
    let s2 := if was.2 then freezeUnit s1 kind i was.1 else s1
    enterLease (clearUnit s2 kind i) kind i ten go (was.2 || go)

/-! ### LEASE actions (R549) -/

/-- The entries of a LEASE action: kind, enable, index, tenant. -/
def leaseEntries (d : BitVec 512) : List (Nat × Bool × Nat × Nat) :=
  (List.range (dByte d 0 1)).map (fun k => (dByte d (8 + 8 * k) 1, bit (dByte d (9 + 8 * k) 1) 0, dByte d (10 + 8 * k) 2, dByte d (12 + 8 * k) 2 % 1024))

/-- A malformed LEASE request (R549). -/
def leaseBad (s : State) (d : BitVec 512) : Bool :=
  let n := dByte d 0 1
  n = 0 || 7 < n || dByte d 1 7 != 0 || d.toNat / 2 ^ (8 * (8 + 8 * n)) != 0 ||
  (List.range n).any (fun k =>
    let kind := dByte d (8 + 8 * k) 1
    let ten := dByte d (12 + 8 * k) 2
    2 ≤ dByte d (9 + 8 * k) 1 || 1024 ≤ ten || serviceDom < ten || dByte d (14 + 8 * k) 2 != 0 || unitCount s kind ≤ dByte d (10 + 8 * k) 2)

/-- The units that a boundary judges, with their final values (R544, R550): written registers, LEASE entries, and the units of tenants that leave. -/
def leaseFinal (s : State) (entries : List (Nat × Bool × Nat × Nat)) (gone : List Nat) : List (Nat × Nat × Bool) :=
  let written := s.sec.due.map (fun k => let v := leaseWritten s (k / 65536) (k % 65536); (k, v.1, v.2))
  let named := written ++ entries.map (fun e => (unitKey e.1 e.2.2.1, e.2.2.2, e.2.1))
  let keys := (named.map (·.1)).eraseDups
  let last := keys.filterMap (fun k => (named.reverse.find? (fun (z : Nat × Nat × Bool) => z.1 == k)))
  let ctxs := (s.prog.ctx.filter (fun (p : Nat × Ctx) => match p.2.ten with | some t => gone.contains t | none => false)).map (fun (p : Nat × Ctx) => unitKey ukCtx p.1)
  let held := (s.sec.units.filter (fun (x : Nat × Lease) => x.1 / 65536 != ukCtx && x.2.en && gone.contains x.2.ten)).map (fun (x : Nat × Lease) => x.1)
  last ++ ((ctxs ++ held).filter (fun k => !(keys.contains k))).map (fun k => (k, (leaseNow s (k / 65536) (k % 65536)).1, false))

/-- The lease changes of position 4. -/
def leasePass (s : State) (entries : List (Nat × Bool × Nat × Nat)) (gone : List Nat) : State :=
  let l := leaseFinal s entries gone
  let s1 := l.foldl (fun acc (z : Nat × Nat × Bool) => leaseChange acc (z.1 / 65536) (z.1 % 65536) z.2.1 z.2.2) s
  { s1 with sec := { s1.sec with due := [] } }

/-! ### Tenants (R542 to R544) -/

/-- Zeroises the keys of a tenant that has left, once no scrub runs. -/
def zeroTenant (s : State) (t : Nat) : State :=
  let s1 := { s with sec := { s.sec with kwk := tabDel t s.sec.kwk, ek := tabDel (2 * t) (tabDel (2 * t + 1) s.sec.ek) } }
  let s2 := ((((s1.put SEC_TEN_CFG.CUR 0 t).put SEC_TEN_CFG.LIVE0 0 t).put SEC_TEN_CFG.LIVE1 0 t).put SEC_TEN_CFG.RETIRING0 0 t).put SEC_TEN_CFG.RETIRING1 0 t
  ((s2.put SEC_TEN_CFG.KEYED 0 t).put SEC_KEY_NUM.NUM 0 t 0).put SEC_KEY_NUM.NUM 0 t 1

def scrubsRun (s : State) : Bool := s.sec.units.any (fun (x : Nat × Lease) => x.2.scrub)

def zeroPass (s : State) : State :=
  if scrubsRun s then s
  else
    let s1 := s.sec.zeroDue.foldl zeroTenant s
    { s1 with sec := { s1.sec with zeroDue := [] } }

/-- Tenants whose enable in force changes at this boundary. -/
def tenChanges (s : State) : List Nat :=
  (List.range 512).filter (fun t => s.get SEC_TEN_CFG.EN t != s.get SEC_TEN_CFG.ACTIVE t)

/-- One tenant's enable takes effect; a leaving tenant's read-combining entries go, and its keys are to be zeroised. -/
def tenChange (s : State) (t : Nat) : State :=
  if s.on SEC_TEN_CFG.EN t then s.put SEC_TEN_CFG.ACTIVE 1 t
  else
    let s1 := freezeRings (rcbDrop (s.put SEC_TEN_CFG.ACTIVE 0 t) (fun e => e.ten == t)) t
    { s1 with sec := { s1.sec with zeroDue := s1.sec.zeroDue ++ [t] } }

/-- New view values take effect (R51). -/
def viewPass (s : State) : State :=
  let s1 := s.viewDue.foldl (fun acc t => { acc with views := tabSet 0 t (s.rg .TEN_VIEW_CFG t).toNat acc.views }) s
  { s1 with viewDue := [] }

/-- The end of a scrub: the unit's counters count again (R552, R637). -/
def scrubEnd (s : State) (kind i : Nat) : State :=
  match tabFind (unitKey kind i) s.sec.units with
  | none => s
  | some l =>
    if !l.scrub then s
    else
      let s1 := thawUnit (setUnit s kind i { l with scrub := false }) kind i
      let s2 := if kind = ukCtx then updCtx s1 i (fun x => { x with scrub := false }) else s1
      match kind with
      | 1 => collStatus s2 i
      | 4 => hodStatus s2 i
      | _ => s2

/-- Scrubs that still run at a boundary have ended before it (R552). -/
def scrubsEnd (s : State) : State :=
  zeroPass ((s.sec.units.filter (fun (x : Nat × Lease) => x.2.scrub)).foldl (fun acc (x : Nat × Lease) => scrubEnd acc (x.1 / 65536) (x.1 % 65536)) s)

/-- Position 4 of a boundary: tenant enables, views, leases. -/
def tenancyPass (s0 : State) (entries : List (Nat × Bool × Nat × Nat)) : State :=
  let s := scrubsEnd s0
  let ch := tenChanges s
  let gone := ch.filter (fun t => !(s.on SEC_TEN_CFG.EN t))
  zeroPass (leasePass (viewPass (ch.foldl tenChange s)) entries gone)

/-- SCRUB_DONE (R552). -/
def execScrubDone (kind i : Nat) (s : State) : Host.Outcome State Fault Refusal := .next (zeroPass (scrubEnd s kind i))

end Sys2Proof.Machine
end

