-- ==== Sys2Proof/Machine/Keys.lean ====
section
/-! DEFINITION. Keys (13): the identity keys, key exchange and reports, epochs at a course boundary, and the re-encryption of a stored page. -/

namespace Sys2Proof.Machine

open Sys2Proof

/-! ### Identity keys (Table - Key classes) -/

/-- The order of the group of P-384 (FIPS 186-5). -/
def p384n : Nat := 0xFFFFFFFFFFFFFFFFFFFFFFFFFFFFFFFFFFFFFFFFFFFFFFFFC7634D81F4372DDF581A0DB248B0A77AECEC196ACCC52973

/-- The number of a byte string, most significant byte first. -/
def ofBe (l : List Byte) : Nat := ofLe l.reverse

/-- A private scalar from 48 bytes of output: the value modulo (n - 1), plus 1; as 48 bytes, most significant first. -/
def scalar48 (d : List Byte) : List Byte := (leBytes 48 (ofBe (d.take 48) % (p384n - 1) + 1)).reverse

def romDigest : List Byte := Config.sha384 Config.romBytes

def dikOf (cs : List Byte) : List Byte := scalar48 (Config.kdf cs [] (ascii "DIK") 48)
def akOf (s : State) (cs : List Byte) : List Byte := scalar48 (Config.kdf cs (romDigest ++ s.boot.fwBoot) (ascii "AK") 48)
def xkOf (s : State) (cs : List Byte) : List Byte := scalar48 (Config.kdf cs (romDigest ++ s.boot.fwBoot) (ascii "XK") 48)

/-- Exactly n bytes of a byte string. -/
def fitBytes (n : Nat) (l : List Byte) : List Byte := (l ++ List.replicate n 0).take n

/-- Places bytes in an array of word registers, R7. -/
def putBytes (s : State) (r : RegName) (d : List Byte) : State :=
  (List.range ((d.length + 3) / 4)).foldl (fun acc k => acc.setRg r (BitVec.ofNat 32 (leAt d (4 * k) 4)) k) s

/-- The alias record (R558). -/
def aliasRecord (s : State) (cs : List Byte) : List Byte :=
  let body := fitBytes 96 (Config.ecPub (dikOf cs)) ++ fitBytes 96 (Config.ecPub (akOf s cs)) ++ fitBytes 48 romDigest ++ fitBytes 48 s.boot.fwBoot
  body ++ fitBytes 96 (Config.ecdsaSign (dikOf cs) body)

/-! ### Reports (R575) -/

/-- Kiln slots, bond slots, hods or pallets leased to a tenant. -/
def leasedUnits (s : State) (kind t : Nat) : List Nat :=
  (s.sec.units.filter (fun (x : Nat × Lease) => x.1 / 65536 == kind && x.2.en && x.2.ten == t)).map (fun (x : Nat × Lease) => x.1 % 65536)

def leasedCtxs (s : State) (t : Nat) : List Nat :=
  (s.prog.ctx.filter (fun (x : Nat × Ctx) => x.2.ten == some t)).map (fun (x : Nat × Ctx) => x.1)

/-- The bytes of a tenant's code region: none without one. -/
def codeBytes (s : State) (t : Nat) : List Byte :=
  if s.on TRW_CODE.EN t then spwRead s (s.get TRW_CODE.BASE_4K t * 4096) ((s.get TRW_CODE.SIZE_4K_M1 t + 1) * 4096) else []

/-- Program words and parameter block of every kiln slot of a tenant, in slot order. -/
def kilnBytes (s : State) (t : Nat) : List Byte :=
  ((leasedUnits s ukKiln t).map (fun k =>
    ((tabGet [] k s.kiln.prog).map (fun (w : W64) => leBytes 8 w.toNat)).flatten ++ leBytes 64 (tabGet 0 k s.kiln.param).toNat)).flatten

/-- A tenant's view entries in order, as their registers hold them. -/
def viewBytes (s : State) (t : Nat) : List Byte :=
  let cfg := tabGet 0 t s.views
  if !(bit cfg 31) then []
  else ((List.range (bits cfg 16 10 * 64)).map (fun k => leBytes 4 (s.rg .TEN_VIEW_ENTRY (bits cfg 0 11 * 64 + k)).toNat)).flatten

/-- The weight ranges of a request: address and length. -/
def weightRanges (d : List Byte) : List (Nat × Nat) :=
  [0, 1, 2, 3].map (fun j => (leAt d (32 + 16 * j) 8, leAt d (40 + 16 * j) 8))

/-- A used range that may not be measured: outside its space, or outside the tenant's windows. -/
def rangeBad (s : State) (t : Nat) (r : Nat × Nat) : Bool :=
  r.2 != 0 && (badSpace r.1 || 2 ≤ spaceOf r.1 || !(inSpace (spaceOf r.1) (offsetOf r.1) r.2) || (isSw s && spaceOf r.1 == 0) ||
    !(winOk s t (spaceOf r.1) (offsetOf r.1) r.2 0 false))

/-- The digest of range j: of the bytes that the host memory returned, or of the scratchpad's. -/
def rangeDigest (s : State) (h : List (List Byte)) (j : Nat) (r : Nat × Nat) : List Byte :=
  if r.2 = 0 then List.replicate 48 0
  else if spaceOf r.1 = 1 then fitBytes 48 (Config.sha384 (spwRead s (offsetOf r.1) r.2))
  else fitBytes 48 (Config.sha384 (fitBytes r.2 (h.getD j [])))

/-- Bytes 0 to 767 of the report for a tenant (Table - Attestation report). (DEDUCED, log 70) -/
def reportBody (s : State) (t : Nat) (cs d : List Byte) (h : List (List Byte)) : List Byte :=
  let ten := t < 512
  let dig (x : List Byte) : List Byte := if ten then fitBytes 48 (Config.sha384 x) else List.replicate 48 0
  let flags := b2n (!(sure s)) + 2 * b2n (conf s t) + 4 * b2n (ten && s.on SEC_TEN_CFG.ACTIVE t) + 8 * b2n (!(s.on GLB_LOCK.TEST) || s.tap.opened)
  let cnt (n : Nat) : List Byte := leBytes 2 (if ten then n else 0)
  let ranges := weightRanges d
  leBytes 2 1 ++ leBytes 1 (match persona s with | .ep => 0 | .sw => 1 | .mem => 2 | .rsvd => 3) ++ leBytes 1 (s.get GLB_ID.REVISION) ++ leBytes 2 (ownFlat s) ++ leBytes 2 t ++
  leBytes 8 (now s) ++ leBytes 4 flags ++ leBytes 4 (if ten then s.get SEC_KEY_NUM.NUM t 0 else 0) ++ leBytes 4 (if ten then s.get SEC_KEY_NUM.NUM t 1 else 0) ++ leBytes 4 s.boot.swaps ++
  fitBytes 32 d ++ fitBytes 48 (Config.sha384 (Config.ecPub (dikOf cs))) ++ fitBytes 96 (Config.ecPub (xkOf s cs)) ++ fitBytes 48 romDigest ++
  fitBytes 48 s.boot.fwBoot ++ fitBytes 48 s.boot.fwNow ++ dig (codeBytes s t) ++ dig (kilnBytes s t) ++ dig (viewBytes s t) ++
  cnt (leasedCtxs s t).length ++ cnt (leasedUnits s ukHod t).length ++ cnt (leasedUnits s ukBond t).length ++ cnt (leasedUnits s ukKiln t).length ++ cnt (leasedUnits s ukPallet t).length ++
  List.replicate 6 0 ++ (ranges.zipIdx.map (fun (x : (Nat × Nat) × Nat) => rangeDigest s h x.2 x.1)).flatten ++ fitBytes 64 (d.drop 32)

/-! ### Key exchange (R559 to R561) -/

def kxBytes (s : State) : List Byte := ((List.range 32).map (fun k => leBytes 4 (s.rg .SEC_KX_DATA k).toNat)).flatten

/-- A write of GO (R559): the operation takes its fields and its input. (DEDUCED, log 67) -/
def kxStart (s : State) : State :=
  if s.on SEC_KX_CTL.BUSY then s
  else
    let s1 := s.put SEC_KX_CTL.BUSY 1
    { s1 with sec := { s1.sec with kx := some (s.get SEC_KX_CTL.OP, s.get SEC_KX_CTL.TENANT, s.get SEC_KX_CTL.EPOCH, kxBytes s) } }

/-- KEYED: a key for every live epoch, at least one live. A live epoch always has its key. -/
def putKeyed (s : State) (t : Nat) : State := s.put SEC_TEN_CFG.KEYED (b2n (epochLive s t 0 || epochLive s t 1)) t

def liveFld (e : Nat) : Fld := if e = 0 then SEC_TEN_CFG.LIVE0 else SEC_TEN_CFG.LIVE1
def retFld (e : Nat) : Fld := if e = 0 then SEC_TEN_CFG.RETIRING0 else SEC_TEN_CFG.RETIRING1

def kwkOf (s : State) (t : Nat) : List Byte := tabGet [] t s.sec.kwk

/-- REPORT: the outcome, and the state with the report in `SEC_REPORT`. -/
def kxReport (s : State) (t : Nat) (cs d : List Byte) (h : List (List Byte)) : Nat × State :=
  if (weightRanges d).any (rangeBad s t) then (7, s)
  else
    let body := reportBody s t cs d h
    let s1 := putBytes s .SEC_REPORT (body ++ fitBytes 96 (Config.ecdsaSign (akOf s cs) body))
    (0, { s1 with sec := { s1.sec with nonce := tabPut t (d.take 32) s1.sec.nonce } })

/-- EXCHANGE (R560). The info string is the ASCII bytes of KWK, the flat ID and the tenant field. (DEDUCED, log 69) -/
def kxExchange (s : State) (t : Nat) (cs d : List Byte) : Nat × State :=
  let s1 := { s with sec := { s.sec with nonce := tabDel t s.sec.nonce } }
  match Config.ecdh (xkOf s cs) (d.take 96), tabFind t s.sec.nonce with
  | none, _ => (2, s1)
  | _, none => (3, s1)
  | some x, some n =>
    (0, { s1 with sec := { s1.sec with kwk := tabSet [] t (fitBytes 32 (Config.kdf (fitBytes 48 x) n (ascii "KWK" ++ leBytes 2 (ownFlat s) ++ leBytes 2 t) 32)) s1.sec.kwk } })

/-- INSTALL (R561). -/
def kxInstall (s : State) (t e : Nat) (d : List Byte) : Nat × State :=
  if kwkOf s t = [] then (4, s)
  else
    match Config.keyUnwrap (kwkOf s t) (d.take 40) with
    | none => (5, s)
    | some k =>
      if epochLive s t e || epochRetiring s t e then (6, s)
      else if leAt d 40 4 = 0 then (8, s)
      else
        let s1 := { s with sec := { s.sec with ek := tabPut (2 * t + e) (fitBytes 32 k) s.sec.ek, send := tabDel (2 * t + e) s.sec.send } }
        (0, putKeyed ((s1.put (liveFld e) 1 t).put SEC_KEY_NUM.NUM (leAt d 40 4) t e) t)

/-- Data fields beyond those of an operation's input (BAD_DATA). -/
def kxReserved (op : Nat) (d : List Byte) : Bool :=
  match op with
  | 1 => leAt d 96 32 != 0
  | 2 => leAt d 96 32 != 0
  | 3 => leAt d 44 84 != 0
  | _ => false

/-- The outcome of an operation (Table - Key exchange errors): an unavailable identity and malformed requests first, then the operation's own. (DEDUCED, log 68) -/
def kxRun (s : State) (op t e : Nat) (d : List Byte) (h : List (List Byte)) : Nat × State :=
  match s.sec.cs with
  | none => (1, s)
  | some cs =>
    if op = 0 || 4 < op || serviceDom < t || (t = serviceDom && op != 1) || kxReserved op d then (8, s)
    else match op with
      | 1 => kxReport s t cs d h
      | 2 => kxExchange s t cs d
      | 3 => kxInstall s t e d
      | _ => (0, { s with sec := { s.sec with kwk := tabDel t s.sec.kwk } })

/-- The operation ends: ERR, BUSY, and the input zeroised. -/
def kxDone (s : State) (h : List (List Byte)) : State :=
  match s.sec.kx with
  | none => s
  | some (op, t, e, d) =>
    let r := kxRun s op t e d h
    let s1 := (r.2.put SEC_KX_CTL.ERR r.1).put SEC_KX_CTL.BUSY 0
    let s2 := (List.range 32).foldl (fun acc k => acc.setRg .SEC_KX_DATA 0 k) s1
    { s2 with sec := { s2.sec with kx := none } }

/-! ### Epochs (R564 to R567) -/

/-- The entries of an EPOCH action: tenant, OP, epoch. -/
def epochEntries (d : BitVec 512) : List (Nat × Nat × Nat) :=
  (List.range (dByte d 0 1)).map (fun k => (dByte d (4 + 4 * k) 2 % 1024, dByte d (6 + 4 * k) 1, dByte d (7 + 4 * k) 1 % 2))

/-- A malformed EPOCH request (R564). (DEDUCED, log 77) -/
def epochBad (d : BitVec 512) : Bool :=
  let n := dByte d 0 1
  n = 0 || 15 < n || dByte d 1 3 != 0 ||
  (List.range n).any (fun k => 1024 ≤ dByte d (4 + 4 * k) 2 || serviceDom < dByte d (4 + 4 * k) 2 || dByte d (6 + 4 * k) 1 = 0 || 2 < dByte d (6 + 4 * k) 1 ||
    2 ≤ dByte d (7 + 4 * k) 1) || (n < 15 && d.toNat / 2 ^ (8 * (4 + 4 * n)) != 0)

def epochErr (s : State) : State := s.put SEC_STATUS.EPOCH_ERR 1

/-- The retire of an epoch applies (R566): it stops being live and becomes retiring. (DEDUCED, log 71) -/
def retireNow (s : State) (t e : Nat) : State :=
  if curEpoch s t = e then epochErr s
  else if epochLive s t e then putKeyed ((s.put (liveFld e) 0 t).put (retFld e) 1 t) t
  else s

/-- One entry (R565, R566). -/
def epochEntry (s : State) (x : Nat × Nat × Nat) : State :=
  let t := x.1
  let e := x.2.2
  if 512 ≤ t then epochErr s
  else if x.2.1 = 1 then (if epochLive s t e then s.put SEC_TEN_CFG.CUR e t else epochErr s)
  else if curEpoch s t = e then epochErr s
  else if s.on SEC_TEN_CFG.SWEEP t then
    let s1 := s.put SEC_STATUS.RETIRE_DEFER 1
    { s1 with sec := { s1.sec with retires := s1.sec.retires ++ [(t, e)] } }
  else retireNow s t e

/-- Position 5 of a boundary: entries in order, then the retires whose sweep has ended. (DEDUCED, log 71) -/
def epochPass (s : State) (entries : List (Nat × Nat × Nat)) : State :=
  let s1 := entries.foldl epochEntry s
  let go := s1.sec.retires.filter (fun (x : Nat × Nat) => !(s1.on SEC_TEN_CFG.SWEEP x.1))
  let s2 := go.foldl (fun acc (x : Nat × Nat) => retireNow acc x.1 x.2) s1
  { s2 with sec := { s2.sec with retires := s2.sec.retires.filter (fun (x : Nat × Nat) => s2.on SEC_TEN_CFG.SWEEP x.1) } }

/-- Requests or answers under an epoch of a tenant still remain (R567). -/
def epochUsed (s : State) (t e : Nat) : Bool :=
  let by' (p : Packet) : Bool := p.ten == t && p.kep == e
  (allReplay s).any (fun r => r.rsp && by' r.pkt) ||
  s.xf.rx.any (fun (x : Nat × RxFlow) => match x.2.cur with | some (p, _) => by' p | none => false) ||
  s.xf.txns.any (fun x => match x.why with
    | .pktRd _ _ _ p => by' p
    | .tag _ p => by' p
    | .merge _ p _ => by' p
    | _ => false)

/-- EPOCH_ZEROISE (R567). -/
def epochZeroise (s : State) (t e : Nat) : State :=
  if epochRetiring s t e && !(epochUsed s t e) then
    let s1 := { s with sec := { s.sec with ek := tabDel (2 * t + e) s.sec.ek } }
    (s1.put SEC_KEY_NUM.NUM 0 t e).put (retFld e) 0 t
  else s

/-! ### Sweeps (R297, R568) -/

/-- A write of GO to `SEC_SWEEP_CMD`. -/
def sweepStart (s : State) : State :=
  if !(isMem s) || s.on SEC_SWEEP_CMD.BUSY then s
  else
    let pg := s.get SEC_SWEEP_CMD.PAGE
    let s1 := s.put SEC_SWEEP_CMD.BUSY 1
    let s2 := { s1 with sec := { s1.sec with sweep := some ⟨pg, s.get SEC_SWEEP_CMD.TO, 0, false⟩ } }
    (newTxn s2 0 .rd 0 (tagAddr s2 pg) 16 [] .sweepTag [] [] none serviceDom).1

/-- A refused sweep leaves the page unchanged. (DEDUCED, log 72) -/
def sweepErr (s : State) : State :=
  let s1 := (s.put SEC_SWEEP_CMD.BUSY 0).put SEC_STATUS.SWEEP_ERR 1
  { s1 with sec := { s1.sec with sweep := none } }

/-- Unfinished accesses that write a page. -/
def pageWrites (s : State) (pg : Nat) : List Nat :=
  (s.xf.txns.filter (fun x => x.space == 0 && isWrite x.op && x.parts.any (fun p => p.addr / 65536 == pg))).map (·.id)

/-- The tag of the page has been read. -/
def sweepTagRead (s : State) (d : List Byte) (refused : Bool) : State :=
  match s.sec.sweep with
  | none => s
  | some w =>
    let own := leAt d 0 2
    if refused || leAt d 3 1 != 3 || !(epochLive s own w.into) || s.get HOD_PS_CFG.PAGES ≤ w.page then sweepErr s
    else
      let s1 := { s with sec := { s.sec with sweep := some { w with tag := ofLe d } } }
      (newTxn s1 0 .rd 0 (w.page * 65536) 65536 [] .sweepRd [] (pageWrites s1 w.page) none serviceDom).1

/-- The page has been read: it is written back under the new epoch. -/
def sweepPageRead (s : State) (d : List Byte) (refused : Bool) : State :=
  match s.sec.sweep with
  | none => s
  | some w =>
    if refused then sweepErr s
    else
      let own := bits w.tag 0 16
      let gen := bits w.tag 16 8
      let clear := pageXts Config.xtsInv s own (bits w.tag 32 1) gen (w.page * 65536) d
      let out := pageXts Config.xts s own w.into gen (w.page * 65536) clear
      (newTxn s 0 .wr 0 (w.page * 65536) 65536 out .sweepWr [] [] none serviceDom).1

/-- The page has been written. -/
def sweepWritten (s : State) (refused : Bool) : State :=
  match s.sec.sweep with
  | none => s
  | some w => if refused then sweepErr s else { s with sec := { s.sec with sweep := some { w with done := true } } }

/-- SWEEP_DONE: the rewrite ends, and requests held for the page look at its tag again (R297). -/
def sweepDone (s : State) : State :=
  match s.sec.sweep with
  | some w =>
    if w.done then tagRetry { s.put SEC_SWEEP_CMD.BUSY 0 with sec := { s.sec with sweep := none } } else s
  | none => s

/-- A write of CONF (R572), judged on the values in force; `v` is the word written and the result the word to be stored. -/
def confWrite (s : State) (t : Nat) (v : W32) : State × W32 :=
  let old := s.get SEC_TEN_CFG.CONF t
  let new := bits v.toNat 1 1
  if new != old && (s.on SEC_TEN_CFG.ACTIVE t || s.on SEC_TEN_CFG.EN t) || new = 1 && old != new && !(s.on GLB_LOCK.TEST) then
    (s.put SEC_STATUS.CONF_ERR 1, BitVec.ofNat 32 (setBits v.toNat 1 1 old))
  else (s, v)

/-- KX_DONE (R559): `h` holds the bytes that host memory returned for the weight ranges. -/
def execKxDone (h : List (List Byte)) (s : State) : Host.Outcome State Fault Refusal := .next (kxDone s h)

/-- EPOCH_ZEROISE (R567). -/
def execEpochZeroise (t e : Nat) (s : State) : Host.Outcome State Fault Refusal := .next (epochZeroise s t e)

/-- SWEEP_DONE (R297, R568). -/
def execSweepDone (s : State) : Host.Outcome State Fault Refusal := .next (sweepDone s)

end Sys2Proof.Machine
end

