-- ==== Sys2Proof/Machine/Boot.lean ====
section
/-! DEFINITION. The boot bundle and its checks (R605 to R613), and firmware modules: staging, swaps and old ranges (R614 to R619). -/

namespace Sys2Proof.Machine

open Sys2Proof

/-- The boot window: SPW offsets below 8 MiB (R605). -/
def bootWin : Nat := 0x800000

/-! ### The bundle (R608) -/

/-- A module descriptor. -/
structure ModDesc where
  modId : Nat
  flags : Nat
  off : Nat
  len : Nat
  load : Nat
  digest : List Byte
deriving DecidableEq, Repr

def bundleMods (s : State) (b : Nat) : List ModDesc :=
  let n := leAt (spwRead s (b + 6) 1) 0 1
  (List.range n).map (fun k =>
    let d := spwRead s (b + 32 + 64 * k) 64
    ⟨leAt d 0 2, leAt d 2 2, leAt d 4 4, leAt d 8 4, leAt d 12 4, d.drop 16⟩)

/-- 4 KiB units that a module occupies. -/
def modUnits (m : ModDesc) : Nat := ceilDiv m.len 4096

/-- Check 1 (Table - Boot checks): layout of the bundle at base b. (DEDUCED, log 74) -/
def layoutOk (s : State) (b : Nat) : Bool :=
  let h := spwRead s b 32
  let mods := bundleMods s b
  let n := mods.length
  let idl := leAt h 12 4
  let nc := leAt h 20 1
  leAt h 0 4 == 0x4E4C4231 && leAt h 4 2 == 1 && leAt h 7 1 == 0 && leAt h 21 3 == 0 && leAt h 28 4 == 0 && 1 ≤ n && n ≤ 16 && 1 ≤ nc && nc ≤ 3 &&
  4096 ≤ idl && idl ≤ 65536 && leAt h 8 4 + idl ≤ bootWin && leAt h 16 4 + 192 * nc ≤ bootWin && leAt h 24 4 + 96 ≤ bootWin &&
  mods.all (fun m => m.flags < 2 && m.len % 8 == 0 && m.len != 0 && m.off + m.len ≤ bootWin && m.load % 4096 == 0 && bootWin ≤ m.load && m.load + 4096 * modUnits m ≤ spwSize) &&
  mods.zipIdx.all (fun (x : ModDesc × Nat) => mods.zipIdx.all (fun (y : ModDesc × Nat) => x.2 == y.2 || !(overlaps x.1.load (4096 * modUnits x.1) y.1.load (4096 * modUnits y.1)))) &&
  (mods.filter (fun m => m.flags == 1)).length == 1

/-- The keys of the chain with their signatures. -/
def bundleChain (s : State) (b : Nat) : List (List Byte × List Byte) :=
  let h := spwRead s b 32
  (List.range (leAt h 20 1)).map (fun k => let d := spwRead s (b + leAt h 16 4 + 192 * k) 192; (d.take 96, d.drop 96))

def chainFrom (key : List Byte) : List (List Byte × List Byte) → Bool
  | [] => true
  | (k, sg) :: r => Config.ecdsaOk key (Config.sha384 k) sg && chainFrom k r

/-- Check 2: the digest of the root key, and each entry's signature. -/
def chainOk (s : State) (b : Nat) : Bool :=
  decide (Config.sha384 Config.rootKey = Config.rootDigest) && chainFrom Config.rootKey (bundleChain s b)

/-- Check 3: the manifest signature, by the key of the last entry. -/
def manifestOk (s : State) (b : Nat) : Bool :=
  let h := spwRead s b 32
  match (bundleChain s b).getLast? with
  | some (k, _) => Config.ecdsaOk k (Config.sha384 (spwRead s b (32 + 64 * leAt h 6 1))) (spwRead s (b + leAt h 24 4) 96)
  | none => false

/-- Check 4 with its copies: each image in descriptor order; the images copied, and whether all passed. -/
def loadImages (b : Nat) : List ModDesc → State → Bool × State × List ModDesc
  | [], s => (true, s, [])
  | m :: r, s =>
    let img := spwRead s (b + m.off) m.len
    if Config.sha384 img = m.digest then
      let x := loadImages b r (spwWrite s m.load img)
      (x.1, x.2.1, m :: x.2.2)
    else (false, s, [])

/-- The checks of a bundle in order (R609): 0 where all pass, else the error, with the images copied so far. -/
def verifyBundle (s : State) (b : Nat) : Nat × State × List ModDesc :=
  if !(layoutOk s b) then (1, s, [])
  else if !(chainOk s b) then (2, s, [])
  else if !(manifestOk s b) then (3, s, [])
  else
    let x := loadImages b (bundleMods s b) s
    (if x.1 then 0 else 4, x.2.1, x.2.2)

/-- Load ranges written so far are zeroised (R610, R614). -/
def unload (s : State) (l : List ModDesc) : State := l.foldl (fun acc m => spwZero acc m.load m.len) s

/-! ### Start-up (R606 to R613) -/

/-- A write of 1 to `CLK_BOOT_DOOR.GO`: source 0 the register channel, 1 the I3C target (R606). -/
def bootDoor (s : State) (src : Nat) : State :=
  if bootPhase s = phWaitDoor then setPhase (s.put CLK_BOOT_STATUS.SOURCE src) phVerify else s

def putModule (s : State) (k : Nat) (m : ModDesc) : State :=
  (((s.put TRW_MOD0.MOD_ID m.modId k).put TRW_MOD0.VALID 1 k).put TRW_MOD1.BASE_4K (m.load / 4096) k).put TRW_MOD1.SIZE_4K (modUnits m) k

/-- BOOT_VERIFY_DONE (R609 to R611). -/
def bootVerify (s : State) : State :=
  if bootPhase s != phVerify then s
  else
    let r := verifyBundle s 0
    if r.1 != 0 then setPhase (raise (spwZero (unload r.2.1 r.2.2) 0 bootWin |>.put CLK_BOOT_STATUS.ERR r.1) 1) phWaitDoor
    else
      let h := spwRead s 0 32
      let s1 := r.2.2.zipIdx.foldl (fun acc (x : ModDesc × Nat) => putModule acc x.2 x.1) (r.2.1.put CLK_BOOT_STATUS.ERR 0)
      let fw := Config.sha384 ((r.2.2.map (fun m => spwRead s m.off m.len)).flatten)
      let ent := match r.2.2.find? (fun m => m.flags == 1) with | some m => (m.load, m.len / 8) | none => (0, 0)
      setPhase { s1 with boot := { s1.boot with fwBoot := fw, fwNow := fw, swaps := 0, entry := ent, idrec := spwRead s (leAt h 8 4) (leAt h 12 4) } } phIdentity

/-- The queue number of the command that a service core runs from start-up: no queue of a tenant. -/
def noQueue : Nat := 65536

/-- A service context starts at the first word of the ENTRY module (R613), as a command that no queue holds. (DEDUCED, log 76) -/
def startFirmware (s : State) (c : Nat) : State :=
  updCtx s c (fun x => { x with cmds := [⟨0, noQueue, 0, serviceDom, [0], true, false, [], 0, 0, 0x8000, .run, 0, 0, false, false⟩], cur := some 0, pc := ⟨true, 0⟩, region := some s.boot.entry })

/-- IDENTITY_DONE (R612, R613): the cornerstone, the alias record, and the start of the firmware on the first context of each service core. -/
def identityDone (s : State) : State :=
  if bootPhase s != phIdentity then s
  else
    let s1 := if s.tap.opened then s else match Config.cornerstone (s.boot.idrec.take 4096) with
      | none => raise (s.put SEC_STATUS.CS_FAIL 1) 4
      | some cs => putBytes { s with sec := { s.sec with cs := some cs } } .SEC_ALIAS (aliasRecord s cs)
    startFirmware (startFirmware (setPhase (spwZero s1 0 bootWin) phFirmware) 512) 544

/-! ### Modules (R614 to R619) -/

def stagePending (s : State) (k : Nat) : Bool := s.acts.any (fun a => a.kind == 6 && dByte a.desc 0 1 % 2 == k)

/-- A write of GO to `TRW_STAGE[k]` (R614). -/
def stageGo (s : State) (k : Nat) : State :=
  let st := s.get TRW_STAGE1.STATE k
  if st = 0 || st = 3 then (s.put TRW_STAGE1.STATE 1 k).put TRW_STAGE1.ERR 0 k else s

/-- The entry of `TRW_MOD` of a module. -/
def modEntry (s : State) (m : Nat) : Option Nat :=
  (List.range 16).find? (fun k => s.on TRW_MOD0.VALID k && s.get TRW_MOD0.MOD_ID k == m)

/-- Check 5, error MODULE. -/
def stageCheck (s : State) (b : Nat) : Bool :=
  match bundleMods s b with
  | [m] => (modEntry s m.modId).isSome && !(spwProtected s m.load (4096 * modUnits m))
  | _ => false

/-- STAGE_DONE (R614): the checks, MODULE before anything is copied. -/
def stageDone (s : State) (k : Nat) : State :=
  if s.get TRW_STAGE1.STATE k != 1 then s
  else
    let b := s.get TRW_STAGE0.OFF_4K k * 4096
    let fail (t : State) (e : Nat) : State := (t.put TRW_STAGE1.STATE 3 k).put TRW_STAGE1.ERR e k
    let id := match bundleMods s b with | m :: _ => m.modId | [] => 0
    let s0 := s.put TRW_STAGE1.MOD_ID id k
    if spwSize < b + bootWin || !(layoutOk s b) then fail s0 1
    else if !(chainOk s b) then fail s0 2
    else if !(manifestOk s b) then fail s0 3
    else match bundleMods s b with
      | m :: _ =>
        let img := spwRead s (b + m.off) m.len
        if Config.sha384 img != m.digest then fail s0 4
        else if !(stageCheck s b) then fail s0 5
        else
          let s1 := (spwWrite s0 m.load img).put TRW_STAGE1.STATE 2 k
          { s1 with boot := { s1.boot with stage := tabPut k ⟨m.load / 4096, modUnits m, m.modId, m.digest⟩ s1.boot.stage } }
      | [] => fail s0 1

/-- A slot returns to FREE. -/
def stageFree (s : State) (k : Nat) : State :=
  let s1 := (s.put TRW_STAGE1.STATE 0 k).put TRW_STAGE1.MOD_ID 0 k
  { s1 with boot := { s1.boot with stage := tabDel k s1.boot.stage } }

/-- A write of DISCARD (R616). -/
def stageDiscard (s : State) (a : AccInfo) (k : Nat) : State :=
  if stagePending s k then accErr s a GLB_ACCESS_ERR.BUSY
  else
    match tabFind k s.boot.stage with
    | some x => stageFree (spwZero s (x.base * 4096) (x.size * 4096)) k
    | none => if s.get TRW_STAGE1.STATE k = 1 then s else stageFree s k

/-- Position 8 of a boundary: one MODULE action (R618). -/
def moduleSwap (s : State) (d : BitVec 512) : State :=
  let k := dByte d 0 1 % 2
  match tabFind k s.boot.stage, modEntry s (dByte d 2 2) with
  | some x, some e =>
    let keep := Nat.max 1 (s.get TRW_LVS_CFG.RETAIN)
    let was := (s.get TRW_MOD1.BASE_4K e, s.get TRW_MOD1.SIZE_4K e, course s + keep)
    let s1 := (s.put TRW_MOD1.BASE_4K x.base e).put TRW_MOD1.SIZE_4K x.size e
    stageFree { s1 with boot := { s1.boot with old := s1.boot.old ++ [was], fwNow := Config.sha384 (s1.boot.fwNow ++ x.digest), swaps := s1.boot.swaps + 1 } } k
  | _, _ => s

/-- OLD_RANGE_EXPIRE of old range k (R619): zeroised and released, RETAIN courses after its swap. -/
def oldExpire (s : State) (k : Nat) : State :=
  match s.boot.old[k]? with
  | some (b, n, c) =>
    if c ≤ course s then
      let s1 := spwZero s (b * 4096) (n * 4096)
      { s1 with boot := { s1.boot with old := s1.boot.old.eraseIdx k } }
    else s
  | none => s

/-! ### Meanings -/

/-- BOOT_VERIFY_DONE. -/
def execBootVerifyDone (s : State) : Host.Outcome State Fault Refusal := .next (bootVerify s)

/-- IDENTITY_DONE. -/
def execIdentityDone (s : State) : Host.Outcome State Fault Refusal := .next (identityDone s)

/-- STAGE_DONE of slot k. -/
def execStageDone (k : Nat) (s : State) : Host.Outcome State Fault Refusal := .next (if k < 2 then stageDone s k else s)

/-- OLD_RANGE_EXPIRE. -/
def execOldRangeExpire (k : Nat) (s : State) : Host.Outcome State Fault Refusal := .next (oldExpire s k)

end Sys2Proof.Machine
end

