-- ==== Sys2Proof/Machine/RegAccess.lean ====
section
/-! DEFINITION. Register accesses (00, 17): the map, what the phase and the clocks allow, requester domains, access types, reserved
fields and encodings, the read of a 64-bit value, and what a write of each register does. -/

namespace Sys2Proof.Machine

open Sys2Proof

/-! ### The map (R665, R670) -/

/-- The entry of a register at an offset. -/
def regEntry (r : RegName) (off : Nat) : Option (Nat × Nat) :=
  let d := regDesc r
  if off < d.base then none
  else
    let x := off - d.base
    let i := if d.s1 = 0 then 0 else x / d.s1
    let y := if d.s1 = 0 then x else x % d.s1
    let j := if d.s2 = 0 then 0 else y / d.s2
    let z := if d.s2 = 0 then y else y % d.s2
    if i < d.c1 && j < d.c2 && z == 0 then some (i, j) else none

def isFlt (r : RegName) : Bool :=
  match r with
  | .FLT_SEV => true
  | .FLT_PEND => true
  | .FLT_FIRST => true
  | .FLT_FIRST_TIME => true
  | .FLT_SW_RAISE => true
  | _ => false

/-- The register and entry at an offset of the window; none where it is unmapped. -/
def regAt (off : Nat) : Option (RegName × Nat × Nat) :=
  let flt := 0x780000 ≤ off && off < 0x781000
  regAll.findSome? (fun r => if flt && !(isFlt r) then none else
    match regEntry r off with
    | some (i, j) => some (r, i, j)
    | none => none)

/-! ### What can be accessed -/

/-- GLB_ID and the `CLK_` group, which an access reaches before FIRMWARE (R605). -/
def earlyReg (off : Nat) : Bool := off == 4 || (0x20000 ≤ off && off < 0x30000)

/-- How far an access of a path to an offset gets: 0 it cannot be performed now, 1 it reads zero and writes nothing, 2 it is performed
(R605, R669). (DESIGN CHOICE, log 10) -/
def regReach (s : State) (path off : Nat) : Nat :=
  let aon := match regAt off with | some (r, _, _) => (regDesc r).aon || r == .CLK_BOOT_STATUS | none => false
  if !s.clk.aon || !s.clk.rcOk || s.clk.por then 0
  else if bootPhase s ≤ 1 || bootPhase s = phLost || s.clk.core then (if path = 3 && aon then 2 else 0)
  else if !(coreRuns s) && !aon then 0
  else if bootPhase s < phFirmware && !(earlyReg off) then 1
  else 2

/-- What the I3C target may read while its lock is set (R678). -/
def i3cMayRead (r : RegName) : Bool :=
  match r with
  | .GLB_IDCODE => true
  | .GLB_ID => true
  | .GLB_TEMP => true
  | .GLB_TEMP_STATUS => true
  | .CLK_BOOT_STATUS => true
  | .OPT_LM_STATUS => true
  | .OPT_LM_ID => true
  | _ => false

def isSqReg (r : RegName) : Bool :=
  match r with
  | .TEN_SQ_BASE_LO => true
  | .TEN_SQ_BASE_HI => true
  | .TEN_SQ_CFG => true
  | .TEN_SQ_SEQ => true
  | .TEN_SQ_DONE => true
  | .TEN_SQ_STATUS => true
  | .TEN_SQ_CTL => true
  | .TEN_SQ_HEAD => true
  | _ => false

def isCqReg (r : RegName) : Bool :=
  match r with
  | .TEN_CQ_BASE_LO => true
  | .TEN_CQ_BASE_HI => true
  | .TEN_CQ_CFG => true
  | .TEN_CQ_STATUS => true
  | .TEN_CQ_TAIL => true
  | .TEN_CQ_HEAD => true
  | _ => false

def isMboxReg (r : RegName) : Bool :=
  match r with
  | .HOD_MBOX_ADDR => true
  | .HOD_MBOX_RING_LO => true
  | .HOD_MBOX_RING_HI => true
  | .HOD_MBOX_CFG => true
  | .HOD_MBOX_TAIL => true
  | .HOD_MBOX_HEAD => true
  | _ => false

/-- What a tenant's domain may read (R673). -/
def tenMayRead (s : State) (t : Nat) (r : RegName) (i : Nat) : Bool :=
  match r with
  | .GLB_IDCODE => true
  | .GLB_ID => true
  | .TIM_NOW => true
  | .TIM_STATUS => true
  | .TRW_CTX_STATUS => (ctxOf s i).ten == some t
  | .BND_SLOT_STATUS => (unitOf s ukBond i).en && (unitOf s ukBond i).ten == t
  | .BND_SLOT_STEP => (unitOf s ukBond i).en && (unitOf s ukBond i).ten == t
  | .OBS_CTR => true
  | .OBS_CTR_FROZEN => true
  | .OBS_SMP_TAIL => s.get OBS_SMP_INT.OWNER i == t
  | .OBS_PCS_TAIL => s.get OBS_PCS_SHIFT.OWNER == t
  | _ => (isSqReg r || isCqReg r || isMboxReg r) && i / 8 == t

/-- What a tenant's domain may write, doorbells aside (R673). -/
def tenMayWrite (t : Nat) (r : RegName) (i : Nat) : Bool :=
  match r with
  | .TEN_SQ_CTL => i / 8 == t
  | .HOD_MBOX_HEAD => i / 8 == t
  | .HOD_RX_RELEASE => true
  | _ => false

/-- The error bit of a refused write (R674). -/
def domainErr (s : State) (a : AccInfo) : State :=
  if 0x600000 ≤ a.off && a.off < 0x700000 then s.put SEC_STATUS.DOMAIN_ERR 1
  else if 0x700000 ≤ a.off && a.off < 0x800000 then s.put OBS_STATUS.DOMAIN_ERR 1
  else accErr s a GLB_ACCESS_ERR.DOMAIN

/-- Registers of units that the personality does not have: they read zero and ignore writes (log). -/
def regAbsent (s : State) (r : RegName) (i : Nat) : Bool :=
  match r with
  | .TRW_CTX_CFG => !(isEp s) && i < 512
  | .TRW_CTX_STATUS => !(isEp s) && i < 512
  | .HOD_CFG => isSw s
  | .HOD_STATUS => isSw s
  | .HOD_RETIRE => isSw s
  | .HOD_RCB_CFG => isSw s
  | .HOD_RCB_HIT_CNT => isSw s
  | .HOD_RCB_MISS_CNT => isSw s
  | .HOD_RCB_INV_CNT => isSw s
  | .HOD_PS_CFG => !(isMem s)
  | .HOD_PS_TAGBASE_LO => !(isMem s)
  | .HOD_PS_TAGBASE_HI => !(isMem s)
  | .HOD_PS_DIRBASE_LO => !(isMem s)
  | .HOD_PS_DIRBASE_HI => !(isMem s)
  | .SEC_SWEEP_CMD => !(isMem s)
  | .KLN_TREE => !(isSw s)
  | _ =>
    ((isSqReg r || isCqReg r) && !(isEp s) && i < 4096) || (isMboxReg r && isSw s) ||
    (isMem s && 0x500000 ≤ (regDesc r).base && (regDesc r).base < 0x600000)

/-! ### Reads -/

/-- Bases of a tenant's queues and rings, hidden where it is confidential (R574). -/
def maskedBase (s : State) (r : RegName) (i : Nat) : Bool :=
  (match r with
   | .TEN_SQ_BASE_LO => true
   | .TEN_SQ_BASE_HI => true
   | .TEN_CQ_BASE_LO => true
   | .TEN_CQ_BASE_HI => true
   | .HOD_MBOX_RING_LO => true
   | .HOD_MBOX_RING_HI => true
   | _ => false) && conf s (i / 8)

/-- Half of a 64-bit value. -/
def half64 (v j : Nat) : W32 := BitVec.ofNat 32 (if j = 0 then v else v / 2 ^ 32)

/-- A kiln slot's contents may be read: its tenant is not confidential (R20, R574). -/
def kilnSeen (s : State) (i : Nat) : Bool := !((unitOf s ukKiln i).en && conf s (unitOf s ukKiln i).ten)

/-- The value of entry (i, j) of a register as a domain reads it, masking included. -/
def regValue (s : State) (dom : Nat) (r : RegName) (i j : Nat) : W32 :=
  match r with
  | .GLB_ID =>
    BitVec.ofNat 32 (setBits (setBits (s.rg .GLB_ID).toNat 0 2 (match persona s with | .ep => 0 | .sw => 1 | .mem => 2 | .rsvd => 3)) 10 1
      (if isSw s then 0 else b2n (tuGen2 s)))
  | .TIM_NOW => half64 (now s) i
  | .TIM_STATUS =>
    BitVec.ofNat 32 (setBits (setBits (s.rg .TIM_STATUS).toNat 16 8 (estErr s)) 8 1 (b2n (!(sure s))))
  | .LNK_CREDIT_STATUS => BitVec.ofNat 32 (availData s i j % 1024 + 65536 * (availHdr s i j % 256))
  | .TRW_CTX_STATUS => BitVec.ofNat 32 (ctxStatus s i)
  | .KLN_CLUSTER_STATUS =>
    let l := s.kiln.jobs.filter (fun x => x.cluster == some i)
    BitVec.ofNat 32 (Nat.min 16 l.length + 256 * Nat.min 511 ((l.map (fun x => x.queue.length)).sum))
  | .KLN_PROG =>
    if kilnSeen s i then half64 ((tabGet [] i s.kiln.prog).getD (j / 2) 0).toNat (j % 2) else 0
  | .KLN_PARAM => if kilnSeen s i then BitVec.ofNat 32 ((tabGet 0 i s.kiln.param).toNat / 2 ^ (32 * j)) else 0
  | .RTE_TBL_DATA => routeRead s i
  | .OBS_CTR => half64 (ctrRead s i dom true) j
  | .OBS_CTR_FROZEN => if frozenSeen s i dom then s.rg r i j else 0
  | .OBS_CTR_FROZEN_TEN => if frozenSeen s i dom then s.rg r i j else 0
  | .OBS_TRC_BUF => trcWord s i j
  | .OBS_DBG_STATUS => BitVec.ofNat 32 (dbgStatus s)
  | .OBS_DBG_REG => dbgRead s i
  | .CIR_PALLET_CNT => palletCntRead s i dom
  | _ => if maskedBase s r i then 0 else BitVec.ofNat 32 ((s.rg r i j).toNat &&& (0xFFFFFFFF - (regDesc r).wo))

/-- The half of a 64-bit value that an entry is, with the number of the value within its array (R9). -/
def regPair (r : RegName) (i j : Nat) : Option (Nat × Nat) :=
  match r with
  | .TIM_NOW => some (0, i)
  | .FLT_FIRST_TIME => some (0, i)
  | .RTE_DROP_CNT => some (0, i)
  | .OBS_TU_RD => some (0, i)
  | .OBS_TU_WR => some (0, i)
  | .OBS_ISSUE => some (0, i)
  | .OBS_HOD_BYTES => some (0, i)
  | .OBS_BND_BLOCKS => some (0, i)
  | .OBS_CCLK => some (0, i)
  | .OBS_PORT_TX => some (i, j)
  | .OBS_PORT_RX => some (i, j)
  | .OBS_CTR => some (i, j)
  | .OBS_CTR_FROZEN => some (i, j)
  | .SEC_KEY_NUM => some (i, j)
  | .KLN_PROG => some (64 * i + j / 2, j % 2)
  | _ => none

/-- Clears the RC fields of an entry. -/
def clearRc (s : State) (r : RegName) (i j : Nat) : State :=
  let m := (regDesc r).rc
  if m = 0 || (r == .CIR_PALLET_CNT && (tabFind i s.obs.palFrozen).isSome) then s
  else s.setRg r (BitVec.ofNat 32 ((s.rg r i j).toNat &&& (0xFFFFFFFF - m))) i j

/-- A read of a mapped register, its captures and RC fields included (R9). -/
def readEntryReg (s : State) (path dom : Nat) (r : RegName) (i j : Nat) : State × W32 :=
  let v := regValue s dom r i j
  match regPair r i j with
  | none => (clearRc s r i j, v)
  | some (id, h) =>
    let mine (c : Capture) : Bool := c.path == path && c.reg == r && c.i == id
    let others := s.caps.filter (fun c => !(mine c))
    if h = 0 then
      let hi := match regDesc r with | d => if d.s2 = 0 then regValue s dom r (i + 1) j else regValue s dom r i (j + 1)
      let s1 := { s with caps := others ++ [⟨path, r, id, hi.toNat⟩] }
      (if r == .RTE_DROP_CNT then clearRc (clearRc s1 r 0 0) r 1 0 else s1, v)
    else
      match s.caps.find? mine with
      | some c => ({ s with caps := others }, BitVec.ofNat 32 c.high)
      | none => (clearRc s r i j, v)

/-- A register read (R665, R671 to R674, R678): the state after it, and the value. (DEDUCED, log 23) -/
def regRead (s : State) (a : Acc) (off : Nat) : State × W32 :=
  let dom := if a.path = 0 then a.dom else serviceDom
  match regAt off with
  | none => (s, 0)
  | some (r, i, j) =>
    if regReach s a.path off ≠ 2 then (s, 0)
    else if a.path = 3 && s.on GLB_LOCK.I3C && !(i3cMayRead r) then (s, 0)
    else if dom != serviceDom && !(tenMayRead s dom r i) then (s, 0)
    else if regAbsent s r i then (s, 0)
    else readEntryReg s a.path dom r i j

/-! ### Writes: values (R18, R19) -/

/-- Bits of a register that are not reserved. -/
def regDefined (r : RegName) : Nat :=
  let d := regDesc r
  d.ro ||| d.rw ||| d.w1c ||| d.w1s ||| d.rwl ||| d.wo ||| d.rc

/-- The value that a write leaves by the access types alone. -/
def regMerge (s : State) (r : RegName) (i j v : Nat) : Nat :=
  let d := regDesc r
  let rw := if s.on GLB_LOCK.TOPO then d.rw else d.rw ||| d.rwl
  let old := (s.rg r i j).toNat
  ((((old &&& (0xFFFFFFFF - rw)) ||| (v &&& rw)) &&& (0xFFFFFFFF - (v &&& d.w1c))) ||| (v &&& d.w1s))

def fldOf (f : Fld) (m : Nat) : Nat := bits m f.lo f.w

/-- A tenant field beyond the service domain is reserved. -/
def tenRes (f : Fld) (m : Nat) : List Fld := if 0x200 < fldOf f m then [f] else []

def fldIf (b : Bool) (f : Fld) : List Fld := if b then [f] else []

/-- The enumerated fields of a written value that hold a reserved encoding (R19). (DEDUCED, log 19; DEDUCED, log 20) -/
def fldReserved (r : RegName) (m : Nat) : List Fld :=
  match r with
  | .GLB_SCALE_CLASS => fldIf (fldOf GLB_SCALE_CLASS.CLASS m == 3) GLB_SCALE_CLASS.CLASS
  | .TIM_CTL => fldIf (2 ≤ fldOf TIM_CTL.MODE m) TIM_CTL.MODE
  | .CLK_OBS_CFG => fldIf (13 ≤ fldOf CLK_OBS_CFG.SEL m) CLK_OBS_CFG.SEL
  | .LNK_CFG => fldIf (fldOf LNK_CFG.MAX_WIDTH m == 3) LNK_CFG.MAX_WIDTH
  | .RTE_MC_IDX => fldIf (fldOf RTE_MC_IDX.GROUP m == 16383) RTE_MC_IDX.GROUP
  | .TRW_CTX_CFG => tenRes TRW_CTX_CFG.TENANT m
  | .HOD_CFG => tenRes HOD_CFG.TENANT m
  | .BND_BOND_CFG => tenRes BND_BOND_CFG.TENANT m
  | .BND_SLOT_CFG => tenRes BND_SLOT_CFG.TENANT m
  | .KLN_SLOT_CFG => tenRes KLN_SLOT_CFG.TENANT m
  | .CIR_PALLET_LEASE => tenRes CIR_PALLET_LEASE.TENANT m
  | .CIR_PALLET_PORTS => fldIf (fldOf CIR_PALLET_PORTS.BUDGET m == 0 || 58 < fldOf CIR_PALLET_PORTS.BUDGET m) CIR_PALLET_PORTS.BUDGET
  | .OBS_CTR_SEL0 => fldIf (0x12 ≤ fldOf OBS_CTR_SEL0.EVENT m) OBS_CTR_SEL0.EVENT
  | .OBS_CTR_SEL1 =>
    let k := fldOf OBS_CTR_SEL1.UKIND m
    tenRes OBS_CTR_SEL1.TENANT m ++ fldIf (k == 0 || k == 3 || 7 ≤ k) OBS_CTR_SEL1.UKIND
  | .OBS_CENSUS_CFG => tenRes OBS_CENSUS_CFG.TENANT m
  | .OBS_SMP_INT => tenRes OBS_SMP_INT.OWNER m
  | .OBS_PCS_SHIFT => tenRes OBS_PCS_SHIFT.OWNER m
  | .OBS_WP_TEN => tenRes OBS_WP_TEN.TENANT m
  | .OBS_TRC_CFG =>
    tenRes OBS_TRC_CFG.TENANT m ++ fldIf (10 ≤ fldOf OBS_TRC_CFG.SRC m) OBS_TRC_CFG.SRC ++ fldIf (fldOf OBS_TRC_CFG.POLICY m == 3) OBS_TRC_CFG.POLICY
  | .OBS_TRC_TRIG => fldIf (6 ≤ fldOf OBS_TRC_TRIG.TSRC m) OBS_TRC_TRIG.TSRC
  | _ => []

/-- Puts fields of a value back to what the register holds. -/
def keepFlds (s : State) (r : RegName) (i j : Nat) (l : List Fld) (m : Nat) : Nat :=
  l.foldl (fun acc f => setBits acc f.lo f.w (bits (s.rg r i j).toNat f.lo f.w)) m

/-- The fields of a list that a value would change. (DEDUCED, log 8) -/
def changedFlds (s : State) (r : RegName) (i j : Nat) (l : List Fld) (m : Nat) : List Fld :=
  l.filter (fun f => bits m f.lo f.w != bits (s.rg r i j).toNat f.lo f.w)

/-! ### Writes: what each register does -/

/-- The reasons for which TOPO is refused (R41). (DEDUCED, log 26) -/
def topoBad (s : State) : Bool :=
  let c := (s.rg .GLB_COORD).toNat
  let d := (s.rg .GLB_TORUS_DIM).toNat
  0xC000 ≤ ownFlat s ||
  (isEp s && ([0, 1, 2].any (fun k => bits d (4 * k) 4 < bits c (4 * k) 4) ||
    (List.range 24).any (fun p => portRole s p == roleTorus && bits d (4 * (portDir p / 2)) 4 == 0)))

/-- A write of GLB_LOCK (R41, R676). (DEDUCED, log 26) -/
def lockWrite (s : State) (a : AccInfo) (v : Nat) : State :=
  let s1 :=
    if bit v 0 && !(s.on GLB_LOCK.TOPO) then
      (if topoBad s then accErr s a GLB_ACCESS_ERR.TOPO else allPorts.foldl linkGate (s.put GLB_LOCK.TOPO 1))
    else s
  let s2 := if bit v 1 then s1.put GLB_LOCK.TEST 1 else s1
  if bit v 2 then s2.put GLB_LOCK.I3C 1 else s2

/-- The roles that a personality accepts for a port (R30). -/
def roleOk (s : State) (p role : Nat) : Bool :=
  role == 0 ||
  (match persona s with
   | .ep => if p < 24 then role == roleTorus else role == roleUp
   | .sw => role == roleUp || role == roleDown
   | .mem => role == roleUp
   | .rsvd => false)

/-- One port's role field of a written word (R30, R31). -/
def roleField (a : AccInfo) (v : Nat) (s : State) (p : Nat) : State :=
  let lo := 2 * (p % 16)
  let old := bits (s.rg .GLB_PORT_ROLE (p / 16)).toNat lo 2
  let new := bits v lo 2
  if old = new then s
  else
    let s1 := if roleOk s p new then s else accErr s a GLB_ACCESS_ERR.RSVD_ENC
    let s2 := if linkState s p = lsDisabled then s1 else accErr s1 a GLB_ACCESS_ERR.BUSY
    if roleOk s p new && linkState s p == lsDisabled then
      linkGate (s2.setRg .GLB_PORT_ROLE (BitVec.ofNat 32 (setBits (s2.rg .GLB_PORT_ROLE (p / 16)).toNat lo 2 new)) (p / 16)) p
    else s2

def roleWrite (s : State) (a : AccInfo) (i v : Nat) : State :=
  ((List.range 16).map (fun k => 16 * i + k)).foldl (roleField a v) s

/-- One pending action that a load passes (R84, R104): samples fire late, boundary actions have no effect. -/
def passAction (s : State) (x : AtAction) : State :=
  if x.kind = 0 then
    let m := bits x.desc.toNat 0 8
    traceTime ((List.range 8).foldl (fun acc c => if bit m c then sampleTake acc c false true else acc) (s.inc TIM_LATE_CNT.COUNT)) 0 x.kind x.t
  else s

/-- A pending ROUTE or SCHEDULE action marks its shadow bank as held. -/
def pendMarks (s : State) : State :=
  (s.put RTE_STATUS.ROUTE_PEND (b2n (s.acts.any (fun x => x.kind == 4)))).put CIR_STATUS.SCHED_PEND (b2n (s.acts.any (fun x => x.kind == 5)))

/-- Waits of AT.TIME that a time passes fire, late (R84, R104). -/
def passWaits (s : State) (t : Nat) : State :=
  s.prog.ctx.foldl (fun acc (x : Nat × Ctx) =>
    match x.2.wait with
    | some w => (match w.kind with
      | .time n => if n < t then timeFire (traceWait (acc.inc TIM_LATE_CNT.COUNT) n) x.1 else acc
      | _ => acc)
    | none => acc) s

/-- A write of LOAD (R84), judged on the values before the write. -/
def timLoad (s old : State) (a : AccInfo) : State :=
  let v := s.getPair .TIM_SET
  if timState old = tsMaster && !(old.on TIM_CTL.EXCH_EN) && now old ≤ v then
    let s1 := { s with tim := { s.tim with ticks := v, frac := 0 } }
    let gone := s1.acts.filter (fun x => x.t < v)
    let s2 := gone.foldl passAction { s1 with acts := s1.acts.filter (fun x => v ≤ x.t) }
    passWaits (pendMarks s2) v
  else accErr s a GLB_ACCESS_ERR.BUSY

/-- A write of LNK_CTL (Table - LNK_CTL): EN, then the bits that act. -/
def lnkCtl (s : State) (p v m : Nat) : State :=
  let was := s.on LNK_CTL.EN p
  let s0 := s.setRg .LNK_CTL (BitVec.ofNat 32 m) p
  let s1 := if was && !(bit m 0) then enterDisabled s0 p else if !was && bit m 0 then linkGate s0 p else s0
  let s2 := if bit v 1 then askRetrain s1 p 0 else s1
  let s3 := if bit v 2 then (if linkActive s2 p then askBestWidth s2 p else s2) else s2
  let s4 := if bit v 3 then (if linkActive s3 p then startResync s3 p else s3) else s3
  let s5 := if bit v 4 && linkState s4 p == lsHold then toConfig (s4.put LNK_STATUS.GEN_EXCL 0 p) p else s4
  if bit v 5 && linkState s5 p != lsDisabled && linkState s5 p != lsDown then enterDown s5 p 9 else s5

/-- A write of LNK_CREDIT_CFG (R461). -/
def creditCfg (s : State) (a : AccInfo) (p k m : Nat) : State :=
  if linkState s p ≠ lsDisabled then accErr s a GLB_ACCESS_ERR.BUSY
  else
    let d (j : Nat) : Nat := if j = k then bits m 0 10 else s.get LNK_CREDIT_CFG.DATA p j
    let h (j : Nat) : Nat := if j = k then bits m 16 8 else s.get LNK_CREDIT_CFG.HDR p j
    let vcs := List.range 8
    if d k < 18 || h k < 2 || 512 < (vcs.map d).sum || 128 < (vcs.map h).sum then accErr s a GLB_ACCESS_ERR.RSVD_ENC
    else s.setRg .LNK_CREDIT_CFG (BitVec.ofNat 32 m) p k

/-- A lease register: the written value waits for the next boundary (R112, R259, R348, R513). -/
def leaseWrite (s : State) (r : RegName) (kind i m : Nat) : State :=
  let s1 := s.setRg r (BitVec.ofNat 32 m) i
  { s1 with sec := { s1.sec with due := s1.sec.due ++ [unitKey kind i] } }

/-- A release of a receive handle (R294). -/
def rxRelease (s : State) (a : AccInfo) (h : Nat) : State :=
  match tabFind h s.xf.handles with
  | none => s.put HOD_RX_STATUS.BAD_RELEASE 1
  | some x =>
    if a.dom != serviceDom && a.dom != x.ten then s.put HOD_RX_STATUS.DOMAIN_ERR 1
    else if x.refs ≤ 1 then
      { s with xf := { s.xf with handles := tabDel h s.xf.handles, bpmRel := s.xf.bpmRel ++ [(x.pool, x.ten, x.addr)] } }
    else { s with xf := { s.xf with handles := tabPut h { x with refs := x.refs - 1 } s.xf.handles } }

/-- Fields that cannot be written while a block is enabled keep their value and set BUSY; a field that the write does not change is not
judged (log). (DEDUCED, log 8; DEDUCED, log 25) -/
def gated (s : State) (a : AccInfo) (r : RegName) (i m : Nat) (busy : Bool) (l : List Fld) : State × Nat :=
  let c := changedFlds s r i 0 l m
  if busy && !c.isEmpty then (accErr s a GLB_ACCESS_ERR.BUSY, keepFlds s r i 0 c m) else (s, m)

/-- A write of HOD_MBOX_CFG: enabling starts the ring's counts. -/
def mboxCfg (s : State) (a : AccInfo) (b m : Nat) : State :=
  let was := s.on HOD_MBOX_CFG.EN b
  let g := gated s a .HOD_MBOX_CFG b m was [HOD_MBOX_CFG.LOG2_SIZE, HOD_MBOX_CFG.SHARE]
  let s1 := g.1.setRg .HOD_MBOX_CFG (BitVec.ofNat 32 g.2) b
  if !was && bit m 31 then (s1.put HOD_MBOX_TAIL.COUNT 0 b).put HOD_MBOX_HEAD.COUNT 0 b else s1

/-- A write of the entry of a bond (R343, R344). -/
def bondEntry (s : State) (a : AccInfo) (r : RegName) (b m : Nat) : State :=
  if s.on BND_BOND_STATUS.RUNNING b then accErr s a GLB_ACCESS_ERR.BUSY
  else
    let was := s.on BND_BOND_CFG.VALID b
    let s1 := s.setRg r (BitVec.ofNat 32 m) b
    if r == .BND_BOND_CFG && !was && bit m 31 then bondValidate s1 b else s1

/-- A member entry that lies in the list of a running bond (R343). -/
def memberBusy (s : State) (k : Nat) : Bool :=
  s.bnd.colls.any (fun x => s.on BND_BOND_STATUS.RUNNING x.bond && s.get BND_BOND_MEM.BASE x.bond ≤ k &&
    k < s.get BND_BOND_MEM.BASE x.bond + s.get BND_BOND_MEM.COUNT x.bond)

/-- A write of a slot's share of the bond store (R350). (DEDUCED, log 27) -/
def slotStore (s : State) (a : AccInfo) (i m : Nat) : State :=
  let sum := ((List.range 32).map (fun k => if k = i then bits m 0 8 else s.get BND_SLOT_STORE.STORE_64K k)).sum
  if s.on BND_SLOT_CFG.EN i then accErr s a GLB_ACCESS_ERR.BUSY
  else if s.get BND_STORE_STATUS.AVAIL < sum then s.put BND_STORE_STATUS.OVER 1
  else (s.setRg .BND_SLOT_STORE (BitVec.ofNat 32 m) i).put BND_STORE_STATUS.LEASED sum

/-- A write of TEN_VIEW_CFG (R49 to R51). -/
def viewCfg (s : State) (t m : Nat) : State :=
  let lo := bits m 0 11
  let n := bits m 16 10
  let clash (u : Nat) : Bool :=
    let w := (s.rg .TEN_VIEW_CFG u).toNat
    u != t && bit w 31 && overlaps lo n (bits w 0 11) (bits w 16 10)
  if bit m 31 && (n == 0 || 512 < n || 131072 < lo * 64 + n * 64) then s.put TEN_VIEW_ERR.RANGE 1
  else if bit m 31 && (List.range 512).any clash then s.put TEN_VIEW_ERR.OVERLAP 1
  else
    let s1 := s.setRg .TEN_VIEW_CFG (BitVec.ofNat 32 m) t
    { s1 with viewDue := s1.viewDue ++ [t] }

/-- A write of a view entry (R52). -/
def viewEntry (s : State) (a : AccInfo) (i m : Nat) : State :=
  let f := bits m 0 16
  if (bit m 16 && f == 0xFFFF) || bit m 21 != (0xC000 ≤ f && f ≤ 0xFFFE) then accErr s a GLB_ACCESS_ERR.RSVD_ENC
  else s.setRg .TEN_VIEW_ENTRY (BitVec.ofNat 32 m) i

/-- A write of TEN_SQ_CFG (R119 to R121, R139). -/
def sqCfg (s : State) (a : AccInfo) (i m : Nat) : State :=
  let was := s.on TEN_SQ_CFG.EN i
  let g := gated s a .TEN_SQ_CFG i m was [TEN_SQ_CFG.LOG2_SIZE, TEN_SQ_CFG.CTX]
  let s1 := g.1.setRg .TEN_SQ_CFG (BitVec.ofNat 32 (setBits g.2 31 1 (b2n was))) i
  if !was && bit m 31 then sqEnable s1 i else if was && !(bit m 31) then sqDisable s1 i else s1

/-- A write of TEN_CQ_CFG (R154, R155). -/
def cqCfg (s : State) (a : AccInfo) (i m : Nat) : State :=
  let was := s.on TEN_CQ_CFG.EN i
  let g := gated s a .TEN_CQ_CFG i m was [TEN_CQ_CFG.LOG2_SIZE]
  let s1 := g.1.setRg .TEN_CQ_CFG (BitVec.ofNat 32 (setBits g.2 31 1 (b2n was))) i
  if !was && bit m 31 then cqEnable s1 i else if was && !(bit m 31) then cqDisable s1 i else s1

/-- A word of a window: the window it leaves must be well formed (R547). -/
def winWord (s : State) (a : AccInfo) (r : RegName) (t k m : Nat) : State :=
  let s1 := s.setRg r (BitVec.ofNat 32 m) t k
  let lo := s1.get TEN_WIN_BASE_LO.BASE t k + 2 ^ 20 * s1.get TEN_WIN_BASE_HI.BASE t k
  let hi := s1.get TEN_WIN_LIMIT_LO.LIMIT t k + 2 ^ 20 * s1.get TEN_WIN_LIMIT_HI.LIMIT t k
  if s1.on TEN_WIN_LIMIT_HI.EN t k && (1 < s1.get TEN_WIN_BASE_HI.SPACE t k || hi < lo) then accErr s a GLB_ACCESS_ERR.RSVD_ENC
  else s1

/-- The write that enables a ring of records is judged as a whole; a refused one leaves EN at 0 (R642). (DEDUCED, log 24; DEDUCED, log 25) -/
def ringCfg (s : State) (a : AccInfo) (r : RegName) (i m : Nat) (l : List Fld) (ok : State → Bool) : State :=
  let was := bit (s.rg r i).toNat 31
  let g := gated s a r i m was l
  let s1 := g.1.setRg r (BitVec.ofNat 32 g.2) i
  if !was && bit m 31 && !(ok s1) then (s1.setRg r (BitVec.ofNat 32 (setBits g.2 31 1 0)) i).put OBS_STATUS.CFG_ERR 1 else s1

/-- The base of a ring of records, which accepts writes while the ring is not enabled. (DEDUCED, log 25) -/
def ringBase (s : State) (a : AccInfo) (r en : RegName) (i m : Nat) : State :=
  if bit (s.rg en i).toNat 31 then accErr s a GLB_ACCESS_ERR.BUSY else s.setRg r (BitVec.ofNat 32 m) i

/-- The drain ring of a trace unit is well formed. (DEDUCED, log 24) -/
def drainOk (i : Nat) (s : State) : Bool :=
  let l := s.get OBS_DRN_CFG.LOG2_SIZE i
  let sp := s.get OBS_DRN_BASE_HI.SPACE i
  let a := s.get OBS_DRN_BASE_LO.BASE i * 32 + 2 ^ 32 * s.get OBS_DRN_BASE_HI.BASE i
  6 ≤ l && l ≤ 16 && sp ≤ 1 && a % 4096 == 0 && inSpace sp a (32 * 2 ^ l)

/-- What a write does, its reserved fields taken as zero: `v` is the word written, `m` the value that the access types leave, reserved
encodings put back. (DEDUCED, log 14; DEDUCED, log 22; DESIGN CHOICE, log 64; DEDUCED, log 132) -/
def regEffect (s : State) (a : AccInfo) (r : RegName) (i j v m : Nat) : State :=
  let w := BitVec.ofNat 32 m
  let plain := s.setRg r w i j
  match r with
  | .GLB_LOCK => lockWrite s a v
  | .GLB_PORT_ROLE => roleWrite s a i v
  | .TIM_CTL => if bit v 2 then timLoad plain s a else plain
  | .TIM_FREQ => timFreq s (BitVec.ofNat 32 v)
  | .CLK_CCLK_CTL => if bit v 4 then cclkReturn plain else plain
  | .CLK_RST_CTL => if bit v 0 && bits v 8 8 == 0xA5 then startClocks (coreReset s 2) else s
  | .CLK_BOOT_DOOR => if bit v 31 && (a.path == 0 || a.path == 3) then bootDoor s (if a.path = 3 then 1 else 0) else s
  | .LNK_CTL => lnkCtl s i v m
  | .LNK_CFG => clampGen plain i
  | .LNK_SPARE_CTL => if bit v 31 && !(s.on LNK_STATUS.SPARING i) && linkActive s i then laneNoisy plain i (bits v 0 4) else plain
  | .LNK_CREDIT_CFG => creditCfg s a i j m
  | .RTE_THROTTLE => if bits m 0 10 ≤ bits m 10 10 then accErr s a GLB_ACCESS_ERR.RSVD_ENC else plain
  | .RTE_TBL_DATA => routeData s a i (BitVec.ofNat 32 v)
  | .RTE_MC_DATA => mcData s i (BitVec.ofNat 32 v)
  | .CIR_NOTICE => cirNotice s (BitVec.ofNat 32 v)
  | .CIR_OUT_SHADOW => cirShadow s a true i j w
  | .CIR_IN_SHADOW => cirShadow s a false i j w
  | .CIR_PALLET_LEASE => leaseWrite s r ukPallet i m
  | .CIR_PALLET_PORTS => if bit v 20 then plain.put CIR_PALLET_PORTS.RESTORE 1 i else plain
  | .TRW_CTX_CFG =>
    if 512 ≤ i then
      (if bits v 0 10 != serviceDom || !(bit v 24) then accErr s a GLB_ACCESS_ERR.RSVD_ENC else s)
    else leaseWrite s r ukCtx i m
  | .TRW_CODE =>
    if bit m 31 && spwSize < (bits m 0 14 + bits m 16 6 + 1) * 4096 then accErr s a GLB_ACCESS_ERR.RSVD_ENC else plain
  | .TRW_STAGE0 => if bit v 31 then stageGo plain i else plain
  | .TRW_STAGE1 => if bit v 7 then stageDiscard plain a i else plain
  | .HOD_CFG => leaseWrite s r ukHod i (if isMem s then setBits m 0 10 serviceDom else m)
  | .HOD_ROB_CFG =>
    if (List.range 32).any (fun k => (unitOf s ukBond k).en) then accErr s a GLB_ACCESS_ERR.BUSY
    else if bits m 0 8 < 16 || 160 < bits m 0 8 then accErr s a GLB_ACCESS_ERR.RSVD_ENC
    else plain.put BND_STORE_STATUS.AVAIL (224 - bits m 0 8)
  | .HOD_FLOW_RESET =>
    if bit v 31 && !(s.on HOD_FLOW_RESET.BUSY) then
      let s1 := plain.put HOD_FLOW_RESET.BUSY 1
      { s1 with xf := { s1.xf with resetPeer := some (bits m 0 16) } }
    else plain
  | .HOD_RX_RELEASE => rxRelease s a (bits v 0 16)
  | .HOD_MBOX_ADDR => if s.on HOD_MBOX_CFG.EN i then accErr s a GLB_ACCESS_ERR.BUSY else plain
  | .HOD_MBOX_RING_LO => if s.on HOD_MBOX_CFG.EN i then accErr s a GLB_ACCESS_ERR.BUSY else plain
  | .HOD_MBOX_RING_HI => if s.on HOD_MBOX_CFG.EN i then accErr s a GLB_ACCESS_ERR.BUSY else plain
  | .HOD_MBOX_CFG => mboxCfg s a i m
  | .HOD_RCB_CFG => rcbDrop plain (fun _ => true)
  | .BND_BOND_CFG => bondEntry s a r i m
  | .BND_BOND_MEM => bondEntry s a r i m
  | .BND_BOND_EPOCH => bondEntry s a r i m
  | .BND_BOND_BOX => bondEntry s a r i m
  | .BND_BOND_TREE => bondEntry s a r i m
  | .BND_BOND_STATUS => bondEntry s a r i m
  | .BND_MEMBER => if memberBusy s i then accErr s a GLB_ACCESS_ERR.BUSY else plain
  | .BND_SLOT_CFG => leaseWrite s r ukBond i m
  | .BND_SLOT_STORE => slotStore s a i m
  | .KLN_SLOT_CFG => leaseWrite s r ukKiln i m
  | .KLN_TREE =>
    if s.on BND_BOND_STATUS.RUNNING i && bit m 31 != s.on KLN_TREE.EN i then
      (accErr s a GLB_ACCESS_ERR.BUSY).setRg r (BitVec.ofNat 32 (setBits m 31 1 (s.get KLN_TREE.EN i))) i
    else plain
  | .TEN_VIEW_CFG => viewCfg s i m
  | .TEN_VIEW_ENTRY => viewEntry s a i m
  | .SEC_TEN_CFG =>
    let c := confWrite s i (BitVec.ofNat 32 v)
    c.1.setRg r (BitVec.ofNat 32 (regMerge s r i 0 c.2.toNat)) i
  | .SEC_KX_CTL => if bit v 31 then kxStart plain else plain
  | .SEC_SWEEP_CMD => if bit v 31 then sweepStart plain else plain
  | .TEN_SQ_BASE_LO => if s.on TEN_SQ_CFG.EN i then accErr s a GLB_ACCESS_ERR.BUSY else plain
  | .TEN_SQ_BASE_HI => if s.on TEN_SQ_CFG.EN i then accErr s a GLB_ACCESS_ERR.BUSY else plain
  | .TEN_SQ_SEQ => if s.on TEN_SQ_CFG.EN i then accErr s a GLB_ACCESS_ERR.BUSY else plain
  | .TEN_SQ_CFG => sqCfg s a i m
  | .TEN_SQ_CTL => if bit v 0 then sqAbort s i else s
  | .TEN_CQ_BASE_LO => if s.on TEN_CQ_CFG.EN i then accErr s a GLB_ACCESS_ERR.BUSY else plain
  | .TEN_CQ_BASE_HI => if s.on TEN_CQ_CFG.EN i then accErr s a GLB_ACCESS_ERR.BUSY else plain
  | .TEN_CQ_CFG => cqCfg s a i m
  | .TEN_WIN_BASE_LO => winWord s a r i j m
  | .TEN_WIN_BASE_HI => winWord s a r i j m
  | .TEN_WIN_LIMIT_LO => winWord s a r i j m
  | .TEN_WIN_LIMIT_HI => winWord s a r i j m
  | .OBS_CTR_SEL0 => plain.put64 .OBS_CTR i 0
  | .OBS_CTR_SEL1 => plain.put64 .OBS_CTR i 0
  | .OBS_CTR_SEL2 => plain.put64 .OBS_CTR i 0
  | .OBS_CTR_SEL3 => plain.put64 .OBS_CTR i 0
  | .OBS_SMP_BASE_LO => ringBase s a r .OBS_SMP_CFG i m
  | .OBS_SMP_BASE_HI => ringBase s a r .OBS_SMP_CFG i m
  | .OBS_SMP_CFG => ringCfg s a r i m [OBS_SMP_CFG.LOG2_SIZE] (fun t => smpEnableOk t i)
  | .OBS_SMP_INT =>
    let g := gated s a r i m (s.on OBS_SMP_CFG.EN i) [OBS_SMP_INT.OWNER]
    g.1.setRg r (BitVec.ofNat 32 g.2) i
  | .OBS_PCS_BASE_LO => ringBase s a r .OBS_PCS_CFG 0 m
  | .OBS_PCS_BASE_HI => ringBase s a r .OBS_PCS_CFG 0 m
  | .OBS_PCS_CFG => ringCfg s a r 0 m [OBS_PCS_CFG.LOG2_SIZE] pcsEnableOk
  | .OBS_PCS_SHIFT =>
    let g := gated s a r 0 m (s.on OBS_PCS_CFG.EN) [OBS_PCS_SHIFT.OWNER]
    g.1.setRg r (BitVec.ofNat 32 g.2) 0
  | .OBS_DRN_BASE_LO => ringBase s a r .OBS_DRN_CFG i m
  | .OBS_DRN_BASE_HI => ringBase s a r .OBS_DRN_CFG i m
  | .OBS_DRN_CFG => ringCfg s a r i m [OBS_DRN_CFG.LOG2_SIZE] (drainOk i)
  | .OBS_TRC_CFG => if trcCfgConf s m then s.put OBS_STATUS.CONF_REFUSED 1 else plain
  | .OBS_TRC_TRIG => if trcTrigConf s i m then s.put OBS_STATUS.CONF_REFUSED 1 else plain
  | .OBS_TRC_CTL => trcCtl s i (bits v 0 5)
  | .OBS_BP0 => if bpConf s m then s.put OBS_STATUS.CONF_REFUSED 1 else plain
  | .OBS_DBG_CTL => dbgCmd plain (bits v 10 3)
  | .OBS_DBG_REG => dbgWrite s i (BitVec.ofNat 32 v)
  | .FLT_FIRST => if bit v 31 then (s.put FLT_FIRST.VALID 0).put FLT_FIRST.OVERFLOW 0 else s
  | .FLT_SW_RAISE => if bits v 0 7 < 16 then raise s (112 + bits v 0 7) else s
  | .OPT_PORT_CFG => clampGen plain i
  | .OPT_LM_CFG => if s.on OPT_LM_CFG.EN i && !(bit m 0) then lmDisabled plain i else plain
  | .OPT_LM_CMD => if bit v 31 then lmGo plain i else plain
  | _ => plain

/-- A write of a mapped register by a domain that may make it (R18, R19). -/
def writeEntryReg (s : State) (a : AccInfo) (r : RegName) (i j v : Nat) : State :=
  let d := regDefined r
  let s1 := if v &&& (0xFFFFFFFF - d) = 0 then s else accErr s a GLB_ACCESS_ERR.RSVD_FIELD
  let m := regMerge s1 r i j (v &&& d)
  let bad := fldReserved r m
  let s2 := if bad.isEmpty then s1 else accErr s1 a GLB_ACCESS_ERR.RSVD_ENC
  regEffect s2 a r i j (v &&& d) (keepFlds s2 r i j bad m)

/-- A register write (R665, R669, R671 to R674, R678). A doorbell goes to its own rules (R34, R124). (DEDUCED, log 18) -/
def regWrite (s : State) (a : Acc) (off : Nat) (v : W32) : State :=
  let info : AccInfo := ⟨a.path, if a.path = 0 then a.dom else serviceDom, off, true, false⟩
  match regReach s a.path off with
  | 0 => s
  | k =>
    match regAt off with
    | none => accErr s info GLB_ACCESS_ERR.UNMAPPED
    | some (r, i, j) =>
      if k ≠ 2 then s
      else if a.path = 3 && s.on GLB_LOCK.I3C then accErr s info GLB_ACCESS_ERR.DOMAIN
      else if r = .TEN_DB then doorbell s info i v.toNat
      else if info.dom != serviceDom && !(tenMayWrite info.dom r i) then domainErr s info
      else if regAbsent s r i then s
      else writeEntryReg s info r i j v.toNat

end Sys2Proof.Machine
end

