-- ==== Sys2Proof/Machine/Data.lean ====
section
/-! DEFINITION. The data instructions of Floug (05): descriptors judged at issue, operations started, scatter and gather lists,
descriptor registers, ordering. -/

namespace Sys2Proof.Machine

open Sys2Proof

/-! ### Issue with a condition -/

/-- The form of the word passes its checks and its guard is on: the instruction's own rules decide. -/
def formRuns (s : State) (c : Nat) (f : IFields) (m : Form) (bad : Bool) : Bool :=
  canIssue s c && !(regPending (ctxOf s c) f m) && !(f.x && segLen s c ≤ (ctxOf s c).pc.word + 1) &&
  !((f.pg == 0 && f.pn) || formBad f m || bad) && guardOn (ctxOf s c) f

/-- Issue of an instruction that its own rules can keep from issuing: `pre` gives the stall reason. -/
def issuePre (s : State) (c maj fn : Nat) (f : IFields) (m : Form) (bad : Bool) (pre : State → Option Nat) (body : State → State) : State :=
  match (if formRuns s c f m bad then pre s else none) with
  | some r => noteStall s c r
  | none => issue s c maj fn f m bad body

/-- What the checks of a data instruction decide: a status, a stall reason, nothing to do, or an operation. -/
inductive Judged where
  | fail (st : Stat)
  | wait (r : Nat)
  | nothing
  | op (o : Op)
deriving DecidableEq, Repr

def judgedWait (j : Judged) : Option Nat := match j with | .wait r => some r | _ => none

/-! ### Checks -/

/-- Reserved combinations of the modifier field (R223, Table - Permitted modifiers). -/
def modsBad (kind : OpKind) (imm : Nat) : Bool :=
  let m := modsOf imm
  bit imm 4 ||
  (match kind with
   | .put | .copy | .scatter => 2 ≤ m.ord || (m.ord == 0 && m.scope != 0)
   | .get | .gather => m.ord == 1 || m.ord == 3 || m.pal || (m.ord == 0 && m.scope != 0)
   | .atom _ _ => m.pal || (m.ord == 0 && m.scope != 0)
   | .measure => imm != 0
   | _ => m.ord != 0 || m.lat || m.pal)

/-- Fields that the kind does not use, and reserved ones, are zero (R224). (DEDUCED, log 30) -/
def descBad (kind : OpKind) (d : BitVec 512) (m : Mods) : Bool :=
  let xfer (veid2 sg sig len pgen : Bool) : Bool :=
    (!veid2 && dVeid2 d != 0) || (!sg && (dSgCount d != 0 || dSgAddr d != 0)) || (!sig && (dSigAddr d != 0 || dSigVal d != 0)) ||
    (!len && (dRaddr d != 0 || dLen d != 0 || dVeid d != 0)) || (!pgen && dPgen d != 0) || dByte d 62 2 != 0 ||
    bits (dKiln d) 9 7 != 0 || (!(dKilnOn d) && (dKiln d != 0 || dOutMax d != 0 || dKgen d != 0)) ||
    bits (dPallet d) 12 4 != 0 || (!m.pal && dPallet d != 0)
  match kind with
  | .put => xfer false false true true true
  | .get => xfer false false false true true
  | .copy => xfer true false true true true
  | .scatter => xfer false true true false false
  | .gather => xfer false true false false false
  | .atom k w =>
    dByte d 0 8 != 0 || dByte d 16 4 != 0 || dByte d 22 10 != 0 || (!w && (dByte d 40 8 != 0 || dByte d 56 8 != 0)) || (k != 2 && dByte d 48 16 != 0)
  | _ => dByte d 0 8 != 0 || dByte d 16 4 != 0 || dByte d 22 42 != 0

/-- The device that a VEID names for an instruction of context c (R218, R55, R56). -/
def veidTo (s : State) (c veid op : Nat) : Except Stat Nat :=
  if veid = 0xFFFF then .ok (ownFlat s)
  else
    match translate s (ctxTen s c) veid op with
    | .ok d => .ok d
    | .error e => .error (if e = 7 then accessSt (here s c) 0xFFFF else badCmd (here s c) 6)

/-- Bytes of the own device that an instruction of tenant t names: perm 0 RD, 1 WR, 2 ATOM (R45, R218, R545, R615). No bytes need no window. (DEDUCED, log 91) -/
def ownBytesOk (s : State) (t a len perm : Nat) : Bool :=
  len == 0 || (spaceOf a != 2 && ownMemOk s t a len perm && !(perm != 0 && spaceOf a == 1 && spwProtected s (offsetOf a) len))

/-- The own register window as the target of a transfer: domain, range, alignment (R45, R46, R666). (DEDUCED, log 137) -/
def ownRegs (s : State) (t w a len : Nat) : Option Stat :=
  if t != serviceDom || !(inSpace 2 (offsetOf a) len) then some (accessSt w (ownFlat s))
  else if a % 4 != 0 || len % 4 != 0 then some (badCmd w 9) else none

/-- A kiln slot at the device where the output goes (R238, R418, R553). -/
def kilnJudge (s : State) (c : Nat) (d : BitVec 512) : Judged :=
  let k := dKiln d % 256
  if !(isEp s) then .fail (accessSt (here s c) (ownFlat s))
  else if (unitOf s ukKiln k).scrub then .wait 9
  else if !(leasedTo s ukKiln k (ctxTen s c)) then .fail (accessSt (here s c) (ownFlat s))
  else if dKgen d != unitGen s ukKiln k then .fail (staleSt ukKiln (dKgen d) k)
  else if !(unitUsable s ukKiln k) then .wait 9 else .nothing

/-- A pallet that runs from here to a destination (R237, R513, R553). -/
def palJudge (s : State) (c i dst : Nat) : Judged :=
  if (unitOf s ukPallet i).scrub then .wait 9
  else if !(leasedTo s ukPallet i (ctxTen s c)) || s.get CIR_PALLET_ENDS.SRC i != ownFlat s || s.get CIR_PALLET_ENDS.DST i != dst then
    .fail (accessSt (here s c) dst)
  else if !(unitUsable s ukPallet i) then .wait 9 else .nothing

/-- A hod for an operation (R219, R220, R261), and the operation with it. -/
def hodJudge (s : State) (c : Nat) (o : Op) : Judged :=
  if 64 ≤ (s.xf.ops.filter (fun x => x.ctx == c)).length then .wait 13
  else
    match assignHod s c (ctxTen s c) o.dests with
    | .ok h => .op { o with hod := h, hgen := s.get HOD_CFG.GEN h }
    | .error 0 => .fail (accessSt (here s c) 0xFFFF)
    | .error r => .wait r

/-- The first judgement that decides. -/
def orElseJ (a : Judged) (b : Unit → Judged) : Judged := match a with | .nothing => b () | _ => a

/-- A fenced or broken destination (R506, R278). (DEDUCED, log 28) -/
def dstJudge (s : State) (c dst vc : Nat) : Judged :=
  if dst != ownFlat s && fenced s dst then .fail ⟨3, dst⟩
  else if dst != ownFlat s && !(isGroup dst) && (txFlow s (flowKey dst vc false)).broken then .fail (limitSt (here s c) 13)
  else .nothing

/-! ### Operations -/

/-- An operation of the command that context c issues, with no destination yet. (DEDUCED, log 28; DESIGN CHOICE, log 109) -/
def opBase (s : State) (c : Nat) (kind : OpKind) (d : BitVec 512) (m : Mods) (vc rd : Nat) : Op where
  id := s.xf.nextOp
  ctx := c
  cmd := (ctxOf s c).cur.getD 0
  word := here s c
  kind := kind
  desc := d
  mods := m
  ten := ctxTen s c
  tag := curTag s c
  vc := vc
  hod := hodNone
  hgen := 0
  dests := []
  pieces := []
  off := 0
  sigs := []
  reading := none
  listed := true
  coh := []
  local? := false
  rel := if m.ord = 1 || m.ord = 3 || kind = .publish then some ⟨m.scope, s.xf.nextTxn⟩ else none
  acqs := (ctxOf s c).acq.filter (fun i => !(opReturned s i))
  txn0 := s.xf.nextTxn
  bytes := 0
  undeliv := 0
  stopped := false
  stats := []
  rd := rd
  rcb := 0
  pal := if m.pal then some (dPallet d) else none
  org := none
  fixed := none

/-- Starts an operation (R217): it joins its command, and an acquiring one the context's list (R316). (DEDUCED, log 29) -/
def startOp (s : State) (o : Op) : State :=
  let s1 := { s with xf := { s.xf with ops := s.xf.ops ++ [o], nextOp := o.id + 1 } }
  let s2 := updCmd s1 o.ctx o.cmd (fun m => { m with ops := m.ops + 1 })
  let s3 := if o.mods.ord = 2 || o.mods.ord = 3 then rcbAcquire (updCtx s2 o.ctx (fun x => { x with acq := x.acq ++ [o.id] })) o.ten else s2
  traceOp (count (hodStatus s3 o.hod) 5 255 255 (some o.ten) (some o.tag) (4, o.hod)) o 0 0 0

/-- VC of a transfer (R227, R236, R237). (DEDUCED, log 31) -/
def xferVc (reg : Bool) (m : Mods) : Nat := if reg then 0 else if m.pal then 6 else if m.lat then 7 else 1

/-- The checks and the operation of PUT, GET and COPY (R225 to R238). (DEDUCED, log 36; DEDUCED, log 136) -/
def xferJudge (s : State) (c : Nat) (k0 : OpKind) (d : BitVec 512) (m : Mods) : Judged :=
  let w := here s c
  let t := ctxTen s c
  let own := ownFlat s
  let reg := spaceOf (dRaddr d) == 2
  let isGet := k0 == .get
  let sig := dSigAddr d
  if descBad k0 d m || badSpace (dLaddr d) || badSpace (dRaddr d) || (sig != 0 && badSpace sig) || (reg && (m.pal || m.lat || sig != 0)) ||
      (m.lat && !isGet && latMax s t < dLen d) then .fail (badCmd w 2)
  else if sig % 8 != 0 then .fail (badCmd w 9)
  else if (sig != 0 && spaceOf sig == 2) || spaceOf (dLaddr d) == 2 then .fail (accessSt w 0xFFFF)
  else
    match (if k0 = .copy then veidTo s c (dVeid2 d) 0 else .ok own) with
    | .error e => .fail e
    | .ok holder =>
      match veidTo s c (dVeid d) (if isGet then 0 else 1) with
      | .error e => .fail e
      | .ok dst =>
        let third := holder != own
        let kind := if k0 = .copy && !third then OpKind.put else k0
        let vc := xferVc reg m
        if isGroup dst && k0 = .copy then .fail (badCmd w 6)
        else if !third && !(ownBytesOk s t (dLaddr d) (dLen d) (if isGet then 1 else 0)) then .fail (accessSt w 0xFFFF)
        else
          match (if dst = own && !third then (if reg then ownRegs s t w (dRaddr d) (dLen d) else if ownBytesOk s t (dRaddr d) (dLen d) (if isGet then 0 else 1) then none else some (accessSt w own)) else none) with
          | some e => .fail e
          | none =>
            if sig != 0 && dst = own && !(ownBytesOk s t sig 8 1) then .fail (accessSt w own)
            else
              orElseJ (if dKilnOn d && (isGet || (dst = own && !third)) then kilnJudge s c d else .nothing) (fun _ =>
              orElseJ (if m.pal then palJudge s c (dPallet d) dst else .nothing) (fun _ =>
              orElseJ (if third then dstJudge s c holder (xferVc false m) else .nothing) (fun _ =>
              orElseJ (if third && fenced s dst && dst != own then .fail ⟨3, dst⟩ else if third then .nothing else dstJudge s c dst (if isGroup dst then 1 else vc)) (fun _ =>
              if dLen d = 0 then .nothing
              else
                let b := opBase s c kind d m vc 0
                let piece : Piece := if third then ⟨holder, dLaddr d, 0, dLen d, dPgen d⟩ else ⟨dst, dRaddr d, dLaddr d, dLen d, dPgen d⟩
                hodJudge s c { b with dests := [dst], pieces := [piece], sigs := if sig = 0 then [] else [dst], local? := dst = own, bytes := if dKilnOn d || third || (isGet && dst != own) then 0 else dLen d, rcb := if kind = .get then 1 else 0 }))))

/-- The remote range of an operation invalidates entries of the read-combining buffer, that of a GET which the buffer serves aside (R333). -/
def touchAll (s : State) (o : Op) : State :=
  let s1 := if rcbEligible s o then s else o.pieces.foldl (fun acc p => if p.dst = ownFlat s then acc else rcbTouch acc o.ten p.dst p.raddr (match o.kind with | .atom _ w => if w then 16 else 8 | .measure => 8 | .publish => 8 | _ => p.len)) s
  let s2 := if o.kind = .copy then o.dests.foldl (fun acc d => rcbTouch acc o.ten d (dRaddr o.desc) (dLen o.desc)) s1 else s1
  o.sigs.foldl (fun acc d => if d = ownFlat s then acc else rcbTouch acc o.ten d (dSigAddr o.desc) 8) s2

/-- A count of bytes that the source cannot know: the output of a kiln at another device. (DESIGN CHOICE, log 109) -/
def kilnBytes? (s : State) (o : Op) : State × Op :=
  let far := match o.kind with | .get => false | .gather => false | .bond => false | _ => o.dests.any (fun d => d != ownFlat s)
  if dKilnOn o.desc && far && (match o.kind with | .put => true | .scatter => true | .copy => true | _ => false) then
    let r := drawFree s
    (r.2, { o with bytes := r.1 % 2 ^ 64 })
  else (s, o)

/-- Starts what the checks gave. (DEDUCED, log 29) -/
def launch (s : State) (c : Nat) (j : Judged) : State :=
  match j with
  | .fail e => failCur s c e
  | .wait _ => s
  | .nothing => advance s c false
  | .op o =>
    let r := kilnBytes? s o
    advance (startOp (touchAll r.1 r.2) r.2) c false

/-- PUT, GET or COPY. -/
def xferOp (s : State) (c fn : Nat) (kind : OpKind) (f : IFields) : State :=
  let m := modsOf f.imm.toNat
  let judge (t : State) : Judged := xferJudge t c kind (dReg (ctxOf t c) f.ra) m
  issuePre s c 0x10 fn f ⟨.z, .dr, .z, 7, false⟩ (modsBad kind f.imm.toNat) (fun t => judgedWait (judge t)) (fun t => launch t c (judge t))

/-! ### ATOM, MEASURE, PUBLISH (R239 to R247) -/

/-- The checks of an access of n bytes at RADDR on VEID: op kind for translation, window permission at the own device. (DEDUCED, log 136) -/
def wordJudge (s : State) (c : Nat) (kind : OpKind) (d : BitVec 512) (m : Mods) (n top perm rd : Nat) : Judged :=
  let w := here s c
  let own := ownFlat s
  if descBad kind d m || badSpace (dRaddr d) then .fail (badCmd w 2)
  else if dRaddr d % n != 0 then .fail (badCmd w 9)
  else
    match veidTo s c (dVeid d) top with
    | .error e => .fail e
    | .ok dst =>
      if isGroup dst then .fail (badCmd w 6)
      else if dst = own && !(ownBytesOk s (ctxTen s c) (dRaddr d) n perm) then .fail (accessSt w own)
      else
        orElseJ (dstJudge s c dst (xferVc false m)) (fun _ =>
          hodJudge s c { opBase s c kind d m (xferVc false m) rd with dests := [dst], pieces := [⟨dst, dRaddr d, 0, 0, 0⟩], local? := dst = own })

/-- Marks the registers of a result pending (R177, R240, R242). -/
def pendResult (s : State) (c rd : Nat) (two : Bool) : State :=
  if rd = 0 then s else if two then pendG (pendG s c rd) c (rd + 1) else pendG s c rd

def launchWord (s : State) (c rd : Nat) (two : Bool) (j : Judged) : State :=
  match j with
  | .op _ => launch (pendResult s c rd two) c j
  | _ => launch s c j

/-- The second register of a pair is pending: the instruction waits (R177). -/
def pairPending (s : State) (c rd : Nat) (two : Bool) : Bool := two && rd != 0 && (ctxOf s c).pendG.testBit (rd + 1)

/-- ATOM of an operation at a width. -/
def atomOp (s : State) (c k : Nat) (wide : Bool) (f : IFields) : State :=
  let m := modsOf f.imm.toNat
  let n := if wide then 16 else 8
  let judge (t : State) : Judged := wordJudge t c (.atom k wide) (dReg (ctxOf t c) f.ra) m n 2 2 f.rd
  issuePre s c 0x11 (k + 16 * b2n wide) f ⟨.gw, .dr, .z, 7, false⟩ (modsBad (.atom k wide) f.imm.toNat || (wide && f.rd % 2 == 1))
    (fun t => if pairPending t c f.rd wide then some 6 else judgedWait (judge t))
    (fun t => launchWord t c f.rd wide (judge t))

/-- MEASURE (R242). -/
def measureOp (s : State) (c : Nat) (f : IFields) : State :=
  let judge (t : State) : Judged := wordJudge t c .measure (dReg (ctxOf t c) f.ra) (modsOf 0) 8 0 0 f.rd
  issuePre s c 0x12 0x00 f ⟨.gw, .dr, .z, 0, false⟩ (f.rd == 0 || f.rd % 2 == 1)
    (fun t => if pairPending t c f.rd true then some 6 else judgedWait (judge t))
    (fun t => launchWord t c f.rd true (judge t))

/-- PUBLISH (R246, R247): the value is kept in the SIGVAL bytes of the operation's descriptor. -/
def publishOp (s : State) (c : Nat) (f : IFields) : State :=
  let m := modsOf f.imm.toNat
  let judge (t : State) : Judged :=
    match wordJudge t c .publish (dReg (ctxOf t c) f.ra) m 8 1 1 0 with
    | .op o => .op { o with desc := BitVec.ofNat 512 (setBits o.desc.toNat 384 64 (gReg (ctxOf t c) f.rb).toNat) }
    | j => j
  issuePre s c 0x14 0x00 f ⟨.z, .dr, .gr, 7, false⟩ (modsBad .publish f.imm.toNat) (fun t => judgedWait (judge t)) (fun t => launch t c (judge t))

/-! ### SCATTER and GATHER (R233 to R235) -/

/-- The checks of SCATTER and GATHER before their list is read; the hod is chosen once the destinations are known. (DEDUCED, log 44; DEDUCED, log 136) -/
def listJudge (s : State) (c : Nat) (kind : OpKind) (d : BitVec 512) (m : Mods) : Judged :=
  let w := here s c
  let t := ctxTen s c
  let sig := dSigAddr d
  if descBad kind d m || badSpace (dLaddr d) || badSpace (dSgAddr d) || (sig != 0 && badSpace sig) || dSgCount d = 0 || 65536 < dSgCount d || dSgAddr d % 16 != 0 then .fail (badCmd w 2)
  else if sig % 8 != 0 then .fail (badCmd w 9)
  else if (sig != 0 && spaceOf sig == 2) || spaceOf (dLaddr d) == 2 || !(ownBytesOk s t (dSgAddr d) (16 * dSgCount d) 0) then .fail (accessSt w 0xFFFF)
  else
    orElseJ (if dKilnOn d && kind = .gather then kilnJudge s c d else .nothing) (fun _ =>
    orElseJ (if m.pal then (if (unitOf s ukPallet (dPallet d)).scrub then .wait 9 else if !(leasedTo s ukPallet (dPallet d) t) then .fail (accessSt w 0xFFFF) else if !(unitUsable s ukPallet (dPallet d)) then .wait 9 else .nothing) else .nothing) (fun _ =>
      match hodJudge s c (opBase s c kind d m (xferVc false m) 0) with
      | .op o => .op { o with hod := hodNone, hgen := 0, listed := false }
      | .wait 13 => if 64 ≤ (s.xf.ops.filter (fun x => x.ctx == c)).length then .wait 13 else .op { opBase s c kind d m (xferVc false m) 0 with listed := false }
      | j => j))

/-- The read of the list. (DEDUCED, log 44) -/
def listRead (s : State) (id : Nat) : State :=
  match opById s id with
  | some o =>
    let r := opTxn s o .rd (dSgAddr o.desc) (16 * dSgCount o.desc) [] (.list id)
    updOp r.1 id (fun x => { x with reading := some r.2 })
  | none => s

/-- SCATTER or GATHER. -/
def sgOp (s : State) (c fn : Nat) (kind : OpKind) (f : IFields) : State :=
  let m := modsOf f.imm.toNat
  let judge (t : State) : Judged := listJudge t c kind (dReg (ctxOf t c) f.ra) m
  issuePre s c 0x10 fn f ⟨.z, .dr, .z, 7, false⟩ (modsBad kind f.imm.toNat) (fun t => judgedWait (judge t)) (fun t =>
    match judge t with
    | .op o => listRead (hold (startOp t o) c ⟨.list o.id, none, now t, false, none, false⟩ 0) o.id
    | j => launch t c j)

/-- An entry of a list: remote address, length, VEID, page generation, reserved byte. -/
def sgEntry (d : List Byte) (i : Nat) : Nat × Nat × Nat × Nat × Nat :=
  (leAt d (16 * i) 8, leAt d (16 * i + 8) 4, leAt d (16 * i + 12) 2, leAt d (16 * i + 14) 1, leAt d (16 * i + 15) 1)

/-- An entry with a reserved field or combination (R44, R227, R234, R236). -/
def sgBad (s : State) (o : Op) (e : Nat × Nat × Nat × Nat × Nat) : Bool :=
  let reg := spaceOf e.1 == 2
  e.2.2.2.2 != 0 || badSpace e.1 || (reg && (o.mods.lat || o.mods.pal || dSigAddr o.desc != 0)) ||
  (o.mods.lat && o.kind == .scatter && latMax s o.ten < e.2.1)

/-- The VEID of an entry as the operation's device sees it. -/
def sgDst (s : State) (o : Op) (veid : Nat) : Except Stat Nat :=
  if veid = 0xFFFF then .ok (ownFlat s)
  else
    match translate s o.ten veid (if o.kind = .scatter then 1 else 0) with
    | .ok d => .ok d
    | .error e => .error (if e = 7 then accessSt o.word 0xFFFF else badCmd o.word 6)

/-- The checks of one entry beyond its encoding; its destination. -/
def sgJudge (s : State) (o : Op) (e : Nat × Nat × Nat × Nat × Nat) : Except Stat Nat :=
  match sgDst s o e.2.2.1 with
  | .error x => .error x
  | .ok d =>
    let own := ownFlat s
    let perm := if o.kind = .scatter then 1 else 0
    if d = own then
      if spaceOf e.1 = 2 then (match ownRegs s o.ten o.word e.1 e.2.1 with | some x => .error x | none => .ok d)
      else if !(ownBytesOk s o.ten e.1 e.2.1 perm) || (dSigAddr o.desc != 0 && !(ownBytesOk s o.ten (dSigAddr o.desc) 8 1)) then .error (accessSt o.word own)
      else if dKilnOn o.desc && o.kind = .scatter then
        let k := dKiln o.desc % 256
        if !(isEp s) || !(leasedTo s ukKiln k o.ten) then .error (accessSt o.word own)
        else if dKgen o.desc != unitGen s ukKiln k then .error (staleSt ukKiln (dKgen o.desc) k) else .ok d
      else .ok d
    else if o.mods.pal && (s.get CIR_PALLET_ENDS.SRC (dPallet o.desc) != own || s.get CIR_PALLET_ENDS.DST (dPallet o.desc) != d) then .error (accessSt o.word d)
    else .ok d

/-- The list with the destinations of its entries: entries, local addresses and destinations, or the first status. -/
def sgPlan (s : State) (o : Op) : List (Nat × Nat × Nat × Nat × Nat) → Nat → Except Stat (List (Piece))
  | [], _ => .ok []
  | e :: r, a =>
    match sgJudge s o e with
    | .error x => .error x
    | .ok d => match sgPlan s o r (a + e.2.1) with
      | .error x => .error x
      | .ok l => .ok (⟨d, e.1, a, e.2.1, e.2.2.2.1⟩ :: l)

/-- The list has been read (R233, R234, R235, R506, R278). -/
def listData (s : State) (id : Nat) (d : List Byte) (refused : Bool) : State :=
  match opById s id with
  | none => s
  | some o =>
    let s0 := updOp s id (fun x => { x with reading := none })
    if o.stopped then s0
    else if refused then opStop s0 id (accessSt o.word 0xFFFF)
    else
      let es := (List.range (dSgCount o.desc)).map (sgEntry d)
      let total := (es.map (fun (e : Nat × Nat × Nat × Nat × Nat) => e.2.1)).sum
      if es.any (sgBad s0 o) then opStop s0 id (badCmd o.word 2)
      else if !(ownBytesOk s0 o.ten (dLaddr o.desc) total (if o.kind = .scatter then 0 else 1)) then opStop s0 id (accessSt o.word 0xFFFF)
      else
        match sgPlan s0 o es (dLaddr o.desc) with
        | .error x => opStop s0 id x
        | .ok all =>
          let own := ownFlat s0
          let fen (p : Piece) : Bool := p.dst != own && fenced s0 p.dst
          let live := all.filter (fun p => !(fen p))
          let ps := live.filter (fun p => p.len != 0)
          let dests := (live.map (·.dst)).eraseDups
          let sigs := if o.kind = .scatter && dSigAddr o.desc != 0 then dests else []
          if (ps.map (fun p => (p.dst, pktVc o p.dst p.raddr)) ++ sigs.map (fun x => (x, pktVc o x 0))).any (fun x => x.1 != own && !(isGroup x.1) && (txFlow s0 (flowKey x.1 x.2 false)).broken) then
            opStop s0 id (limitSt o.word 13)
          else
            let o1 := { o with reading := none, listed := true, dests := dests, pieces := ps, sigs := sigs, local? := dests.contains own,
                               bytes := if dKilnOn o.desc then 0 else ((ps.filter (fun p => o.kind == .scatter || p.dst == own)).map (·.len)).sum }
            let r := kilnBytes? s0 o1
            let s1 := touchAll (updOp r.1 id (fun _ => r.2)) r.2
            match all.find? fen with
            | some p => opAdd s1 id ⟨3, p.dst⟩
            | none => s1

/-! ### Descriptor instructions (R187, R188) -/

/-- The address of DLD and DST. -/
def dAddr (s : State) (c : Nat) (f : IFields) : Nat := (gReg (ctxOf s c) f.ra + f.imm.signExtend 64).toNat

/-- The checks of a 64-byte access at an address. -/
def dJudge (s : State) (c a perm : Nat) : Option Stat :=
  let w := here s c
  if a % 64 ≠ 0 then some (badCmd w 9)
  else if badSpace a then some (badCmd w 2)
  else if !(ownBytesOk s (ctxTen s c) a 64 perm) then some (accessSt w 0xFFFF)
  else none

/-- DLD. -/
def dldOp (s : State) (c : Nat) (f : IFields) : State :=
  issue s c 0x04 0x00 f ⟨.dw, .gr, .z, 32, false⟩ false (fun t =>
    let a := dAddr t c f
    match dJudge t c a 0 with
    | some e => failCur t c e
    | none =>
      let k := (ctxOf t c).cur.getD 0
      advance (pendD (localTxn t c (spaceOf a) .rd 1 (offsetOf a) 64 [] (.dld c k f.rd (here t c))).1 c f.rd) c false)

/-- DST. -/
def dstOp (s : State) (c : Nat) (f : IFields) : State :=
  issue s c 0x04 0x01 f ⟨.z, .gr, .dr, 32, false⟩ false (fun t =>
    let a := dAddr t c f
    match dJudge t c a 1 with
    | some e => failCur t c e
    | none =>
      let k := (ctxOf t c).cur.getD 0
      advance (localTxn t c (spaceOf a) .wr 1 (offsetOf a) 64 (leBytes 64 (dReg (ctxOf t c) f.rb).toNat) (.dst c k (here t c))).1 c false)

/-- Word w of a descriptor register. -/
def dWord (v : BitVec 512) (w : Nat) : W64 := BitVec.ofNat 64 (bits v.toNat (64 * (w % 8)) 64)
def setDWord (v : BitVec 512) (w : Nat) (x : W64) : BitVec 512 := BitVec.ofNat 512 (setBits v.toNat (64 * (w % 8)) 64 x.toNat)

/-! ### Ordering (R244, R312 to R314) -/

/-- The reads of the context have returned their data (R313). -/
def readsBack (s : State) (c : Nat) : Bool :=
  s.xf.ops.all (fun o => !(o.ctx == c && (match o.kind with | .get => true | .gather => true | .atom _ _ => o.rd != 0 | .measure => true | _ => false)) || opReturned s o.id) &&
  s.xf.txns.all (fun t => match t.why with | .dld c' _ _ _ => c' != c | .kilnLoad c' _ _ => c' != c | _ => true)

/-- The condition of a held REL, ACQ or FENCE. -/
def orderReached (s : State) (c : Nat) (rel acq : Bool) (scope : Nat) : Bool :=
  (!rel || earlierReached s c s.xf.nextOp s.xf.nextTxn scope) && (!acq || readsBack s c)

/-- A held ordering instruction whose condition holds goes on; an acquire empties the tenant's read-combining buffer. -/
def orderTry (s : State) (c : Nat) : State :=
  match (ctxOf s c).wait with
  | some w => (match w.kind with
    | .order rel acq scope =>
      if orderReached s c rel acq scope then releaseWait (if acq then rcbAcquire s (ctxTen s c) else s) c else s
    | _ => s)
  | none => s

/-- FENCE, REL and ACQ. -/
def orderOp (s : State) (c fn : Nat) (rel acq : Bool) (f : IFields) : State :=
  issue s c 0x13 fn f ⟨.z, .z, .z, 7, false⟩ (modsBad .bond f.imm.toNat) (fun t =>
    orderTry (hold t c ⟨.order rel acq (modsOf f.imm.toNat).scope, none, now t, false, none, false⟩ 6) c)

end Sys2Proof.Machine
end

