-- ==== Sys2Proof/Machine/BondOps.lean ====
section
/-! DEFINITION. The bond, kiln, service and scheduling instructions of Floug (04, 05). -/

namespace Sys2Proof.Machine

open Sys2Proof

/-! ### Slot references (R248, R256, R553) -/

/-- A slot reference: the index, a status, or a stall while the unit is in scrub or not yet usable. (DEDUCED, log 33) -/
def refJudge (s : State) (c kind w v : Nat) : Except Judged Nat :=
  let i := v % 2 ^ w
  if v / 65536 = 0 && (v / 2 ^ w) % 2 ^ (8 - w) = 0 && (unitOf s kind i).scrub then .error (.wait 9)
  else
    match slotRef s c kind w v with
    | .error e => .error (.fail e)
    | .ok i => if unitUsable s kind i then .ok i else .error (.wait 9)

def refWait (r : Except Judged Nat) : Option Nat := match r with | .error j => judgedWait j | .ok _ => none

/-- The slot that a general register names. -/
def slotOf (s : State) (c kind w r : Nat) : Except Judged Nat := refJudge s c kind w (gReg (ctxOf s c) r).toNat

def judgedFail (s : State) (c : Nat) (j : Judged) : State := match j with | .fail e => failCur s c e | _ => s

/-! ### BOND.START (R249 to R255, R351, R380, R426) -/

/-- Bytes of SRC and of DST, exponent planes aside, in blocks; a top-k result and an all-to-all-v are judged on their own. (DEDUCED, log 38) -/
def bondPlanes (s : State) (c : Coll) : List (Nat × Nat × Nat) :=
  let d := c.desc
  let f := cFmt d
  let b := cBlocks d
  let bb := blkBytes f
  let exps (a n perm : Nat) : List (Nat × Nat × Nat) := if f = 3 then [] else [(a, n, perm)]
  let src := [(cSrc d, b * bb, 0)] ++ exps (cSexp d) b 0
  let fin := (planMember c (bondBox s c.bond)).2.2.2
  let dst (n : Nat) : List (Nat × Nat × Nat) := [(cDst d, n * bb, 1)] ++ exps (cDexp d) n 1
  match cKind d with
  | 0 => src ++ dst (fin.2 - fin.1)
  | 1 => src ++ dst (c.members.length * b)
  | 2 => src ++ dst b
  | 3 => (if c.self = cRoot d then src else []) ++ dst b
  | 4 => [(cTable d, 16 * c.members.length, 0)]
  | _ => src ++ [(cDst d, 16 * cK d, 1)]

/-- The addresses that a descriptor uses. -/
def bondAddrs (d : BitVec 512) : List Nat :=
  [cSrc d, cDst d] ++ (if cFmt d = 3 then [] else if cKind d = 5 then [cSexp d] else [cSexp d, cDexp d]) ++ (if cKind d = 4 then [cTable d] else [])

/-- A kiln program that does not suit the collective (R426). -/
def bondKilnBad (s : State) (d : BitVec 512) : Bool :=
  let p := tabGet [] (cKslot d) s.kiln.prog
  let outs := p.filter (fun w => kIsOut (kOp w))
  parZin (tabGet 0 (cKslot d) s.kiln.param) ||
  (if cKind d = 5 then outs.any (fun w => kOp w != 0x32) else !outs.isEmpty || !(kDrain p).isEmpty)

/-- The slot reference of KSLOT and KGEN. -/
def bondKiln (s : State) (c : Nat) (d : BitVec 512) : Judged :=
  if !(cKilnEn d) then .nothing
  else if (unitOf s ukKiln (cKslot d)).scrub then .wait 9
  else if !(leasedTo s ukKiln (cKslot d) (ctxTen s c)) then .fail (accessSt (here s c) 0xFFFF)
  else if cKgen d != unitGen s ukKiln (cKslot d) then .fail (staleSt ukKiln (cKgen d) (cKslot d))
  else if !(unitUsable s ukKiln (cKslot d)) then .wait 9
  else if bondKilnBad s d then .fail (badCmd (here s c) 2) else .nothing

/-- The checks of BOND.START, with the operation that it starts. (DEDUCED, log 38) -/
def bondJudge (s : State) (c slot : Nat) (d : BitVec 512) (limit : Nat) : Judged :=
  let w := here s c
  let t := ctxTen s c
  let b := cBond d
  if (collAt s slot).isSome || (collOfBond s b).isSome then .wait 9
  else if cDescBad d || (bondAddrs d).any badSpace then .fail (badCmd w 2)
  else if !(bondValid s b) || s.get BND_BOND_CFG.TENANT b != t || !(s.on BND_BOND_STATUS.MEMBER b) then .fail (accessSt w 0xFFFF)
  else
    let x := collNew s slot b s.xf.nextOp t (curTag s c) w d limit false
    if cKind d = 3 && x.members.length ≤ cRoot d then .fail (badCmd w 2)
    else
      orElseJ (bondKiln s c d) (fun _ =>
        if !((bondPlanes s x).all (fun (p : Nat × Nat × Nat) => planeOk s t p.1 p.2.1 p.2.2)) then .fail (accessSt w 0xFFFF)
        else if s.get BND_SLOT_STORE.STORE_64K slot * 65536 < storeNeed x (bondBox s b) (s.on BND_BOND_CFG.POLICY b) then .fail (badCmd w 2)
        else if 64 ≤ (s.xf.ops.filter (fun o => o.ctx == c)).length then .wait 13
        else .op (opBase s c .bond d ⟨0, 0, false, false⟩ 4 0))

/-- BOND.START. -/
def bondStartOp (s : State) (c : Nat) (f : IFields) : State :=
  let limit := if f.x then f.ext.toNat else f.imm.toNat
  let judge (t : State) : Judged × Nat :=
    match slotOf t c ukBond 5 f.rb with
    | .error j => (j, 0)
    | .ok i => (bondJudge t c i (dReg (ctxOf t c) f.ra) limit, i)
  issuePre s c 0x20 0x00 f ⟨.z, .dr, .gr, 32, true⟩ false (fun t => judgedWait (judge t).1) (fun t =>
    match judge t with
    | (.op o, i) => bondBegin (advance (startOp t o) c f.x) i (cBond o.desc) o.id o.ten o.tag o.word o.desc limit
    | (j, _) => judgedFail t c j)

/-- BOND.STEP (R251): on a slot without a limit, or below the limit in force, a value is ignored; 0 removes the limit. -/
def bondStepOp (s : State) (c : Nat) (f : IFields) : State :=
  issuePre s c 0x20 0x01 f ⟨.z, .gr, .gr, 0, false⟩ false (fun t => refWait (slotOf t c ukBond 5 f.rb)) (fun t =>
    match slotOf t c ukBond 5 f.rb with
    | .error j => judgedFail t c j
    | .ok i =>
      let n := (gReg (ctxOf t c) f.ra).toNat
      let t1 := advance t c false
      collPump (updColl t1 i (fun x => if n = 0 || (x.limit != 0 && x.limit ≤ n) then { x with limit := n } else x)) i)

/-- BOND.WAIT (R253). -/
def bondWaitOp (s : State) (c : Nat) (f : IFields) : State :=
  issuePre s c 0x20 0x02 f ⟨.z, .gr, .gr, 32, false⟩ false (fun t => refWait (slotOf t c ukBond 5 f.rb)) (fun t =>
    match slotOf t c ukBond 5 f.rb with
    | .error j => judgedFail t c j
    | .ok i =>
      let n := (gReg (ctxOf t c) f.ra).toNat
      if n ≤ t.get BND_SLOT_STEP.STEP i then advance t c false
      else hold t c ⟨.bond i n, limitAt t f, now t, false, none, false⟩ 7)

/-- BOND.QUERY (R253). -/
def bondQueryOp (s : State) (c : Nat) (f : IFields) : State :=
  issuePre s c 0x20 0x03 f ⟨.gw, .z, .gr, 0, false⟩ false (fun t => refWait (slotOf t c ukBond 5 f.rb)) (fun t =>
    match slotOf t c ukBond 5 f.rb with
    | .error j => judgedFail t c j
    | .ok i => advance (setG t c f.rd (BitVec.ofNat 64 (t.get BND_SLOT_STEP.STEP i))) c false)

/-! ### KILN.LOAD and KILN.PARAM (R256 to R258, R421, R428) -/

/-- An operation or collective bound to a kiln slot runs here (R258). -/
def kilnBusy (s : State) (k : Nat) : Bool :=
  s.kiln.jobs.any (fun j => j.slot == k) ||
  s.xf.ops.any (fun o => dKilnOn o.desc && dKiln o.desc % 256 == k && !o.stopped &&
    (match o.kind with | .get => true | .gather => true | .put => o.local? | .scatter => o.local? | .copy => o.local? | _ => false)) ||
  s.bnd.colls.any (fun x => !x.sw && cKilnEn x.desc && cKslot x.desc == k)

def kilnWait (s : State) (c r : Nat) : Option Nat :=
  match slotOf s c ukKiln 8 r with
  | .error j => judgedWait j
  | .ok k => if kilnBusy s k then some 9 else none

/-- KILN.LOAD: the context holds until the program has been read. -/
def kilnLoadOp (s : State) (c : Nat) (f : IFields) : State :=
  let n := f.imm.toNat
  issuePre s c 0x21 0x00 f ⟨.z, .gr, .gr, 32, false⟩ (n == 0 || 64 < n) (fun t => kilnWait t c f.rb) (fun t =>
    match slotOf t c ukKiln 8 f.rb with
    | .error j => judgedFail t c j
    | .ok k =>
      let a := (gReg (ctxOf t c) f.ra).toNat
      let w := here t c
      if badSpace a then failCur t c (badCmd w 2)
      else if a % 64 ≠ 0 then failCur t c (badCmd w 9)
      else if !(ownBytesOk t (ctxTen t c) a (8 * n) 0) then failCur t c (accessSt w 0xFFFF)
      else
        (localTxn (hold t c ⟨.load k n, none, now t, false, none, false⟩ 6) c (spaceOf a) .rd 1 (offsetOf a) (8 * n) [] (.kilnLoad c k n)).1)

/-- The program has been read: it is checked and placed, and the context goes on (R428). -/
def kilnLoadData (s : State) (c k n : Nat) (d : List Byte) (refused : Bool) : State :=
  match (ctxOf s c).wait with
  | some w =>
    if w.kind = .load k n then
      let p := (List.range n).map (fun i => BitVec.ofNat 64 (leAt d (8 * i) 8))
      if refused then failCur s c (accessSt (here s c) 0xFFFF)
      else
        match kProgBad p with
        | some r => failCur s c (badCmd (here s c) r)
        | none => releaseWait (kilnPut s k p) c
    else s
  | none => s

/-- KILN.PARAM. -/
def kilnParamOp (s : State) (c : Nat) (f : IFields) : State :=
  issuePre s c 0x21 0x01 f ⟨.z, .dr, .gr, 0, false⟩ false (fun t => kilnWait t c f.rb) (fun t =>
    match slotOf t c ukKiln 8 f.rb with
    | .error j => judgedFail t c j
    | .ok k =>
      let v := dReg (ctxOf t c) f.ra
      if parBad v then failCur t c (badCmd (here t c) 2)
      else advance { t with kiln := { t.kiln with param := tabSet 0 k v t.kiln.param } } c false)

/-! ### Service instructions (R209 to R212) -/

/-- An instruction of a service context: in another it fails with ACCESS (R209). -/
def svcOnly (t : State) (c : Nat) (body : State → State) : State :=
  if ctxTen t c = serviceDom then body t else failCur t c (accessSt (here t c) 0xFFFF)

def svcAcc : Acc := ⟨1, serviceDom⟩

/-- SVC.RREG: the read returns at once. -/
def svcRead (s : State) (c : Nat) (f : IFields) : State :=
  issue s c 0x09 0x00 f ⟨.gw, .gr, .z, 0, false⟩ false (fun t => svcOnly t c (fun t =>
    let off := (gReg (ctxOf t c) f.ra).toNat
    if off % 4 ≠ 0 then failCur t c (badCmd (here t c) 9)
    else if regSize ≤ off then failCur t c (accessSt (here t c) 0xFFFF)
    else
      let r := regRead t svcAcc off
      advance (setG r.1 c f.rd (BitVec.ofNat 64 r.2.toNat)) c false))

/-- SVC.WREG. -/
def svcWrite (s : State) (c : Nat) (f : IFields) : State :=
  issue s c 0x09 0x01 f ⟨.z, .gr, .gr, 0, false⟩ false (fun t => svcOnly t c (fun t =>
    let off := (gReg (ctxOf t c) f.ra).toNat
    let v := BitVec.ofNat 32 (gReg (ctxOf t c) f.rb).toNat
    if off % 4 ≠ 0 then failCur t c (badCmd (here t c) 9)
    else if regSize ≤ off then failCur t c (accessSt (here t c) 0xFFFF)
    else regWrite (advance t c false) svcAcc off v))

/-- Malformed parameters of a scheduled action (R211, R505, R549, R564, R491, R526, R617, R639). -/
def schedBad (s : State) (kind : Nat) (d : BitVec 512) : Bool :=
  match kind with
  | 0 => d.toNat / 256 != 0
  | 1 =>
    let n := dByte d 0 1
    n = 0 || 30 < n || dByte d 1 1 / 2 != 0 || dByte d 2 2 != 0 || d.toNat / 2 ^ (8 * (4 + 2 * n)) != 0 ||
    (List.range n).any (fun k => 0xC000 ≤ dByte d (4 + 2 * k) 2)
  | 2 => leaseBad s d
  | 3 => epochBad d
  | 4 => d != 0
  | 5 => d != 0
  | _ =>
    let k := dByte d 0 1
    2 ≤ k || dByte d 1 1 != 0 || dByte d 4 60 != 0 || s.get TRW_STAGE1.STATE k != 2 || s.get TRW_STAGE1.MOD_ID k != dByte d 2 2

/-- The refusal of an at-time request, in the order of R721. -/
def schedRefuse (s : State) (c kind t : Nat) (d : BitVec 512) : Option Stat :=
  let w := here s c
  let boundary := kind != 0
  if (boundary && t % 65536 != 0) || now s + 2 ^ 44 < t then some (badCmd w 7)
  else if schedBad s kind d then some (badCmd w 2)
  else if boundary && !(everLocked s) then some (abortedSt (w + 1))
  else if boundary && t ≤ now s then some ⟨5, now s - t⟩
  else if boundary && 256 ≤ (s.acts.filter (fun x => x.kind != 0)).length then some (abortedSt (w + 1))
  else none

/-- An accepted request: it waits for its time, or takes effect at once, late (R104). (DEDUCED, log 40) -/
def schedAccept (s : State) (kind t ten : Nat) (d : BitVec 512) : State :=
  let x : AtAction := ⟨s.nextAct, t, kind, d, ten⟩
  let s1 := { s with nextAct := s.nextAct + 1 }
  if kind = 0 && t ≤ now s then passAction s1 x
  else pendMarks { s1 with acts := s1.acts ++ [x] }

/-- SVC.SCHED of a kind. (DEDUCED, log 40) -/
def schedOp (s : State) (c kind : Nat) (f0 : IFields) : State :=
  let f := { f0 with imm := BitVec.ofNat 32 (setBits f0.imm.toNat 0 6 kind) }
  issue s c 0x09 0x02 f ⟨.z, .gr, .dr, 32, false⟩ (64 ≤ f.imm.toNat || 7 ≤ kind) (fun t => svcOnly t c (fun t =>
    let n := (gReg (ctxOf t c) f.ra).toNat
    let d := dReg (ctxOf t c) f.rb
    match schedRefuse t c kind n d with
    | some e => failCur t c e
    | none => schedAccept (advance t c false) kind n (ctxTen t c) d))

end Sys2Proof.Machine
end

