-- ==== Sys2Proof/Machine/MemDone.lean ====
section
/-! DEFINITION. What the end of a memory access leads to, by its reason, and the watchpoints that see it (R654). -/

namespace Sys2Proof.Machine

open Sys2Proof

/-! ### Watchpoints (R654, R546) -/

/-- Kind of an access for the watchpoints: 0 RD, 1 WR, 2 ATOM. -/
def watchKind (o : MemOp) : Nat := match o with | .rd => 0 | .wr => 1 | .atom _ _ _ _ => 2

/-- The context and the tag of an access that an instruction makes, where it is one: accesses that the block makes on its own behalf are
none, and packets are judged as they are performed. -/
def watchWho (s : State) (t : Txn) : Option (Option Nat × Nat) :=
  let ofOp (id : Nat) : Option (Option Nat × Nat) :=
    match opById s id with
    | some o => if o.ctx < 1024 then some (some o.ctx, o.tag) else none
    | none => none
  let ofCmd (c k : Nat) : Option (Option Nat × Nat) := some (some c, match cmdOf s c k with | some m => hdrTag m | none => 0)
  let ofSlot (i : Nat) : Option (Option Nat × Nat) := match collAt s i with | some x => ofOp x.op | none => none
  match t.why with
  | .dld c k _ _ => ofCmd c k
  | .dst c k _ => ofCmd c k
  | .flag c => some (some c, curTag s c)
  | .kilnLoad c _ _ => some (some c, curTag s c)
  | .src o _ => ofOp o
  | .local o => ofOp o
  | .move o _ => ofOp o
  | .latom o => ofOp o
  | .list o => ofOp o
  | .bondRd i _ _ => ofSlot i
  | .bondWr i _ => ofSlot i
  | .bondTab i => ofSlot i
  | _ => none

/-- First byte and length of an access. -/
def txnSpan (t : Txn) : Nat × Nat := ((t.parts.head?.map (·.addr)).getD 0, (t.parts.map (·.len)).sum)

/-- A context access that was performed is offered to the watchpoints. -/
def watchTxn (s : State) (t : Txn) : State :=
  match watchWho s t with
  | some (c, tag) => watch s (watchKind t.op) 0 t.space (txnSpan t).1 (txnSpan t).2 t.ten tag (ownFlat s) c
  | none =>
    match t.why with
    | .inbound _ => watch s (watchKind t.op) 2 t.space (txnSpan t).1 (txnSpan t).2 t.ten 0 (ownFlat s) none
    | _ => s

/-! ### Flag waits (R145, R146, R198, R199) -/

/-- The value that a flag read returned. A limit that has been reached acts on it. -/
def flagData (s : State) (c id : Nat) (d : List Byte) (refused : Bool) : State :=
  match (ctxOf s c).wait with
  | some w =>
    if w.read != some id then s
    else
      match w.kind with
      | .flag _ cond cv rd acq =>
        let v : W64 := BitVec.ofNat 64 (leAt d 0 8)
        if refused then failCur s c (accessSt (here s c) 0xFFFF)
        else if flagCond cond v (BitVec.ofNat 64 cv) then
          let s1 := landG s c rd v
          releaseWait (if acq then rcbAcquire s1 (ctxTen s1 c) else s1) c
        else if w.final then failCur s c (limitSt (here s c) 6)
        else
          let s1 := updCtx s c (fun x => { x with wait := some { w with read := none } })
          if w.lastEval = 0 then flagRead s1 c else s1
      | _ => s
  | none => s

/-- A fabric write that touches the brick of a held flag evaluates the flag again. (DEDUCED, log 49) -/
def flagTouch (s : State) (space a n : Nat) : State :=
  s.prog.ctx.foldl (fun acc (p : Nat × Ctx) =>
    match (ctxOf acc p.1).wait with
    | some w => (match w.kind with
      | .flag b _ _ _ _ =>
        if spaceOf b == space && overlaps (offsetOf b / 128 * 128) 128 a n && !w.final then
          (if w.read.isNone then flagRead acc p.1 else updCtx acc p.1 (fun x => { x with wait := some { w with lastEval := 0 } }))
        else acc
      | _ => acc)
    | none => acc) s

/-! ### Local parts of operations -/

/-- Plain bytes of a source read: a copy out of a page is read under the page's storage key (R568). -/
def srcClear (s : State) (o : Op) (d : List Byte) (a : Nat) (drop len : Nat) : List Byte :=
  let e := bits o.desc.toNat 496 8
  if o.kind = .copyData && e != 0 then ((pageXts Config.xtsInv s o.ten (e - 1) (bits o.desc.toNat 504 8) a d).drop drop).take len else d

/-- The source of the next packet of an operation has been read. -/
def srcData (s : State) (id len : Nat) (t : Txn) (d : List Byte) (refused : Bool) : State :=
  match opById s id with
  | none => s
  | some o =>
    let p := (o.pieces.head?.map (·.laddr)).getD 0 + o.off
    srcRead s id len (srcClear s o d (txnSpan t).1 (offsetOf p - (txnSpan t).1) len) refused

/-- The payload of a replay has been read; a page's bytes are read under its key as they were the first time. -/
def replayData (s : State) (h f q : Nat) (t : Txn) (d : List Byte) (refused : Bool) : State :=
  match (replayOf s h).find? (fun r => r.flow == f && r.seq == q) with
  | some r =>
    let dd := match opById s r.op with
      | some o => srcClear s o d (txnSpan t).1 (offsetOf r.laddr - (txnSpan t).1) r.len
      | none => d
    replayRead s h f q dd refused
  | none => s

/-- The chunk that has been read is the last of its piece. -/
def pieceOver (o : Op) : Bool :=
  match o.pieces with
  | [] => true
  | p :: _ => o.off == 0 || p.len ≤ o.off

/-- Data read at the own device for an operation that ends there: it is written, or goes to the kiln (R226, R238, R418). -/
def moveData (s : State) (id a : Nat) (d : List Byte) (refused : Bool) : State :=
  match opById s id with
  | none => s
  | some o =>
    if refused then opStop s id (accessSt o.word (ownFlat s))
    else if o.stopped then s
    else if !(dKilnOn o.desc) then (opTxn s o .wr a d.length d (.local id)).1
    else if isGetKind o.kind then
      let j := getJob s o (dLaddr o.desc)
      let p := opPacket s o 0x30 (ownFlat s) 0 0 0 0 d
      feedEarly 512 (updJob j.1 j.2 (fun x => { x with early := x.early ++ [(inOffset o a, p, 255)] })) j.2
    else
      let slot := dKiln o.desc % 256
      let j := match jobFor s 1 id with
        | some j => (s, j.id)
        | none => newJob s 1 id slot o.ten o.tag (parIw (tabGet 0 slot s.kiln.param)) 0 a (dOutMax o.desc)
      feedJob j.1 j.2 0 d (pieceOver o)

/-- The result of an atomic or a measured read at the own device (R239 to R242). The round trip of a read that leaves no device is not stated:
a free value. (DESIGN CHOICE, log 54) -/
def latomData (s : State) (id : Nat) (d : List Byte) (refused : Bool) : State :=
  match opById s id with
  | none => s
  | some o =>
    if refused then opStop s id (accessSt o.word (ownFlat s))
    else
      match o.kind with
      | .atom _ w => if o.rd = 0 then s else landPair s o (leAt d 0 8) (leAt d 8 8) w
      | .measure =>
        let r := drawFree s
        landPair r.2 o (leAt d 0 8) (measureWord r.1 0 0) true
      | _ => s

/-- A local write of an operation was refused. -/
def localRefused (s : State) (id : Nat) : State :=
  match opById s id with
  | some o => opStop s id (accessSt o.word (ownFlat s))
  | none => s

/-! ### Descriptor loads and stores (R187, R188) -/

def dldData (s : State) (c k rd w : Nat) (d : List Byte) (refused : Bool) : State :=
  if refused then addStat (landD s c rd 0) c k (accessSt w 0xFFFF) else landD s c rd (BitVec.ofNat 512 (ofLe d))

/-! ### The end of an access -/

/-- The response of a host inbound access: the tag, the kind and the data (Table - Turulut response kinds). -/
def inboundRsp (s : State) (tag kind : Nat) (d : List Byte) : State :=
  { s with xf := { s.xf with inbound := s.xf.inbound ++ [(tag, kind, d)] } }

/-- What the end of an access leads to. -/
def whyDone (s : State) (t : Txn) (d : List Byte) (refused : Bool) : State :=
  match t.why with
  | .fetch c e => fetchData s c e d refused
  | .record c k j => recordEnd s c k j refused
  | .dld c k rd w => dldData s c k rd w d refused
  | .dst c k w => if refused then addStat s c k (accessSt w 0xFFFF) else s
  | .flag c => flagData s c t.id d refused
  | .src o len => srcData s o len t d refused
  | .replay h f q => replayData s h f q t d refused
  | .local o => if refused then localRefused s o else s
  | .move o a => moveData s o a d refused
  | .latom o => latomData s o d refused
  | .list o => listData s o d refused
  | .kilnLoad c k n => kilnLoadData s c k n d refused
  | .pktWr f q => if refused then writeRefused s f q else flagTouch s t.space (txnSpan t).1 (txnSpan t).2
  | .pktRd f q pg p => reqData s f q pg p d refused
  | .tag f p => tagData s f p d refused
  | .merge f p e => mergeData s f p e d refused
  | .sweepTag => sweepTagRead s d refused
  | .sweepRd => sweepPageRead s d refused
  | .sweepWr => sweepWritten s refused
  | .msgWr f q m => msgFinish (if refused then writeRefused s f q else flagTouch s t.space (txnSpan t).1 (txnSpan t).2) m
  | .arrRec _ _ => s
  | .sampleVal c => if refused then sampleHeader s c true else sampleValues s c
  | .sampleHdr c => sampleHeader s c refused
  | .pcs => pcsWritten s
  | .drain u => drainFree s u
  | .bondRd i key len => bondRead s i key len d refused
  | .bondWr i _ => bondWrote s i refused
  | .bondTab i => bondTabRead s i d refused
  | .lds i => ldsData s i d refused
  | .inbound g => inboundRsp s g (if refused then 3 else match t.op with | .rd => 0 | .wr => 1 | _ => 2) d
  | .none => s

/-- An access has ended: it leaves the list and its reason goes on. -/
def txnFinish (s : State) (t : Txn) : State :=
  let s1 := dropTxn s t.id
  let r := txnRefused t
  whyDone (if r then s1 else watchTxn s1 t) t (txnData t) r

end Sys2Proof.Machine
end

