-- ==== Sys2Proof/Machine/Deliver.lean ====
section
/-! DEFINITION. Packets that reach this device: what takes each opcode (06, 08, 11), and the packets that this device sends to itself. -/

namespace Sys2Proof.Machine

open Sys2Proof

/-! ### Step data (R360, R569, R573) -/

/-- A switch that cannot open step data discards it and counts it. -/
def noKey (s : State) : State := raise (s.inc SEC_NOKEY_CNT.COUNT) 4

/-- Step data arrives: a confidential tenant's is opened first; what cannot be opened is not acknowledged. -/
def stepData (s : State) (p : Packet) : State :=
  let n := s.get BND_BOND_CFG.TENANT (p.e32 % 4096)
  let s1 := traceBond s 0 p.ten p.tag (p.e32 % 4096) 0 p.seq p.e36 p.e40
  if conf s p.ten then
    if isSw s && !(tenActive s p.ten && epochLive s p.ten p.kep) then noKey s1
    else if !(epochLive s p.ten p.kep) then s1.inc SEC_RETIRED_CNT.COUNT
    else
      match openPay s p with
      | some d => bondData s1 { p with pay := d }
      | none => raise (s1.inc SEC_TAG_FAIL_CNT.COUNT) 4
  else if isSw s && p.ten == n && (dataOk (leAt (p.pay.drop (p.pay.length - 16)) 10 1 % 4) p.e36 p.pay).isNone then noKey s1
  else bondData s1 p

/-- Step data or control arrives from port q. (DEDUCED, log 52) -/
def stepArrive (s : State) (q : Nat) (p : Packet) : State := consume (stepData s p) q p
def ctlArrive (s : State) (q : Nat) (p : Packet) : State :=
  consume (bondCtl (traceBond s 0 p.ten p.tag (p.e32 % 4096) (leAt p.pay 0 1) (leAt p.pay 8 4) (leAt p.pay 12 4) (leAt p.pay 20 2)) p) q p

/-! ### Delivery -/

/-- A packet for this device is taken by what its opcode names (Table - Opcodes). -/
def deliver (s : State) (q : Nat) (p : Packet) : State :=
  match p.op with
  | 0x30 => getData s q p
  | 0x31 => consume (atomRsp s p) q p
  | 0x32 => consume (measureRsp s p) q p
  | 0x33 => consume (ackMsg s p) q p
  | 0x34 => consume (nackMsg s p) q p
  | 0x35 => consume (doneMsg s p) q p
  | 0x40 => stepArrive s q p
  | 0x41 => ctlArrive s q p
  | _ => acceptPkt s q p

/-- The census point of a local delivery, by the role of the arrival port (R638). -/
def deliverCensus (s : State) (q : Nat) (p : Packet) : State :=
  let r := portRole s q
  if 32 ≤ q || r = 0 then s else census s (35 + r) p.ten p.tag p.pay.length

/-- A packet arrives from port q: the discards of R722, the fence of R506, then its taker. A packet for another device is not taken here. -/
def arrive (s : State) (q : Nat) (p : Packet) (take : State → State) : State :=
  if screen p ≠ 0 then countScreen (consume s q p) q (screen p)
  else if fenceDrops s p then dropFenced (consume s q p)
  else if p.dst != ownFlat s && !(isGroup p.dst && !(isSw s)) then s
  else take (deliverCensus s q p)

/-- A packet that this device sends to itself needs no link; nor does a pallet packet that was demoted at its destination. -/
def loopOne (s : State) (o : OutPkt) : State :=
  match o.inPort with
  | none => deliver (noteSent (dropOut s o.num) o.pkt) 255 o.pkt
  | some q => deliver (deliverCensus (dropOut s o.num) q o.pkt) q o.pkt

/-- Packets of this device to itself are taken in their order. (DEDUCED, log 50) -/
def loopPass (s : State) : State :=
  (s.net.out.filter (fun o => (o.inPort.isNone || (o.bufVc.isNone && hasFlag o.pkt flDemoted)) && o.pkt.dst == ownFlat s)).foldl loopOne s

end Sys2Proof.Machine
end

