-- ==== Sys2Proof/Machine/Settle.lean ====
section
/-! DEFINITION. What the block does of itself once something has changed: operations go on, accesses of the register window are performed,
packets for this device are taken, the kiln and the bond engine work, waits end, and acknowledgements that are due leave. -/

namespace Sys2Proof.Machine

open Sys2Proof

/-! ### Accesses of the own register window (R46, R666, R667) -/

/-- The path and domain of accesses that packets make to the register space (R666). (DEDUCED, log 11; DEDUCED, log 137) -/
def regTarget : Acc := ⟨2, serviceDom⟩

/-- Reads n bytes of the window, word by word. -/
def regReadRun : Nat → State → Nat → State × List Byte
  | 0, s, _ => (s, [])
  | n + 1, s, off =>
    let r := regRead s regTarget off
    let z := regReadRun n r.1 (off + 4)
    (z.1, leBytes 4 r.2.toNat ++ z.2)

/-- Writes the words of the window in order. -/
def regWriteRun : Nat → State → Nat → List Byte → State
  | 0, s, _, _ => s
  | n + 1, s, off, d => regWriteRun n (regWrite s regTarget off (BitVec.ofNat 32 (leAt d 0 4))) (off + 4) (d.drop 4)

/-- An access of the window is performed as a whole. -/
def regTxn (s : State) (t : Txn) : State :=
  let off := (txnSpan t).1
  let n := (txnSpan t).2
  let fin (x : State) (d : List Byte) : State := txnFinish x { t with parts := [⟨off, n, d, .done⟩] }
  match t.op with
  | .rd => let r := regReadRun (n / 4) s off; fin r.1 r.2
  | .wr => fin (regWriteRun (n / 4) s off (txnData t)) []
  | .atom k w a c =>
    let r := regReadRun (n / 4) s off
    let b := if w then 128 else 64
    fin (regWriteRun (n / 4) r.1 off (leBytes n (atomNew k b (ofLe r.2) a c))) r.2

/-- Every such access whose turn it is and which can be performed now. (DESIGN CHOICE, log 10) -/
def regTxns (s : State) : State :=
  s.xf.txns.foldl (fun acc t0 =>
    if t0.space != 2 then acc
    else
      match txnById acc t0.id with
      | some t => if (readyPart acc t).isSome && regReach acc 2 (txnSpan t).1 != 0 then regTxn acc t else acc
      | none => acc) s

/-! ### Operations bound to the kiln (R238, R418, R419) -/

/-- Nothing more of an operation's input is to come. -/
def inputOver (s : State) (o : Op) : Bool :=
  movesOut s o.id == 0 && (opEntries s o.id).all (fun r => !r.rsp) &&
  (o.stopped || (isGetKind o.kind && o.listed && o.pieces.isEmpty && o.reading.isNone))

/-- Tells the source of a kiln-bound packet of a failure (R268, R418). -/
def kilnNack (s : State) (j : KJob) (code detail : Nat) : State :=
  let k := j.key / 64
  match s.xf.dones.find? (fun z => z.1 == k && z.2.1 == j.bufSeq) with
  | some z => refuse s z.2.2 code detail
  | none =>
    sendFormed s ⟨keySrc k, ownFlat s, j.ten, 3, 0, 0x34, 0, 0, j.bufSeq, 0, j.tag, 0, j.key % 64, 0, 0, 0, ownFlat s,
      leBytes 2 code ++ [BitVec.ofNat 8 (if keyMc k then 1 else k % 16)] ++ leBytes 5 0 ++ leBytes 8 detail⟩

/-- The status of a bound operation: a failure, or output beyond OUTMAX. -/
def kilnStat (j : KJob) : Option Stat :=
  match j.stat with
  | some e => some e
  | none => if j.overrun then some (accessSt 0 0xFFFF) else none

/-- One bound operation: its failure is told once, and it leaves the kiln when its input has ended. (DEDUCED, log 51) -/
def kilnJob (s : State) (j0 : KJob) : State :=
  match jobById s j0.id with
  | none => s
  | some j =>
    if 2 ≤ j.mode then s
    else if j.mode = 0 then
      let s1 := match kilnStat j with
        | some e => if j.told then s else kilnNack (updJob s j.id (fun x => { x with told := true })) j e.code (if e.code = 7 then accDetail s else e.detail)
        | none => s
      if j.last && jobFinished s j then dropJob s1 j.id else s1
    else
      match opById s j.key with
      | none => dropJob s j.id
      | some o =>
        let s1 := if !j.last && j.early.isEmpty && inputOver s o then feedJob s j.id 0 [] true else s
        let s2 := match kilnStat j with
          | some e => if j.told then s1 else
              let t := updJob s1 j.id (fun x => { x with told := true })
              if j.stat.isSome then opStop t o.id (nackStat o e.code e.detail) else opAdd t o.id (nackStat o e.code e.detail)
          | none => s1
        let s3 := feedEarly 64 s2 j.id
        match jobById s3 j.id with
        | some x => if x.last && jobFinished s3 x then dropJob s3 x.id else s3
        | none => s3

def kilnPass (s : State) : State := s.kiln.jobs.foldl kilnJob s

/-! ### Operations of the target engine (R232, R296) -/

/-- The end of a copy or forward that failed is told to the requester. -/
def targetEnd (s : State) (o : Op) : State :=
  match o.org, o.stats with
  | some g, e :: _ =>
    let p : Packet := { opPacket s o 0x20 0 0 0 0 0 [] with src := g.1, e40 := g.1, e32 := g.2.1, vc := 2, flags := 0, hod := o.rd, hgen := o.hgen }
    let s1 := { s with xf := { s.xf with dones := s.xf.dones.filter (fun z => !(z.1 == g.2.2 && origSeq z.2.2 == g.2.1)) } }
    refuse s1 p e.code (if e.code = 7 then accDetail s else e.detail)
  | _, _ => s

def targetEnds (s : State) : State :=
  (s.xf.ops.filter (fun o => 1024 ≤ o.ctx && opFinished s o)).foldl targetEnd s

/-! ### Waits of contexts -/

def waitPass (s : State) : State :=
  s.prog.ctx.foldl (fun acc (p : Nat × Ctx) => if p.2.wait.isSome then ringTry (orderTry acc p.1) p.1 else acc) s

/-! ### One round, and all -/

def collsPump (s : State) : State := s.bnd.colls.foldl (fun acc c => collPump acc c.slot) s
def headsRetry (s : State) : State := s.xf.rx.foldl (fun acc (x : Nat × RxFlow) => if x.2.cur.isSome then headRetry acc x.1 else acc) s
def msgsFinish (s : State) : State := s.xf.msgs.foldl (fun acc m => msgFinish acc m.id) s

/-- One round. -/
def settleOnce (s : State) : State :=
  let s1 := regTxns (pump (noticePass (rcbPass s)))
  let s2 := kilnPass (loopPass s1)
  let s3 := bondFences (collsPump s2)
  let s4 := donePass (headsRetry (msgsFinish s3))
  let s5 := finishOps (targetEnds (rcbClean s4))
  ackPass (haltPass (waitPass s5))

/-- Rounds until nothing changes. (DESIGN CHOICE, log 134) -/
def settleFor : Nat → State → State
  | 0, s => s
  | n + 1, s =>
    let t := settleOnce s
    if t = s then s else settleFor n t

/-- What follows of itself from a change: nothing while CORE stands still (R588). (DESIGN CHOICE, log 134) -/
def settle (s : State) : State := if coreRuns s then settleFor 8 s else s

end Sys2Proof.Machine
end

