-- ==== Sys2Proof/Machine/DataRows.lean ====
section
/-! DEFINITION. The meanings of the descriptor, service, transfer, ordering, bond and kiln instructions of Floug (04, 05). What follows of itself
from an instruction is part of its effect: an operation starts, its accesses are made, its packets wait to leave. -/

namespace Sys2Proof.Machine

open Sys2Proof

/-- DLD (R187): Loads 64 bytes of local memory into a descriptor register, pending until loaded. -/
def execDld (c : Nat) (f : IFields) (s : State) : Host.Outcome State Fault Refusal := .next (settle (dldOp s c f))

/-- DST (R187): Stores a descriptor register as one brick-contained local write. -/
def execDst (c : Nat) (f : IFields) (s : State) : Host.Outcome State Fault Refusal := .next (settle (dstOp s c f))

/-- DSETW (R188): Sets one word of a descriptor register from a general register. -/
def execDsetw (c : Nat) (f : IFields) (s : State) : Host.Outcome State Fault Refusal := .next (issue s c 0x04 0x02 f ⟨.dw, .z, .gr, 3, false⟩ false (fun t =>
    advance (setD t c f.rd (setDWord (dReg (ctxOf t c) f.rd) f.imm.toNat (gReg (ctxOf t c) f.rb))) c false))

/-- DGETW (R188): Reads one word of a descriptor register into a general register. -/
def execDgetw (c : Nat) (f : IFields) (s : State) : Host.Outcome State Fault Refusal := .next (issue s c 0x04 0x03 f ⟨.gw, .dr, .z, 3, false⟩ false (fun t =>
    advance (setG t c f.rd (dWord (dReg (ctxOf t c) f.ra) f.imm.toNat)) c false))

/-- DZERO (R187): Zeroes a descriptor register. -/
def execDzero (c : Nat) (f : IFields) (s : State) : Host.Outcome State Fault Refusal := .next (issue s c 0x04 0x04 f ⟨.dw, .z, .z, 0, false⟩ false (fun t => advance (setD t c f.rd 0) c false))

/-- DMOV (R187): Copies one descriptor register to another. -/
def execDmov (c : Nat) (f : IFields) (s : State) : Host.Outcome State Fault Refusal := .next (issue s c 0x04 0x05 f ⟨.dw, .dr, .z, 0, false⟩ false (fun t => advance (setD t c f.rd (dReg (ctxOf t c) f.ra)) c false))

/-- SVC_RREG (R210): A service context reads a local register into g[RD]. (DEDUCED, log 39) -/
def execSvcRreg (c : Nat) (f : IFields) (s : State) : Host.Outcome State Fault Refusal := .next (svcRead s c f)

/-- SVC_WREG (R210): A service context writes a local register. -/
def execSvcWreg (c : Nat) (f : IFields) (s : State) : Host.Outcome State Fault Refusal := .next (settle (svcWrite s c f))

/-- SCHED_SAMPLE (R643): SVC.SCHED of kind SAMPLE requests a counter sample at time T. -/
def execSchedSample (c : Nat) (f : IFields) (s : State) : Host.Outcome State Fault Refusal := .next (settle (schedOp s c 0 f))

/-- SCHED_FENCE (R505): SVC.SCHED of kind FENCE requests a fence change at a course boundary. -/
def execSchedFence (c : Nat) (f : IFields) (s : State) : Host.Outcome State Fault Refusal := .next (settle (schedOp s c 1 f))

/-- SCHED_LEASE (R549): SVC.SCHED of kind LEASE requests lease changes at a course boundary. -/
def execSchedLease (c : Nat) (f : IFields) (s : State) : Host.Outcome State Fault Refusal := .next (settle (schedOp s c 2 f))

/-- SCHED_EPOCH (R564): SVC.SCHED of kind EPOCH requests key epoch switches or retires at a boundary. -/
def execSchedEpoch (c : Nat) (f : IFields) (s : State) : Host.Outcome State Fault Refusal := .next (settle (schedOp s c 3 f))

/-- SCHED_ROUTE (R491): SVC.SCHED of kind ROUTE requests a route bank swap at a boundary. -/
def execSchedRoute (c : Nat) (f : IFields) (s : State) : Host.Outcome State Fault Refusal := .next (settle (schedOp s c 4 f))

/-- SCHED_SCHEDULE (R526): SVC.SCHED of kind SCHEDULE requests a circuit bank swap at a boundary. -/
def execSchedSchedule (c : Nat) (f : IFields) (s : State) : Host.Outcome State Fault Refusal := .next (settle (schedOp s c 5 f))

/-- SCHED_MODULE (R617): SVC.SCHED of kind MODULE requests a firmware module swap at a boundary. -/
def execSchedModule (c : Nat) (f : IFields) (s : State) : Host.Outcome State Fault Refusal := .next (settle (schedOp s c 6 f))

/-- PUT (R227): Starts a put: translation, optional release, packets in address order, and an optional signal. -/
def execPut (c : Nat) (f : IFields) (s : State) : Host.Outcome State Fault Refusal := .next (settle (xferOp s c 0x00 .put f))

/-- GET (R227): Starts a get whose data returns on VC3 into LADDR, possibly served from the read-combining buffer. -/
def execGet (c : Nat) (f : IFields) (s : State) : Host.Outcome State Fault Refusal := .next (settle (xferOp s c 0x01 .get f))

/-- COPY (R232): Starts a copy from VEID2 to VEID, run as a put when the holder is local. -/
def execCopy (c : Nat) (f : IFields) (s : State) : Host.Outcome State Fault Refusal := .next (settle (xferOp s c 0x02 .copy f))

/-- SCATTER (R233): Starts a scatter over a list of entries with one signal per destination. -/
def execScatter (c : Nat) (f : IFields) (s : State) : Host.Outcome State Fault Refusal := .next (settle (sgOp s c 0x03 .scatter f))

/-- GATHER (R233): Starts a gather over a list of entries into consecutive local bytes. -/
def execGather (c : Nat) (f : IFields) (s : State) : Host.Outcome State Fault Refusal := .next (settle (sgOp s c 0x04 .gather f))

/-- ATOM_FADD (R239): Remote atomic fetch-add at the destination chip. -/
def execAtomFadd (c : Nat) (wide : Bool) (f : IFields) (s : State) : Host.Outcome State Fault Refusal := .next (settle (atomOp s c 0 wide f))

/-- ATOM_SWAP (R239): Remote atomic swap. -/
def execAtomSwap (c : Nat) (wide : Bool) (f : IFields) (s : State) : Host.Outcome State Fault Refusal := .next (settle (atomOp s c 1 wide f))

/-- ATOM_CAS (R239): Remote atomic compare-and-swap. -/
def execAtomCas (c : Nat) (wide : Bool) (f : IFields) (s : State) : Host.Outcome State Fault Refusal := .next (settle (atomOp s c 2 wide f))

/-- ATOM_MIN (R239): Remote atomic signed minimum. -/
def execAtomMin (c : Nat) (wide : Bool) (f : IFields) (s : State) : Host.Outcome State Fault Refusal := .next (settle (atomOp s c 3 wide f))

/-- ATOM_MAX (R239): Remote atomic signed maximum. -/
def execAtomMax (c : Nat) (wide : Bool) (f : IFields) (s : State) : Host.Outcome State Fault Refusal := .next (settle (atomOp s c 4 wide f))

/-- ATOM_MINU (R239): Remote atomic unsigned minimum. -/
def execAtomMinu (c : Nat) (wide : Bool) (f : IFields) (s : State) : Host.Outcome State Fault Refusal := .next (settle (atomOp s c 5 wide f))

/-- ATOM_MAXU (R239): Remote atomic unsigned maximum. -/
def execAtomMaxu (c : Nat) (wide : Bool) (f : IFields) (s : State) : Host.Outcome State Fault Refusal := .next (settle (atomOp s c 6 wide f))

/-- ATOM_AND (R239): Remote atomic and. -/
def execAtomAnd (c : Nat) (wide : Bool) (f : IFields) (s : State) : Host.Outcome State Fault Refusal := .next (settle (atomOp s c 7 wide f))

/-- ATOM_OR (R239): Remote atomic or. -/
def execAtomOr (c : Nat) (wide : Bool) (f : IFields) (s : State) : Host.Outcome State Fault Refusal := .next (settle (atomOp s c 8 wide f))

/-- ATOM_XOR (R239): Remote atomic xor. -/
def execAtomXor (c : Nat) (wide : Bool) (f : IFields) (s : State) : Host.Outcome State Fault Refusal := .next (settle (atomOp s c 9 wide f))

/-- MEASURE (R242): A measured load returns a word and its round-trip time and hop counts. -/
def execMeasure (c : Nat) (f : IFields) (s : State) : Host.Outcome State Fault Refusal := .next (settle (measureOp s c f))

/-- FENCE (R314): Holds the context until earlier operations reach completion at the scope, with acquire effects. -/
def execFence (c : Nat) (f : IFields) (s : State) : Host.Outcome State Fault Refusal := .next (settle (orderOp s c 0x00 true true f))

/-- REL (R312): Release at a scope: holds until earlier operations and local accesses complete at that scope. -/
def execRel (c : Nat) (f : IFields) (s : State) : Host.Outcome State Fault Refusal := .next (settle (orderOp s c 0x01 true false f))

/-- ACQ (R313): Acquire at a scope: holds until earlier reads return and invalidates the read-combining buffer. -/
def execAcq (c : Nat) (f : IFields) (s : State) : Host.Outcome State Fault Refusal := .next (settle (orderOp s c 0x02 false true f))

/-- PUBLISH (R246): Writes a flag as a release, issued at the destination only after earlier writes are coherent. -/
def execPublish (c : Nat) (f : IFields) (s : State) : Host.Outcome State Fault Refusal := .next (settle (publishOp s c f))

/-- BOND_START (R249): Starts a collective on a leased bond slot from a collective descriptor. -/
def execBondStart (c : Nat) (f : IFields) (s : State) : Host.Outcome State Fault Refusal := .next (settle (bondStartOp s c f))

/-- BOND_STEP (R251): Raises or removes the step limit of a running slot. -/
def execBondStep (c : Nat) (f : IFields) (s : State) : Host.Outcome State Fault Refusal := .next (settle (bondStepOp s c f))

/-- BOND_WAIT (R253): Holds the context until the slot has completed a step. -/
def execBondWait (c : Nat) (f : IFields) (s : State) : Host.Outcome State Fault Refusal := .next (bondWaitOp s c f)

/-- BOND_QUERY (R253): Returns the last step the slot has completed. -/
def execBondQuery (c : Nat) (f : IFields) (s : State) : Host.Outcome State Fault Refusal := .next (bondQueryOp s c f)

/-- KILN_LOAD (R257): Loads and checks a kiln program into a leased kiln slot. (DEDUCED, log 37) -/
def execKilnLoad (c : Nat) (f : IFields) (s : State) : Host.Outcome State Fault Refusal := .next (settle (kilnLoadOp s c f))

/-- KILN_PARAM (R257): Copies a descriptor into a kiln slot's parameter block. -/
def execKilnParam (c : Nat) (f : IFields) (s : State) : Host.Outcome State Fault Refusal := .next (kilnParamOp s c f)

end Sys2Proof.Machine
end

