-- ==== Sys2Proof/Machine/RegRows.lean ====
section
/-! DEFINITION. The commands that are register accesses (17 and the registers of every chapter): a write of one register with the bit that the
command names, a write by offset, and a read. -/

namespace Sys2Proof.Machine

open Sys2Proof

/-- A value with fields forced to what a command names. (DESIGN CHOICE, log 6) -/
def forceFlds (v : W32) (l : List (Fld × Nat)) : W32 :=
  BitVec.ofNat 32 (l.foldl (fun n (x : Fld × Nat) => setBits n x.1.lo x.1.w x.2) v.toNat)

/-- A write by a requester on a path, answered on the register channel with zero (R696). -/
def regWriteAt (s : State) (a : Acc) (off : Nat) (v : W32) : State :=
  if regReach s a.path off = 0 then s
  else
    let t := settle (regWrite s a off v)
    if a.path = 0 then { t with rgAns := some (0, 0) } else t

/-- A write of entry (i, j) of a register with fields forced; an entry that does not exist is no command. (DESIGN CHOICE, log 6) -/
def rowWrite (s : State) (a : Acc) (r : RegName) (i j : Nat) (l : List (Fld × Nat)) (v : W32) : State :=
  if regAt (regOff r i j) = some (r, i, j) then regWriteAt s a (regOff r i j) (forceFlds v l) else s

/-- A read, with its answer (R9, R696). -/
def regReadAt (s : State) (a : Acc) (off : Nat) : State :=
  if regReach s a.path off = 0 then s
  else
    let r := regRead s a off
    { r.1 with rgAns := some (a.path, r.2) }

/-- REGISTER_WRITE: at a word offset of the window (R18, R19, R665). -/
def execRegisterWrite (a : Acc) (off : Nat) (v : W32) (s : State) : Host.Outcome State Fault Refusal := .next (regWriteAt s a off v)

/-- RC_REGISTER_READ: at a word offset of the window (R9). -/
def execRcRegisterRead (a : Acc) (off : Nat) (s : State) : Host.Outcome State Fault Refusal := .next (regReadAt s a off)

/-- SOFT_CORE_RESET (R597): A write of KEY 0xA5 with CORE set to CLK_RST_CTL from the service domain acts as a pulse on rst_core_n_i. -/
def execSoftCoreReset (a : Acc) (v : W32) (s : State) : Host.Outcome State Fault Refusal := .next (rowWrite s a .CLK_RST_CTL 0 0 [(CLK_RST_CTL.CORE, 1), (CLK_RST_CTL.KEY, 0xA5)] v)

/-- GLB_LOCK_TOPO (R41): A write of 1 to GLB_LOCK.TOPO locks the topology registers unless the flat ID, coordinates or torus roles are invalid. -/
def execGlbLockTopo (a : Acc) (v : W32) (s : State) : Host.Outcome State Fault Refusal := .next (rowWrite s a .GLB_LOCK 0 0 [(GLB_LOCK.TOPO, 1)] v)

/-- GLB_LOCK_TEST (R677): A write of 1 to GLB_LOCK.TEST closes test access until the next power-on reset. -/
def execGlbLockTest (a : Acc) (v : W32) (s : State) : Host.Outcome State Fault Refusal := .next (rowWrite s a .GLB_LOCK 0 0 [(GLB_LOCK.TEST, 1)] v)

/-- GLB_LOCK_I3C (R678): A write of 1 to GLB_LOCK.I3C limits the I3C target to a short list of reads. -/
def execGlbLockI3c (a : Acc) (v : W32) (s : State) : Host.Outcome State Fault Refusal := .next (rowWrite s a .GLB_LOCK 0 0 [(GLB_LOCK.I3C, 1)] v)

/-- PORT_ROLE_WRITE (R31): A write to GLB_PORT_ROLE changes a port's role only while its link is disabled and the role suits the personality. -/
def execPortRoleWrite (a : Acc) (i : Nat) (v : W32) (s : State) : Host.Outcome State Fault Refusal := .next (rowWrite s a .GLB_PORT_ROLE i 0 [] v)

/-- TEN_VIEW_CFG_WRITE (R49): A write to TEN_VIEW_CFG[t] is checked for range and overlap and takes effect at the next course boundary. -/
def execTenViewCfgWrite (a : Acc) (i : Nat) (v : W32) (s : State) : Host.Outcome State Fault Refusal := .next (rowWrite s a .TEN_VIEW_CFG i 0 [] v)

/-- VIEW_ENTRY_WRITE (R52): A write to a tenant-view pool entry is checked and takes effect for translations that begin after it. -/
def execViewEntryWrite (a : Acc) (i : Nat) (v : W32) (s : State) : Host.Outcome State Fault Refusal := .next (rowWrite s a .TEN_VIEW_ENTRY i 0 [] v)

/-- TIM_LOAD (R84): A write of 1 to TIM_CTL.LOAD copies TIM_SET into the counter on the master when its conditions hold, passing pending actions. -/
def execTimLoad (a : Acc) (v : W32) (s : State) : Host.Outcome State Fault Refusal := .next (rowWrite s a .TIM_CTL 0 0 [(TIM_CTL.LOAD, 1)] v)

/-- TIM_FREQ_WRITE (R87): A write of TIM_FREQ.F takes effect at once, clamped, and in HOLDOVER also sets f_int. -/
def execTimFreqWrite (a : Acc) (v : W32) (s : State) : Host.Outcome State Fault Refusal := .next (rowWrite s a .TIM_FREQ 0 0 [] v)

/-- SQ_ENABLE (R120): Setting TEN_SQ_CFG.EN checks the queue and resets its counts. -/
def execSqEnable (a : Acc) (i : Nat) (v : W32) (s : State) : Host.Outcome State Fault Refusal := .next (rowWrite s a .TEN_SQ_CFG i 0 [(TEN_SQ_CFG.EN, 1)] v)

/-- SQ_DISABLE (R139): Clearing TEN_SQ_CFG.EN stops fetch; the queue drains to OFF. -/
def execSqDisable (a : Acc) (i : Nat) (v : W32) (s : State) : Host.Outcome State Fault Refusal := .next (rowWrite s a .TEN_SQ_CFG i 0 [(TEN_SQ_CFG.EN, 0)] v)

/-- SQ_ABORT (R140): A write of 1 to TEN_SQ_CTL.ABORT stops every fetched command and discards unfetched entries. -/
def execSqAbort (a : Acc) (i : Nat) (v : W32) (s : State) : Host.Outcome State Fault Refusal := .next (rowWrite s a .TEN_SQ_CTL i 0 [(TEN_SQ_CTL.ABORT, 1)] v)

/-- CQ_ENABLE (R155): Setting TEN_CQ_CFG.EN checks the ring and resets its counts. -/
def execCqEnable (a : Acc) (i : Nat) (v : W32) (s : State) : Host.Outcome State Fault Refusal := .next (rowWrite s a .TEN_CQ_CFG i 0 [(TEN_CQ_CFG.EN, 1)] v)

/-- CQ_DISABLE (R162): Clearing TEN_CQ_CFG.EN diverts due and held records to the error ring. -/
def execCqDisable (a : Acc) (i : Nat) (v : W32) (s : State) : Host.Outcome State Fault Refusal := .next (rowWrite s a .TEN_CQ_CFG i 0 [(TEN_CQ_CFG.EN, 0)] v)

/-- CTX_CFG_WRITE (R112): A write of TRW_CTX_CFG binds a context at the next course boundary. -/
def execCtxCfgWrite (a : Acc) (i : Nat) (v : W32) (s : State) : Host.Outcome State Fault Refusal := .next (rowWrite s a .TRW_CTX_CFG i 0 [] v)

/-- TAIL_DOORBELL (R122): A tail doorbell write carries the tail count of a submission queue, checked for domain and range. -/
def execTailDoorbell (a : Acc) (i : Nat) (v : W32) (s : State) : Host.Outcome State Fault Refusal := .next (rowWrite s a .TEN_DB (16 * (i / 8) + i % 8) 0 [] v)

/-- HEAD_DOORBELL (R159): A head doorbell write returns completion ring space and lets held records be written. -/
def execHeadDoorbell (a : Acc) (i : Nat) (v : W32) (s : State) : Host.Outcome State Fault Refusal := .next (rowWrite s a .TEN_DB (16 * (i / 8) + 8 + i % 8) 0 [] v)

/-- TRW_CODE_WRITE (R215): A write to TRW_CODE[t] configures a code region, refused if it leaves the window. -/
def execTrwCodeWrite (a : Acc) (i : Nat) (v : W32) (s : State) : Host.Outcome State Fault Refusal := .next (rowWrite s a .TRW_CODE i 0 [] v)

/-- HOD_CFG_WRITE (R259): A write changing a hod's TENANT or EN is a lease change at the next boundary. -/
def execHodCfgWrite (a : Acc) (i : Nat) (v : W32) (s : State) : Host.Outcome State Fault Refusal := .next (rowWrite s a .HOD_CFG i 0 [] v)

/-- HOD_FLOW_RESET (R279): A write of GO to HOD_FLOW_RESET starts resetting every flow with a peer. -/
def execHodFlowReset (a : Acc) (v : W32) (s : State) : Host.Outcome State Fault Refusal := .next (rowWrite s a .HOD_FLOW_RESET 0 0 [(HOD_FLOW_RESET.GO, 1)] v)

/-- HOD_RX_RELEASE (R294): A write of a handle decrements its reference count and releases the buffer at zero. -/
def execHodRxRelease (a : Acc) (v : W32) (s : State) : Host.Outcome State Fault Refusal := .next (rowWrite s a .HOD_RX_RELEASE 0 0 [] v)

/-- RCB_CFG_WRITE (R333): A write to HOD_RCB_CFG invalidates every read-combining entry. -/
def execRcbCfgWrite (a : Acc) (v : W32) (s : State) : Host.Outcome State Fault Refusal := .next (rowWrite s a .HOD_RCB_CFG 0 0 [] v)

/-- BOND_CFG_VALID (R344): Setting BND_BOND_CFG.VALID checks the bond and sets MEMBER and SELF. -/
def execBondCfgValid (a : Acc) (i : Nat) (v : W32) (s : State) : Host.Outcome State Fault Refusal := .next (rowWrite s a .BND_BOND_CFG i 0 [(BND_BOND_CFG.VALID, 1)] v)

/-- BND_SLOT_CFG_WRITE (R348): A write changing a bond slot's lease takes effect at the next boundary. -/
def execBndSlotCfgWrite (a : Acc) (i : Nat) (v : W32) (s : State) : Host.Outcome State Fault Refusal := .next (rowWrite s a .BND_SLOT_CFG i 0 [] v)

/-- BND_SLOT_STORE_WRITE (R350): A write of a slot's store share is refused if busy or over the available store. -/
def execBndSlotStoreWrite (a : Acc) (i : Nat) (v : W32) (s : State) : Host.Outcome State Fault Refusal := .next (rowWrite s a .BND_SLOT_STORE i 0 [] v)

/-- KLN_SLOT_CFG_WRITE (R434): A write changing a kiln slot's lease takes effect at the next boundary. -/
def execKlnSlotCfgWrite (a : Acc) (i : Nat) (v : W32) (s : State) : Host.Outcome State Fault Refusal := .next (rowWrite s a .KLN_SLOT_CFG i 0 [] v)

/-- RESTORE (R523): A write of 1 to CIR_PALLET RESTORE returns the pallet to PRIMARY at the next boundary. -/
def execRestore (a : Acc) (i : Nat) (v : W32) (s : State) : Host.Outcome State Fault Refusal := .next (rowWrite s a .CIR_PALLET_PORTS i 0 [(CIR_PALLET_PORTS.RESTORE, 1)] v)

/-- CIR_NOTICE (R522): A notice written to CIR_NOTICE is kept for the source's next boundary. -/
def execCirNotice (a : Acc) (v : W32) (s : State) : Host.Outcome State Fault Refusal := .next (rowWrite s a .CIR_NOTICE 0 0 [] v)

/-- LINK_ENABLE (R466): Setting LNK_CTL.EN with a role and locked topology moves the port from DISABLED to DETECT. -/
def execLinkEnable (a : Acc) (i : Nat) (v : W32) (s : State) : Host.Outcome State Fault Refusal := .next (rowWrite s a .LNK_CTL i 0 [(LNK_CTL.EN, 1)] v)

/-- LINK_DISABLE (R625): Clearing LNK_CTL.EN sends DOWN_NOTICE if ACTIVE and puts the port in DISABLED. -/
def execLinkDisable (a : Acc) (i : Nat) (v : W32) (s : State) : Host.Outcome State Fault Refusal := .next (rowWrite s a .LNK_CTL i 0 [(LNK_CTL.EN, 0)] v)

/-- LNK_RETRAIN (R475): A write of 1 to LNK_CTL.RETRAIN requests a retrain. -/
def execLnkRetrain (a : Acc) (i : Nat) (v : W32) (s : State) : Host.Outcome State Fault Refusal := .next (rowWrite s a .LNK_CTL i 0 [(LNK_CTL.RETRAIN, 1)] v)

/-- LNK_WIDEN (R474): A write of 1 to LNK_CTL.WIDEN requests the largest allowed width. -/
def execLnkWiden (a : Acc) (i : Nat) (v : W32) (s : State) : Host.Outcome State Fault Refusal := .next (rowWrite s a .LNK_CTL i 0 [(LNK_CTL.WIDEN, 1)] v)

/-- LNK_RESYNC (R465): A write of 1 to LNK_CTL.RESYNC starts a resync of the transmit direction. -/
def execLnkResync (a : Acc) (i : Nat) (v : W32) (s : State) : Host.Outcome State Fault Refusal := .next (rowWrite s a .LNK_CTL i 0 [(LNK_CTL.RESYNC, 1)] v)

/-- LNK_RETRY (R468): A write of 1 to LNK_CTL.RETRY leaves HOLD and clears GEN_EXCL. -/
def execLnkRetry (a : Acc) (i : Nat) (v : W32) (s : State) : Host.Outcome State Fault Refusal := .next (rowWrite s a .LNK_CTL i 0 [(LNK_CTL.RETRY, 1)] v)

/-- LNK_FORCE_DOWN (R480): A write of 1 to LNK_CTL.FORCE_DOWN takes the link DOWN with reason FORCED. -/
def execLnkForceDown (a : Acc) (i : Nat) (v : W32) (s : State) : Host.Outcome State Fault Refusal := .next (rowWrite s a .LNK_CTL i 0 [(LNK_CTL.FORCE_DOWN, 1)] v)

/-- LNK_SPARE_GO (R471): A write of GO to LNK_SPARE_CTL requests a spare for the named lane. -/
def execLnkSpareGo (a : Acc) (i : Nat) (v : W32) (s : State) : Host.Outcome State Fault Refusal := .next (rowWrite s a .LNK_SPARE_CTL i 0 [(LNK_SPARE_CTL.GO, 1)] v)

/-- LNK_CFG_WRITE (R528): A write to LNK_CFG clears generations the medium does not permit. -/
def execLnkCfgWrite (a : Acc) (i : Nat) (v : W32) (s : State) : Host.Outcome State Fault Refusal := .next (rowWrite s a .LNK_CFG i 0 [] v)

/-- OPT_PORT_CFG_WRITE (R528): A write of a port's medium clears the generations it does not permit. -/
def execOptPortCfgWrite (a : Acc) (i : Nat) (v : W32) (s : State) : Host.Outcome State Fault Refusal := .next (rowWrite s a .OPT_PORT_CFG i 0 [] v)

/-- LM_DISABLE (R626): Clearing OPT_LM_CFG.EN turns the lasers off and moves the module to ABSENT. -/
def execLmDisable (a : Acc) (i : Nat) (v : W32) (s : State) : Host.Outcome State Fault Refusal := .next (rowWrite s a .OPT_LM_CFG i 0 [(OPT_LM_CFG.EN, 0)] v)

/-- LM_CMD (R541): A write of GO to OPT_LM_CMD starts a single CMIS byte access on the module bus. -/
def execLmCmd (a : Acc) (i : Nat) (v : W32) (s : State) : Host.Outcome State Fault Refusal := .next (rowWrite s a .OPT_LM_CMD i 0 [(OPT_LM_CMD.GO, 1)] v)

/-- RTE_THROTTLE_WRITE (R504): A write to RTE_THROTTLE is refused if LOW is not below HIGH. -/
def execRteThrottleWrite (a : Acc) (v : W32) (s : State) : Host.Outcome State Fault Refusal := .next (rowWrite s a .RTE_THROTTLE 0 0 [] v)

/-- REPORT (R575): SEC_KX_CTL GO with OP REPORT forms and signs an attestation report. -/
def execReport (a : Acc) (v : W32) (s : State) : Host.Outcome State Fault Refusal := .next (rowWrite s a .SEC_KX_CTL 0 0 [(SEC_KX_CTL.GO, 1), (SEC_KX_CTL.OP, 1)] v)

/-- EXCHANGE (R560): SEC_KX_CTL GO with OP EXCHANGE derives KWK[t] by ECDH with XK. -/
def execExchange (a : Acc) (v : W32) (s : State) : Host.Outcome State Fault Refusal := .next (rowWrite s a .SEC_KX_CTL 0 0 [(SEC_KX_CTL.GO, 1), (SEC_KX_CTL.OP, 2)] v)

/-- INSTALL (R561): SEC_KX_CTL GO with OP INSTALL unwraps an epoch key into a free slot. -/
def execInstall (a : Acc) (v : W32) (s : State) : Host.Outcome State Fault Refusal := .next (rowWrite s a .SEC_KX_CTL 0 0 [(SEC_KX_CTL.GO, 1), (SEC_KX_CTL.OP, 3)] v)

/-- CLEAR (R560): SEC_KX_CTL GO with OP CLEAR zeroises KWK[t]. -/
def execClear (a : Acc) (v : W32) (s : State) : Host.Outcome State Fault Refusal := .next (rowWrite s a .SEC_KX_CTL 0 0 [(SEC_KX_CTL.GO, 1), (SEC_KX_CTL.OP, 4)] v)

/-- SEC_TEN_CFG_WRITE (R572): A write to SEC_TEN_CFG sets EN for the next boundary and CONF only while the tenant is inactive. -/
def execSecTenCfgWrite (a : Acc) (i : Nat) (v : W32) (s : State) : Host.Outcome State Fault Refusal := .next (rowWrite s a .SEC_TEN_CFG i 0 [] v)

/-- SWEEP_CMD (R568): A write of GO to SEC_SWEEP_CMD starts re-encrypting a SWEEPING page under a new epoch. -/
def execSweepCmd (a : Acc) (v : W32) (s : State) : Host.Outcome State Fault Refusal := .next (rowWrite s a .SEC_SWEEP_CMD 0 0 [(SEC_SWEEP_CMD.GO, 1)] v)

/-- CCLK_RETURN (R592): A write of 1 to CLK_CCLK_CTL.RETURN moves CCLK back to CPLL when it is locked. -/
def execCclkReturn (a : Acc) (v : W32) (s : State) : Host.Outcome State Fault Refusal := .next (rowWrite s a .CLK_CCLK_CTL 0 0 [(CLK_CCLK_CTL.RETURN, 1)] v)

/-- CLK_OBS_CFG_WRITE (R596): A write of SEL, N or EN changes the observation clock glitch-free. -/
def execClkObsCfgWrite (a : Acc) (v : W32) (s : State) : Host.Outcome State Fault Refusal := .next (rowWrite s a .CLK_OBS_CFG 0 0 [] v)

/-- BOOT_DOOR (R606): A write of 1 to CLK_BOOT_DOOR.GO in WAIT_DOOR starts VERIFY. -/
def execBootDoor (a : Acc) (v : W32) (s : State) : Host.Outcome State Fault Refusal := .next (rowWrite s a .CLK_BOOT_DOOR 0 0 [(CLK_BOOT_DOOR.GO, 1)] v)

/-- STAGE_GO (R614): A write of GO to TRW_STAGE verifies and copies a staged module bundle. -/
def execStageGo (a : Acc) (i : Nat) (v : W32) (s : State) : Host.Outcome State Fault Refusal := .next (rowWrite s a .TRW_STAGE0 i 0 [(TRW_STAGE0.GO, 1)] v)

/-- STAGE_DISCARD (R616): A write of DISCARD zeroises the staged range and frees the slot. -/
def execStageDiscard (a : Acc) (i : Nat) (v : W32) (s : State) : Host.Outcome State Fault Refusal := .next (rowWrite s a .TRW_STAGE1 i 0 [(TRW_STAGE1.DISCARD, 1)] v)

/-- ARM (R648): CTL.ARM clears the buffer and starts recording. -/
def execArm (a : Acc) (i : Nat) (v : W32) (s : State) : Host.Outcome State Fault Refusal := .next (rowWrite s a .OBS_TRC_CTL i 0 [(⟨.OBS_TRC_CTL, 0, 1⟩, 1)] v)

/-- DISARM (R648): CTL.DISARM stops the trace unit. -/
def execDisarm (a : Acc) (i : Nat) (v : W32) (s : State) : Host.Outcome State Fault Refusal := .next (rowWrite s a .OBS_TRC_CTL i 0 [(⟨.OBS_TRC_CTL, 1, 1⟩, 1)] v)

/-- TRIG (R651): CTL.TRIG fires the trigger by hand. -/
def execTrig (a : Acc) (i : Nat) (v : W32) (s : State) : Host.Outcome State Fault Refusal := .next (rowWrite s a .OBS_TRC_CTL i 0 [(⟨.OBS_TRC_CTL, 2, 1⟩, 1)] v)

/-- SNAP (R650): CTL.SNAP freezes the current half under SNAP. -/
def execSnap (a : Acc) (i : Nat) (v : W32) (s : State) : Host.Outcome State Fault Refusal := .next (rowWrite s a .OBS_TRC_CTL i 0 [(⟨.OBS_TRC_CTL, 3, 1⟩, 1)] v)

/-- RELEASE (R650): CTL.RELEASE releases the frozen half. -/
def execRelease (a : Acc) (i : Nat) (v : W32) (s : State) : Host.Outcome State Fault Refusal := .next (rowWrite s a .OBS_TRC_CTL i 0 [(⟨.OBS_TRC_CTL, 4, 1⟩, 1)] v)

/-- HALT (R657): OBS_DBG_CTL CMD HALT halts the context before its next instruction. -/
def execHalt (a : Acc) (v : W32) (s : State) : Host.Outcome State Fault Refusal := .next (rowWrite s a .OBS_DBG_CTL 0 0 [(OBS_DBG_CTL.CMD, 1)] v)

/-- RESUME (R657): OBS_DBG_CTL CMD RESUME returns the halted context to RUN. -/
def execResume (a : Acc) (v : W32) (s : State) : Host.Outcome State Fault Refusal := .next (rowWrite s a .OBS_DBG_CTL 0 0 [(OBS_DBG_CTL.CMD, 2)] v)

/-- STEP (R657): OBS_DBG_CTL CMD STEP issues one instruction and halts again. -/
def execStep (a : Acc) (v : W32) (s : State) : Host.Outcome State Fault Refusal := .next (rowWrite s a .OBS_DBG_CTL 0 0 [(OBS_DBG_CTL.CMD, 3)] v)

/-- DBG_REG_WRITE (R658): A write to OBS_DBG_REG changes a halted, drained context's register. -/
def execDbgRegWrite (a : Acc) (i : Nat) (v : W32) (s : State) : Host.Outcome State Fault Refusal := .next (rowWrite s a .OBS_DBG_REG i 0 [] v)

/-- FLT_PEND_CLEAR (R661): A write of 1 to a FLT_PEND bit clears the pending source. -/
def execFltPendClear (a : Acc) (i : Nat) (v : W32) (s : State) : Host.Outcome State Fault Refusal := .next (rowWrite s a .FLT_PEND (i / 32) 0 [(⟨.FLT_PEND, i % 32, 1⟩, 1)] v)

/-- FLT_FIRST_CLEAR (R664): A write of 1 to FLT_FIRST.VALID clears VALID and OVERFLOW. -/
def execFltFirstClear (a : Acc) (v : W32) (s : State) : Host.Outcome State Fault Refusal := .next (rowWrite s a .FLT_FIRST 0 0 [(FLT_FIRST.VALID, 1)] v)

/-- FLT_SEV_WRITE (R662): A write of a fault source's severity may change the presentation. -/
def execFltSevWrite (a : Acc) (i : Nat) (v : W32) (s : State) : Host.Outcome State Fault Refusal := .next (rowWrite s a .FLT_SEV i 0 [] v)

/-- FLT_SW_RAISE (R660): A write to FLT_SW_RAISE raises a SOFT fault source. -/
def execFltSwRaise (a : Acc) (v : W32) (s : State) : Host.Outcome State Fault Refusal := .next (rowWrite s a .FLT_SW_RAISE 0 0 [] v)

/-- ROUTE_COMMIT (R490): A write to RTE_TBL_DATA[3] commits a shadow route entry, unless refused. -/
def execRouteCommit (a : Acc) (v : W32) (s : State) : Host.Outcome State Fault Refusal := .next (rowWrite s a .RTE_TBL_DATA 3 0 [] v)

/-- MC_COMMIT (R507): A write to RTE_MC_DATA[10] commits a multicast entry, unless refused. -/
def execMcCommit (a : Acc) (v : W32) (s : State) : Host.Outcome State Fault Refusal := .next (rowWrite s a .RTE_MC_DATA 10 0 [] v)

/-- LNK_CREDIT_CFG_WRITE (R461): A write of advertised credits is refused outside DISABLED or beyond the limits. -/
def execLnkCreditCfgWrite (a : Acc) (i j : Nat) (v : W32) (s : State) : Host.Outcome State Fault Refusal := .next (rowWrite s a .LNK_CREDIT_CFG i j [] v)

/-- CIR_SHADOW_WRITE (R525): A write to a CIR_OUT or CIR_IN shadow entry is checked and refused if invalid or a SCHEDULE is pending. -/
def execCirShadowWrite (a : Acc) (out : Bool) (p t : Nat) (v : W32) (s : State) : Host.Outcome State Fault Refusal := .next (rowWrite s a (if out then .CIR_OUT_SHADOW else .CIR_IN_SHADOW) p t [] v)

/-- MAILBOX_CFG_WRITE (R292): A write to mailbox configuration takes effect only while EN is 0 and enabling resets its counts. -/
def execMailboxCfgWrite (a : Acc) (r : RegName) (i j : Nat) (v : W32) (s : State) : Host.Outcome State Fault Refusal := .next (if [RegName.HOD_MBOX_ADDR, RegName.HOD_MBOX_RING_LO, RegName.HOD_MBOX_RING_HI, RegName.HOD_MBOX_CFG].contains r then rowWrite s a r i j [] v else s)

/-- BOND_ENTRY_WRITE (R343): A write to a bond entry or member entry is refused while the bond runs. -/
def execBondEntryWrite (a : Acc) (r : RegName) (i j : Nat) (v : W32) (s : State) : Host.Outcome State Fault Refusal := .next (if [RegName.BND_BOND_CFG, RegName.BND_BOND_MEM, RegName.BND_BOND_EPOCH, RegName.BND_BOND_BOX, RegName.BND_BOND_TREE, RegName.BND_MEMBER].contains r then rowWrite s a r i j [] v else s)

/-- CIR_PALLET_WRITE (R513): A write changing a pallet's TENANT or EN at its source is a lease change at the next boundary. -/
def execCirPalletWrite (a : Acc) (r : RegName) (i j : Nat) (v : W32) (s : State) : Host.Outcome State Fault Refusal := .next (if [RegName.CIR_PALLET_LEASE, RegName.CIR_PALLET_ENDS, RegName.CIR_PALLET_PORTS].contains r then rowWrite s a r i j [] v else s)

/-- CTR_SELECT_WRITE (R634): A write to OBS_CTR_SEL configures a selectable counter and zeroes it. -/
def execCtrSelectWrite (a : Acc) (r : RegName) (i j : Nat) (v : W32) (s : State) : Host.Outcome State Fault Refusal := .next (if [RegName.OBS_CTR_SEL0, RegName.OBS_CTR_SEL1, RegName.OBS_CTR_SEL2, RegName.OBS_CTR_SEL3, RegName.OBS_CTR_UNIT].contains r then rowWrite s a r i j [] v else s)

/-- SAMPLE_CHANNEL_WRITE (R642): A write enabling a sample channel is refused if the ring lies outside the owner's windows. -/
def execSampleChannelWrite (a : Acc) (r : RegName) (i j : Nat) (v : W32) (s : State) : Host.Outcome State Fault Refusal := .next (if [RegName.OBS_SMP_BASE_LO, RegName.OBS_SMP_BASE_HI, RegName.OBS_SMP_CFG, RegName.OBS_SMP_INT, RegName.OBS_SMP_HEAD].contains r then rowWrite s a r i j [] v else s)

/-- TRACE_CFG_WRITE (R653): A trace configuration write is refused when its filter or trigger targets a confidential tenant. -/
def execTraceCfgWrite (a : Acc) (r : RegName) (i j : Nat) (v : W32) (s : State) : Host.Outcome State Fault Refusal := .next (if [RegName.OBS_TRC_CFG, RegName.OBS_TRC_TAG_VAL, RegName.OBS_TRC_TAG_MASK, RegName.OBS_TRC_PORT_MASK, RegName.OBS_TRC_TRIG].contains r then rowWrite s a r i j [] v else s)

/-- TEN_WIN_WRITE (R547): A window write is checked and takes effect for checks that begin after it. -/
def execTenWinWrite (a : Acc) (r : RegName) (i j : Nat) (v : W32) (s : State) : Host.Outcome State Fault Refusal := .next (if [RegName.TEN_WIN_BASE_LO, RegName.TEN_WIN_BASE_HI, RegName.TEN_WIN_LIMIT_LO, RegName.TEN_WIN_LIMIT_HI].contains r then rowWrite s a r i j [] v else s)

end Sys2Proof.Machine
end

