-- ==== Sys2Proof/Machine/Ports.lean ====
section
/-! DEFINITION. The ports of the block (18): the Turulut port and its inbound channel, the scratchpad controller (07), the buffer pool port,
the I3C target, the test access port, and the temperature sensors (17). -/

namespace Sys2Proof.Machine

open Sys2Proof

/-! ### Turulut requests and responses (R685 to R694) -/

/-- The tag of the instruction, packet or operation for which an access is made. -/
def txnTag (s : State) (t : Txn) : Nat :=
  match watchWho s t with
  | some (_, g) => g
  | none => match t.why with
    | .pktRd _ _ _ p => p.tag
    | .tag _ p => p.tag
    | .merge _ p _ => p.tag
    | _ => 0

/-- The Turulut port may carry a request: CORE runs and no quiet interval is under way (R694, R699). -/
def tuOpen (s : State) : Bool := coreRuns s && !(isSw s) && s.clk.quiesce.isNone

/-- TU_REQUEST_ACCEPT: the next beat of a channel transfers. A request of two beats is under way after its first (R688, R689). (DEDUCED, log 114) -/
def tuAccept (s : State) (ch : Nat) : State :=
  if !(tuOpen s) || 32 ≤ ch then s
  else
    match channelNext s ch, freeTag s ch with
    | some (id, k, p), some g =>
      let st : PartSt := if tuGen2 s || p.st = .beat then .sent ch g else .beat
      settle (updTxn s id (fun t => setPart t k (fun x => { x with st := st })))
    | _, _ => s

/-- The access and part that hold a tag of a channel. -/
def tuHolder (s : State) (ch tag : Nat) : Option (Txn × Nat × Part) :=
  s.xf.txns.findSome? (fun t =>
    match t.parts.zipIdx.find? (fun x => x.1.st == .sent ch tag) with
    | some (p, k) => some (t, k, p)
    | none => none)

/-- A response kind that fits an access (Table - Turulut response kinds). -/
def kindFits (o : MemOp) (kind : Nat) : Bool :=
  kind == 3 || (match o with | .rd => kind == 0 | .wr => kind == 1 | .atom _ _ _ _ => kind == 2)

/-- Bytes read and written through the port, for the counters of R632, R634 and R638. (DEDUCED, log 114) -/
def tuCount (s : State) (t : Txn) (n : Nat) : State :=
  let tag := txnTag s t
  let rd (x : State) : State := census (count (x.addPair .OBS_TU_RD n) 0x0D 255 255 (some t.ten) (some tag) (0, 0) n) 32 t.ten tag n
  let wr (x : State) : State := census (count (x.addPair .OBS_TU_WR n) 0x0E 255 255 (some t.ten) (some tag) (0, 0) n) 33 t.ten tag n
  match t.op with
  | .rd => rd s
  | .wr => wr s
  | .atom _ _ _ _ => wr (rd s)

/-- A part of an access has ended; the access ends with its last part. -/
def partEnd (s : State) (t : Txn) (k : Nat) (d : List Byte) (refused : Bool) : State :=
  let t1 := setPart t k (fun x => { x with st := if refused then .refused else .done, data := match t.op with | .wr => x.data | _ => (d ++ List.replicate x.len 0).take x.len })
  let s1 := updTxn s t.id (fun _ => t1)
  settle (if txnDone t1 then txnFinish s1 t1 else s1)

/-- TU_RESPONSE: DATA brings the whole brick, ATOM the old value in its first bytes. (DEDUCED, log 115) -/
def tuResponse (s : State) (ch tag kind : Nat) (data : List Byte) : State :=
  if !(coreRuns s) || isSw s then s
  else if s.clk.quiesce.isSome then { s with clk := { s.clk with quiesce := some s.clk.cclk } }
  else
    match tuHolder s ch tag with
    | none => raise s 9
    | some (t, k, p) =>
      if !(kindFits t.op kind) then raise s 9
      else if kind = 3 then partEnd s t k [] true
      else partEnd (tuCount s t p.len) t k (if kind = 0 then data.drop (p.addr % 128) else data) false

/-- TU_RESET_QUIESCE: 64 cycles in which no response arrived end the wait after a reset (R694). (DEDUCED, log 115) -/
def tuQuiesce (s : State) : State :=
  match s.clk.quiesce with
  | some n => if coreRuns s && n + 64 ≤ s.clk.cclk then settle { s with clk := { s.clk with quiesce := none } } else s
  | none => s

/-! ### The scratchpad controller (R336 to R339, R682) -/

/-- Accesses of the window whose next brick lies in bank b. -/
def bankWaits (s : State) (b : Nat) : List (Txn × Nat × Part) :=
  s.xf.txns.filterMap (fun t =>
    if t.space != 1 then none
    else match readyPart s t with
      | some (k, p) => if p.addr / 128 % 64 == b then some (t, k, p) else none
      | none => none)

/-- One brick of an access is performed on the window. -/
def spwPerform (s : State) (t : Txn) (k : Nat) (p : Part) : State :=
  let old := spwRead s p.addr p.len
  let tag := txnTag s t
  let rd (x : State) : State := census x 34 t.ten tag p.len
  let wr (x : State) : State := census x 35 t.ten tag p.len
  match t.op with
  | .rd => partEnd (rd s) t k old false
  | .wr => partEnd (wr (spwWrite s p.addr p.data)) t k [] false
  | .atom op w a c => partEnd (wr (rd (spwWrite s p.addr (leBytes p.len (atomNew op (if w then 128 else 64) (ofLe old) a c))))) t k old false

/-- SCRATCHPAD_GRANT of bank b: the arbiter of R337 over the requesters, then the oldest access of the one chosen (R338). -/
def spwGrant (s : State) (b : Nat) : State :=
  if !(coreRuns s) || 64 ≤ b then s
  else
    match arbPick s 4 ((bankWaits s b).map (fun x => x.1.req)) with
    | none => s
    | some r =>
      match (bankWaits s b).find? (fun x => x.1.req == r) with
      | some (t, k, p) => spwPerform s t k p
      | none => s

/-! ### Host inbound accesses (R605, R615, R695) -/

/-- Runs of set bits of a byte mask over 128 bytes, as offset and length, from byte a on. -/
def maskRuns (m : Nat) : Nat → Nat → List (Nat × Nat)
  | 0, _ => []
  | n + 1, a =>
    if !(m.testBit a) then maskRuns m n (a + 1)
    else
      match maskRuns m n (a + 1) with
      | (b, k) :: r => if b = a + 1 then (a, k + 1) :: r else (a, 1) :: (b, k) :: r
      | [] => [(a, 1)]

/-- The operation of an inbound request: READ 1, WRITE 2, ATOMIC 3 with its control word in the first data bytes; none for a reserved one. (DEDUCED, log 117) -/
def inboundOp (op : Nat) (data : List Byte) : Option MemOp :=
  match op with
  | 1 => some .rd
  | 2 => some .wr
  | 3 =>
    let c := leAt data 0 8
    let w := bit c 4
    let n := if w then 16 else 8
    if 10 ≤ c % 16 then none else some (.atom (c % 16) w (leAt data 8 n) (leAt data (8 + n) n))
  | _ => none

/-- The checks of R695 in order. -/
def inboundOk (s : State) (o : MemOp) (dom off : Nat) (runs : List (Nat × Nat)) : Bool :=
  let perm := match o with | .rd => 0 | .wr => 1 | .atom _ _ _ _ => 2
  let ph := bootPhase s
  (if ph = phWaitDoor then isWrite o && off + 128 ≤ bootWin else ph = phFirmware) && off < spwSize && dom ≤ serviceDom &&
  (dom == serviceDom || (dom < 512 && runs.all (fun (r : Nat × Nat) => winOk s dom 1 (off + r.1) r.2 perm false)))

/-- An inbound request is accepted: an error is answered at once, the rest waits for the scratchpad controller. A protected range keeps its
bytes (R615). (DEDUCED, log 92; DEDUCED, log 117) -/
def inboundRequest (s : State) (op tag dom brick mask : Nat) (data : List Byte) : State :=
  if !(coreRuns s) || isSw s then s
  else
    let off := brick * 128
    let runs := maskRuns mask 128 0
    match inboundOp op data with
    | none => inboundRsp s tag 3 []
    | some o =>
      if !(inboundOk s o dom off runs) then inboundRsp s tag 3 []
      else
        let prot := (match o with | .rd => false | _ => true) && runs.any (fun (r : Nat × Nat) => spwProtected s (off + r.1) r.2)
        let s1 := if prot then s.put TRW_STAGE1.WR_ERR 1 0 else s
        let o1 : MemOp := match o with | .atom _ w _ _ => if prot then .atom 8 w 0 0 else o | _ => o
        let width := match o with | .atom _ w _ _ => (if w then 16 else 8) | _ => 128
        let parts : List Part := match o1 with
          | .rd => runs.map (fun (r : Nat × Nat) => ⟨off + r.1, r.2, [], .waiting⟩)
          | .wr => runs.map (fun (r : Nat × Nat) => ⟨off + r.1, r.2, (data.drop r.1).take r.2, .waiting⟩)
          | .atom _ _ _ _ => [⟨off + (runs.head?.map (fun (r : Nat × Nat) => r.1)).getD 0 / width * width, width, [], .waiting⟩]
        if (prot && isWrite o) || parts.isEmpty then inboundRsp s1 tag (match o with | .rd => 0 | .wr => 1 | _ => 2) []
        else
          let r := newTxn s1 1 o1 3 off 0 [] (.inbound tag) [] [] none dom
          settle (updTxn r.1 r.2 (fun t => { t with parts := parts }))

/-! ### The buffer pool port (R290, R291, R700 to R702) -/

def updBpm (s : State) (id : Nat) (f : BpmReq → Option BpmReq) : State :=
  { s with xf := { s.xf with bpm := s.xf.bpm.filterMap (fun r => if r.id == id && r.at?.isSome then f r else some r) } }

/-- BPM_REQUEST_HANDSHAKE: the oldest request that waits transfers, under an id that no request without an answer holds. (DEDUCED, log 118) -/
def bpmRequest (s : State) : State :=
  if !(coreRuns s) || isSw s then s
  else
    match s.xf.bpm.find? (fun r => r.at?.isNone), (List.range 256).find? (fun i => !(s.xf.bpm.any (fun r => r.at?.isSome && r.id == i))) with
    | some r, some i => { s with xf := { s.xf with bpm := s.xf.bpm.map (fun x => if x == r then { r with id := i, at? := some s.clk.cclk } else x) } }
    | _, _ => s

/-- BPM_ANSWER (R701). (DEDUCED, log 118) -/
def bpmAnswer (s : State) (id : Nat) (grant : Bool) (addr : Nat) : State :=
  if !(coreRuns s) || isSw s then s
  else
    match s.xf.bpm.find? (fun r => r.at?.isSome && r.id == id) with
    | none => raise s 6
    | some r =>
      let s1 := updBpm s id (fun _ => none)
      let back (x : State) : State := { x with xf := { x.xf with bpmRel := x.xf.bpmRel ++ [(r.pool, r.ten, addr)] } }
      if grant && addr % poolSize r.pool != 0 then settle (if r.late then raise s1 6 else bpmResult (raise s1 6) r.msg r.pool none)
      else if r.late || (msgById s r.msg).isNone then (if grant then back s1 else s1)
      else settle (bpmResult s1 r.msg r.pool (if grant then some addr else none))

/-- BPM_TIMEOUT (R291): a request unanswered for 4096 cycles counts as refused; its answer is still awaited. -/
def bpmTimeout (s : State) (id : Nat) : State :=
  match s.xf.bpm.find? (fun r => r.at?.isSome && r.id == id) with
  | none => s
  | some r =>
    match r.at? with
    | none => s
    | some t =>
      if r.late || !(coreRuns s) || s.clk.cclk < t + 4096 then s
      else settle (bpmResult (raise (updBpm s id (fun x => some { x with late := true })) 6) r.msg r.pool none)

/-! ### The I3C target (R678, R712, R713) -/

def putI3c (s : State) (x : I3c) : State := { s with i3c := x }

/-- The data words of a private write from an offset on. -/
def i3cWords : Nat → State → Bool → Nat → List Byte → State
  | 0, s, _, _, _ => s
  | n + 1, s, boot, off, d =>
    if d.length < 4 then putI3c s { s.i3c with off := off, boot := boot }
    else
      let s1 :=
        if boot then
          if bootPhase s = phWaitDoor then (if off + 4 ≤ bootWin then spwWrite s off (d.take 4) else s)
          else accErr s ⟨3, serviceDom, off, true, true⟩ GLB_ACCESS_ERR.BUSY
        else settle (regWrite s ⟨3, serviceDom⟩ off (BitVec.ofNat 32 (leAt d 0 4)))
      i3cWords n s1 boot ((off + 4) % regSize) (d.drop 4)

/-- I3C_PRIVATE_WRITE: the address word, then 4-byte accesses; at most 1028 bytes. (DEDUCED, log 119) -/
def i3cWrite (s : State) (bytes : List Byte) : State :=
  if s.i3c.addr.isNone || s.clk.por || bytes.length < 4 then s
  else
    let d := bytes.take 1028
    let w := leAt d 0 4
    i3cWords 258 s (bit w 31) (bits w 2 22 * 4) (d.drop 4)

/-- The words of a private read from an offset on. What the boot window reads as is not stated: free values. -/
def i3cReadRun : Nat → State → Bool → Nat → State × List Byte
  | 0, s, _, _ => (s, [])
  | n + 1, s, boot, off =>
    let r : State × List Byte :=
      if boot then (let x := freeBytes s 4; (x.2, x.1))
      else (let x := regRead s ⟨3, serviceDom⟩ off; (x.1, leBytes 4 x.2.toNat))
    let z := i3cReadRun n r.1 boot ((off + 4) % regSize)
    (z.1, r.2 ++ z.2)

/-- I3C_PRIVATE_READ of n bytes, at most 1028. (DEDUCED, log 119) -/
def i3cRead (s : State) (n : Nat) : State :=
  if s.i3c.addr.isNone || s.clk.por then s
  else
    let k := Nat.min n 1028
    let r := i3cReadRun (ceilDiv k 4) s s.i3c.boot s.i3c.off
    putI3c r.1 { r.1.i3c with last := r.2.take k }

/-- The provisional ID (R712), most significant byte first. (PRESUMED, log 120) -/
def i3cPid (s : State) : List Byte :=
  let m := match s.tie with | some t => t.i3cMfr | none => 0
  let i := match s.tie with | some t => t.i3cInst | none => 0
  (leBytes 6 (m % 2 ^ 15 * 2 ^ 33 + 0x4E32 * 2 ^ 16 + i % 16 * 2 ^ 12 + 3)).reverse

/-- A common command code that answers bytes: only a target with a dynamic address takes it. (DEDUCED, log 119) -/
def i3cAnswer (s : State) (d : List Byte) : State :=
  if s.i3c.addr.isNone || s.clk.por then s else putI3c s { s.i3c with last := d }

/-! ### The test access port (R597, R677, R714, R715) -/

def putTap (s : State) (t : Tap) : State := { s with tap := t }

/-- The identification register. (DEDUCED, log 15) -/
def tapIdcode (s : State) : Nat :=
  3 * 2 ^ 28 + 0x4E32 * 2 ^ 12 + (match s.tie with | some t => t.jtagMfr | none => 0) % 2 ^ 11 * 2 + 1

/-- An instruction that selects a data register and drives the pins from the block. -/
def tapSelect (s : State) (ir drive : Nat) : State := putTap s { s.tap with ir := ir, drive := drive }

/-- Zeroises CS with the keys that derive from it, and every session key (R715). (DEDUCED, log 122) -/
def zeroiseKeys (s : State) : State :=
  let s1 := s.sec.ek.foldl (fun acc (x : Nat × List Byte) => acc.put SEC_TEN_CFG.KEYED 0 (x.1 / 2)) s
  { s1 with sec := { s1.sec with cs := none, kwk := [], ek := [] } }

/-- A load of WIR or WDR: with test access closed it acts as BYPASS; the first one of all zeroises the keys and raises SECURITY. (PRESUMED, log 121) -/
def tapLoad (s : State) (ir : Nat) (f : Tap → Tap) : State :=
  if s.on GLB_LOCK.TEST then tapSelect s 0xFF 0
  else
    let s1 := if s.tap.opened then s else raise (zeroiseKeys s) 4
    putTap s1 { f s1.tap with ir := ir, drive := 0, opened := true }

/-! ### Temperature (R680, R681) -/

/-- TEMP_MEASURE: sensor k reads a temperature in units of 0.125 degrees. -/
def tempMeasure (s : State) (k : Nat) (temp : BitVec 12) : State :=
  if 8 ≤ k || s.clk.por || s.clk.core then s
  else
    let s1 := (s.put GLB_TEMP.TEMP temp.toNat k).put GLB_TEMP.VALID 1 k
    let hot := s.get GLB_TEMP_STATUS.HOT
    if sgn 12 (s.get GLB_TEMP_CFG.HIGH) ≤ temp.toInt then
      (s1.put GLB_TEMP_STATUS.HOT (maskSet hot k)).put GLB_TEMP_STATUS.OVER (maskSet (s.get GLB_TEMP_STATUS.OVER) k)
    else s1.put GLB_TEMP_STATUS.HOT (maskClr hot k)

/-! ### Meanings -/

/-- TU_REQUEST_ACCEPT (R689). -/
def execTuRequestAccept (ch : Nat) (s : State) : Host.Outcome State Fault Refusal := .next (tuAccept s ch)

/-- TU_RESPONSE (R691). -/
def execTuResponse (ch tag kind : Nat) (data : List Byte) (s : State) : Host.Outcome State Fault Refusal := .next (tuResponse s ch tag kind data)

/-- TU_RESET_QUIESCE (R694). -/
def execTuResetQuiesce (s : State) : Host.Outcome State Fault Refusal := .next (tuQuiesce s)

/-- TU_INBOUND_REQUEST (R695). -/
def execTuInboundRequest (op tag dom brick mask : Nat) (data : List Byte) (s : State) : Host.Outcome State Fault Refusal :=
  .next (inboundRequest s op tag dom brick mask data)

/-- INBOUND_RESPONSE_HANDSHAKE (R695): the oldest response transfers. -/
def execInboundResponseHandshake (s : State) : Host.Outcome State Fault Refusal :=
  .next (if coreRuns s then { s with xf := { s.xf with inbound := s.xf.inbound.drop 1 } } else s)

/-- SCRATCHPAD_GRANT (R337). -/
def execScratchpadGrant (b : Nat) (s : State) : Host.Outcome State Fault Refusal := .next (spwGrant s b)

/-- BPM_REQUEST_HANDSHAKE (R700). -/
def execBpmRequestHandshake (s : State) : Host.Outcome State Fault Refusal := .next (bpmRequest s)

/-- BPM_RELEASE_HANDSHAKE (R702): the oldest release transfers. -/
def execBpmReleaseHandshake (s : State) : Host.Outcome State Fault Refusal :=
  .next (if coreRuns s && !(isSw s) then { s with xf := { s.xf with bpmRel := s.xf.bpmRel.drop 1 } } else s)

/-- BPM_ANSWER (R701). -/
def execBpmAnswer (id : Nat) (grant : Bool) (addr : Nat) (s : State) : Host.Outcome State Fault Refusal := .next (bpmAnswer s id grant addr)

/-- BPM_TIMEOUT (R291). -/
def execBpmTimeout (id : Nat) (s : State) : Host.Outcome State Fault Refusal := .next (bpmTimeout s id)

/-- I3C_PRIVATE_WRITE (R713). -/
def execI3cPrivateWrite (bytes : List Byte) (s : State) : Host.Outcome State Fault Refusal := .next (i3cWrite s bytes)

/-- I3C_PRIVATE_READ (R713). -/
def execI3cPrivateRead (n : Nat) (s : State) : Host.Outcome State Fault Refusal := .next (i3cRead s n)

/-- ENTDAA (R712): a target without a dynamic address takes one. (PRESUMED, log 120) -/
def execEntdaa (addr : Nat) (s : State) : Host.Outcome State Fault Refusal :=
  .next (if s.clk.por || s.i3c.addr.isSome then s else putI3c s { s.i3c with addr := some (addr % 128), last := i3cPid s ++ [0, 0] })

/-- RSTDAA (R712). -/
def execRstdaa (s : State) : Host.Outcome State Fault Refusal := .next (if s.clk.por then s else putI3c s { s.i3c with addr := none })

/-- ENEC (R712): accepted, no effect. -/
def execEnec (s : State) : Host.Outcome State Fault Refusal := .next s

/-- DISEC (R712): accepted, no effect. -/
def execDisec (s : State) : Host.Outcome State Fault Refusal := .next s

/-- GETPID (R712). -/
def execGetpid (s : State) : Host.Outcome State Fault Refusal := .next (i3cAnswer s (i3cPid s))

/-- GETBCR (R712). -/
def execGetbcr (s : State) : Host.Outcome State Fault Refusal := .next (i3cAnswer s [0])

/-- GETDCR (R712). -/
def execGetdcr (s : State) : Host.Outcome State Fault Refusal := .next (i3cAnswer s [0])

/-- GETSTATUS (R712): the two bytes of the answer are not stated: free values. -/
def execGetstatus (s : State) : Host.Outcome State Fault Refusal := .next (i3cAnswer (freeBytes s 2).2 (freeBytes s 2).1)

/-- GETMWL (R712): 1028, most significant byte first. -/
def execGetmwl (s : State) : Host.Outcome State Fault Refusal := .next (i3cAnswer s [4, 4])

/-- GETMRL (R712): 1028. -/
def execGetmrl (s : State) : Host.Outcome State Fault Refusal := .next (i3cAnswer s [4, 4])

/-- JTAG_TRST (R597): the test access logic alone is reset; its instruction becomes IDCODE. (PRESUMED, log 121) -/
def execJtagTrst (s : State) : Host.Outcome State Fault Refusal := .next (putTap s ⟨1, [], 0, 0, [], s.tap.opened, tapIdcode s⟩)

/-- BYPASS (R714). -/
def execBypass (s : State) : Host.Outcome State Fault Refusal := .next (tapSelect s 0xFF 0)

/-- IDCODE (R714). (DEDUCED, log 15) -/
def execIdcode (s : State) : Host.Outcome State Fault Refusal := .next (putTap s { s.tap with ir := 0x01, drive := 0, idr := tapIdcode s })

/-- SAMPLE_PRELOAD (R714): the bits shifted in become the boundary register. (DESIGN CHOICE, log 123) -/
def execSamplePreload (bits : List Byte) (s : State) : Host.Outcome State Fault Refusal := .next (putTap s { s.tap with ir := 0x02, drive := 0, bsr := bits })

/-- EXTEST (R714). (DESIGN CHOICE, log 123) -/
def execExtest (bits : List Byte) (s : State) : Host.Outcome State Fault Refusal := .next (putTap s { s.tap with ir := 0x03, drive := 1, bsr := bits })

/-- CLAMP (R714). -/
def execClamp (s : State) : Host.Outcome State Fault Refusal := .next (tapSelect s 0x04 2)

/-- HIGHZ (R714). -/
def execHighz (s : State) : Host.Outcome State Fault Refusal := .next (tapSelect s 0x05 3)

/-- WIR (R714, R715). -/
def execWir (w : Nat) (s : State) : Host.Outcome State Fault Refusal := .next (tapLoad s 0x10 (fun t => { t with wir := w }))

/-- WDR (R714, R715). -/
def execWdr (bits : List Byte) (s : State) : Host.Outcome State Fault Refusal := .next (tapLoad s 0x11 (fun t => { t with wdr := bits }))

/-- TEMP_MEASURE (R680). -/
def execTempMeasure (k : Nat) (temp : BitVec 12) (s : State) : Host.Outcome State Fault Refusal := .next (tempMeasure s k temp)

end Sys2Proof.Machine
end

