-- ==== Sys2Proof/Machine/Arrive.lean ====
section
/-! DEFINITION. The commands that are arrivals of packets and the timers of flows, messages and bonds (06, 08), one meaning each. -/

namespace Sys2Proof.Machine

open Sys2Proof

/-- A packet of an opcode arrives from port q: the block takes packets in FIRMWARE, while CORE runs (R605, R588). -/
def arriveRow (s : State) (op q : Nat) (p : Packet) : State :=
  if p.op = op && coreRuns s && inService s then settle (arrive s q p (fun t => deliver t q p)) else s

/-- A bond control message of a kind (R361). -/
def ctlRow (s : State) (kind q : Nat) (p : Packet) : State := if leAt p.pay 0 1 = kind then arriveRow s 0x41 q p else s

/-- A timer of the transport or the bond engine acts while CORE runs. -/
def timerRow (s : State) (f : State → State) : State := if coreRuns s then settle (f s) else s

/-- The end of a flow reset (R279). -/
def flowResetDone (s : State) : State :=
  match s.xf.resetPeer with
  | some d => { (flowReset s d).put HOD_FLOW_RESET.BUSY 0 with xf := { (flowReset s d).xf with resetPeer := none } }
  | none => s

/-- PUT_PACKET (R267): An arriving PUT is accepted in flow order, checked and performed, or held or discarded. -/
def execPutPacket (q : Nat) (p : Packet) (s : State) : Host.Outcome State Fault Refusal := .next (arriveRow s 0x10 q p)

/-- GET_REQ (R267): An arriving get request reads the target and sends GET_DATA on VC3. -/
def execGetReq (q : Nat) (p : Packet) (s : State) : Host.Outcome State Fault Refusal := .next (arriveRow s 0x11 q p)

/-- ATOM_REQ (R281): An arriving atomic request is performed at the target and its result cached and returned. -/
def execAtomReq (q : Nat) (p : Packet) (s : State) : Host.Outcome State Fault Refusal := .next (arriveRow s 0x12 q p)

/-- COPY_REQ (R232): An arriving copy request makes the holder send the data on VC2 to the final destination. -/
def execCopyReq (q : Nat) (p : Packet) (s : State) : Host.Outcome State Fault Refusal := .next (arriveRow s 0x13 q p)

/-- MEASURE_REQ (R242): An arriving measured load returns the word and HOPS_OUT. -/
def execMeasureReq (q : Nat) (p : Packet) (s : State) : Host.Outcome State Fault Refusal := .next (arriveRow s 0x14 q p)

/-- PUBLISH_PACKET (R246): An arriving PUBLISH is written once earlier writes of its context are coherent. -/
def execPublishPacket (q : Nat) (p : Packet) (s : State) : Host.Outcome State Fault Refusal := .next (arriveRow s 0x15 q p)

/-- SIGNAL (R231): An arriving signal fetch-adds SIGVAL at SIGADDR as a chip-scope release. -/
def execSignal (q : Nat) (p : Packet) (s : State) : Host.Outcome State Fault Refusal := .next (arriveRow s 0x16 q p)

/-- MMSG (R58): An arriving management message on VC0 is handled by the service firmware. -/
def execMmsg (q : Nat) (p : Packet) (s : State) : Host.Outcome State Fault Refusal := .next (arriveRow s 0x17 q p)

/-- COPY_DATA (R232): Arriving copy data is written and acknowledged to the requester on VC3. -/
def execCopyData (q : Nat) (p : Packet) (s : State) : Host.Outcome State Fault Refusal := .next (arriveRow s 0x20 q p)

/-- PAGE_FWD (R296): A forwarded page-store request is checked and answered to the original requester. -/
def execPageFwd (q : Nat) (p : Packet) (s : State) : Host.Outcome State Fault Refusal := .next (arriveRow s 0x21 q p)

/-- GET_DATA (R274): Arriving get data is written into LADDR and closes the request. -/
def execGetData (q : Nat) (p : Packet) (s : State) : Host.Outcome State Fault Refusal := .next (arriveRow s 0x30 q p)

/-- ATOM_RSP (R240): An arriving atomic result is written to the destination registers. -/
def execAtomRsp (q : Nat) (p : Packet) (s : State) : Host.Outcome State Fault Refusal := .next (arriveRow s 0x31 q p)

/-- MEASURE_RSP (R242): An arriving measurement response writes the value and measurement word. -/
def execMeasureRsp (q : Nat) (p : Packet) (s : State) : Host.Outcome State Fault Refusal := .next (arriveRow s 0x32 q p)

/-- ACK (R269): An arriving acknowledgement releases replay entries and advances coherent and response watermarks. -/
def execAck (q : Nat) (p : Packet) (s : State) : Host.Outcome State Fault Refusal := .next (arriveRow s 0x33 q p)

/-- NACK (R268): An arriving negative acknowledgement covers a packet and raises its status in the operation. -/
def execNack (q : Nat) (p : Packet) (s : State) : Host.Outcome State Fault Refusal := .next (arriveRow s 0x34 q p)

/-- DONE (R276): An arriving DONE closes a copy or forward at the requester. -/
def execDone (q : Nat) (p : Packet) (s : State) : Host.Outcome State Fault Refusal := .next (arriveRow s 0x35 q p)

/-- STEP_DATA (R359): Arriving step data is checked, combined once per block offset and acknowledged. -/
def execStepData (q : Nat) (p : Packet) (s : State) : Host.Outcome State Fault Refusal := .next (arriveRow s 0x40 q p)

/-- GRANT (R356): An arriving GRANT opens a receive window for the sender. -/
def execGrant (q : Nat) (p : Packet) (s : State) : Host.Outcome State Fault Refusal := .next (ctlRow s 1 q p)

/-- STEP_ACK (R358): An arriving step ACK releases the sender's copy of a VC4 packet. -/
def execStepAck (q : Nat) (p : Packet) (s : State) : Host.Outcome State Fault Refusal := .next (ctlRow s 2 q p)

/-- LATE (R389): An arriving LATE is collected by the coordinator, or acknowledged as an answer at a reporter. -/
def execLate (q : Nat) (p : Packet) (s : State) : Host.Outcome State Fault Refusal := .next (ctlRow s 3 q p)

/-- REFORM (R391): An arriving REFORM makes a survivor compact the list, set the new epoch and restart, or an excluded member complete with TIMEOUT. -/
def execReform (q : Nat) (p : Packet) (s : State) : Host.Outcome State Fault Refusal := .next (ctlRow s 4 q p)

/-- STOP (R383): An arriving STOP ends the collective with its status. -/
def execStop (q : Nat) (p : Packet) (s : State) : Host.Outcome State Fault Refusal := .next (ctlRow s 5 q p)

/-- CHECK (R384): An arriving CHECK records the pass or fail of a fast-mode range. -/
def execCheck (q : Nat) (p : Packet) (s : State) : Host.Outcome State Fault Refusal := .next (ctlRow s 6 q p)

/-- ACK_TIMER (R269): An acknowledgement is sent 512 ticks after the oldest unacknowledged in-order packet, or after the coherent watermark passes. -/
def execAckTimer (fl : Nat) (s : State) : Host.Outcome State Fault Refusal := .next (timerRow s (fun t => ackTimer t fl))

/-- REPLAY_TIMEOUT (R271): A replay entry with no acknowledgement after RTO is replayed by re-reading its source. -/
def execReplayTimeout (h fl sq : Nat) (s : State) : Host.Outcome State Fault Refusal := .next (timerRow s (fun t => replayTimeout t h fl sq))

/-- FLOW_RESET_DONE (R279): The flow reset ends and BUSY clears. -/
def execFlowResetDone  (s : State) : Host.Outcome State Fault Refusal := .next (timerRow s flowResetDone)

/-- MC_LEAF_SKIP (R287): A leaf that waited long enough behind a missing multicast number skips it and performs held packets. -/
def execMcLeafSkip (fl : Nat) (s : State) : Host.Outcome State Fault Refusal := .next (timerRow s (fun t => leafSkip t fl))

/-- STEP_RESEND_TIMEOUT (R358): A VC4 packet without an ACK after RTO is sent again. -/
def execStepResendTimeout (s0 k : Nat) (s : State) : Host.Outcome State Fault Refusal := .next (timerRow s (fun t => stepResend t s0 k))

/-- BOND_STEP_TIMEOUT (R386): A step timer expires after STEP_TO courses; under REFORM a LATE is sent. -/
def execBondStepTimeout (s0 : Nat) (s : State) : Host.Outcome State Fault Refusal := .next (timerRow s (fun t => stepTimeout t s0))

/-- LATE_RETRY_TIMEOUT (R388): A reporter without an answer after 2 STEP_TO courses sends LATE to the next coordinator, or repeats to its answered coordinator. -/
def execLateRetryTimeout (s0 : Nat) (s : State) : Host.Outcome State Fault Refusal := .next (timerRow s (fun t => lateRetry t s0))

/-- COORD_COLLECT_END (R389): After one course of collection the coordinator sends REFORM or STOP, or nothing. -/
def execCoordCollectEnd (s0 : Nat) (s : State) : Host.Outcome State Fault Refusal := .next (timerRow s (fun t => collectEnd t s0))

/-- BOND_STEP_COMPLETE (R355): A member completes a step once its packets are acknowledged, received, combined and written. -/
def execBondStepComplete (s0 : Nat) (s : State) : Host.Outcome State Fault Refusal := .next (timerRow s (fun t => bondStep t s0))

end Sys2Proof.Machine
end

