-- ==== Sys2Proof/Machine/KilnRows.lean ====
section
/-! DEFINITION. The commands of the kiln (09): a unit, a drain, and one instruction on a lane, one meaning each. -/

namespace Sys2Proof.Machine

open Sys2Proof

/-- KILN_UNIT (R423, R432): the lane takes its next unit and runs the body. -/
def execKilnUnit (cl ln : Nat) (s : State) : Host.Outcome State Fault Refusal := .next (timerRow s (fun t => kilnUnit t cl ln))

/-- KILN_DRAIN (R424). -/
def execKilnDrain (cl o : Nat) (s : State) : Host.Outcome State Fault Refusal := .next (timerRow s (fun t => kilnDrain t cl o))

/-- KILN_END (R424): Kiln END ends the body or the drain. -/
def execKilnEnd (cl ln : Nat) (k : KFields) (s : State) : Host.Outcome State Fault Refusal := .next (timerRow s (fun t => kilnInstr t cl ln 0x00 k))

/-- KILN_NOP (R427): Kiln NOP. -/
def execKilnNop (cl ln : Nat) (k : KFields) (s : State) : Host.Outcome State Fault Refusal := .next (kilnInstr s cl ln 0x01 k)

/-- KILN_LDI (R427): Loads a sign-extended immediate into each selected element. -/
def execKilnLdi (cl ln : Nat) (k : KFields) (s : State) : Host.Outcome State Fault Refusal := .next (kilnInstr s cl ln 0x02 k)

/-- KILN_BCP (R427): Broadcasts a parameter-block value. -/
def execKilnBcp (cl ln : Nat) (k : KFields) (s : State) : Host.Outcome State Fault Refusal := .next (kilnInstr s cl ln 0x03 k)

/-- KILN_IOTA (R427): Writes element indices. -/
def execKilnIota (cl ln : Nat) (k : KFields) (s : State) : Host.Outcome State Fault Refusal := .next (kilnInstr s cl ln 0x04 k)

/-- KILN_MOV (R427): Copies a vector register. -/
def execKilnMov (cl ln : Nat) (k : KFields) (s : State) : Host.Outcome State Fault Refusal := .next (kilnInstr s cl ln 0x05 k)

/-- KILN_ADD (R427): Wrapping element add. -/
def execKilnAdd (cl ln : Nat) (k : KFields) (s : State) : Host.Outcome State Fault Refusal := .next (kilnInstr s cl ln 0x08 k)

/-- KILN_SUB (R427): Wrapping element subtract. -/
def execKilnSub (cl ln : Nat) (k : KFields) (s : State) : Host.Outcome State Fault Refusal := .next (kilnInstr s cl ln 0x09 k)

/-- KILN_ADDS (R427): Signed saturating add. -/
def execKilnAdds (cl ln : Nat) (k : KFields) (s : State) : Host.Outcome State Fault Refusal := .next (kilnInstr s cl ln 0x0A k)

/-- KILN_SUBS (R427): Signed saturating subtract. -/
def execKilnSubs (cl ln : Nat) (k : KFields) (s : State) : Host.Outcome State Fault Refusal := .next (kilnInstr s cl ln 0x0B k)

/-- KILN_MUL (R427): Low bits of element product. -/
def execKilnMul (cl ln : Nat) (k : KFields) (s : State) : Host.Outcome State Fault Refusal := .next (kilnInstr s cl ln 0x0C k)

/-- KILN_MULH (R427): High bits of signed element product. -/
def execKilnMulh (cl ln : Nat) (k : KFields) (s : State) : Host.Outcome State Fault Refusal := .next (kilnInstr s cl ln 0x0D k)

/-- KILN_MIN (R427): Signed element minimum. -/
def execKilnMin (cl ln : Nat) (k : KFields) (s : State) : Host.Outcome State Fault Refusal := .next (kilnInstr s cl ln 0x0E k)

/-- KILN_MAX (R427): Signed element maximum. -/
def execKilnMax (cl ln : Nat) (k : KFields) (s : State) : Host.Outcome State Fault Refusal := .next (kilnInstr s cl ln 0x0F k)

/-- KILN_AND (R427): Element and. -/
def execKilnAnd (cl ln : Nat) (k : KFields) (s : State) : Host.Outcome State Fault Refusal := .next (kilnInstr s cl ln 0x10 k)

/-- KILN_OR (R427): Element or. -/
def execKilnOr (cl ln : Nat) (k : KFields) (s : State) : Host.Outcome State Fault Refusal := .next (kilnInstr s cl ln 0x11 k)

/-- KILN_XOR (R427): Element xor. -/
def execKilnXor (cl ln : Nat) (k : KFields) (s : State) : Host.Outcome State Fault Refusal := .next (kilnInstr s cl ln 0x12 k)

/-- KILN_ANDN (R427): Element and-not. -/
def execKilnAndn (cl ln : Nat) (k : KFields) (s : State) : Host.Outcome State Fault Refusal := .next (kilnInstr s cl ln 0x13 k)

/-- KILN_SHL (R427): Left shift by AUX. -/
def execKilnShl (cl ln : Nat) (k : KFields) (s : State) : Host.Outcome State Fault Refusal := .next (kilnInstr s cl ln 0x14 k)

/-- KILN_SAR (R427): Arithmetic right shift by AUX. -/
def execKilnSar (cl ln : Nat) (k : KFields) (s : State) : Host.Outcome State Fault Refusal := .next (kilnInstr s cl ln 0x15 k)

/-- KILN_SHR (R427): Logical right shift by AUX. -/
def execKilnShr (cl ln : Nat) (k : KFields) (s : State) : Host.Outcome State Fault Refusal := .next (kilnInstr s cl ln 0x16 k)

/-- KILN_SHLV (R427): Left shift by a vector. -/
def execKilnShlv (cl ln : Nat) (k : KFields) (s : State) : Host.Outcome State Fault Refusal := .next (kilnInstr s cl ln 0x17 k)

/-- KILN_SARV (R427): Arithmetic right shift by a vector. -/
def execKilnSarv (cl ln : Nat) (k : KFields) (s : State) : Host.Outcome State Fault Refusal := .next (kilnInstr s cl ln 0x18 k)

/-- KILN_RSH (R427): Rounded right shift by AUX. -/
def execKilnRsh (cl ln : Nat) (k : KFields) (s : State) : Host.Outcome State Fault Refusal := .next (kilnInstr s cl ln 0x19 k)

/-- KILN_RSHV (R427): Rounded right shift by a vector. -/
def execKilnRshv (cl ln : Nat) (k : KFields) (s : State) : Host.Outcome State Fault Refusal := .next (kilnInstr s cl ln 0x1A k)

/-- KILN_SEL (R427): Selects elements by a mask. -/
def execKilnSel (cl ln : Nat) (k : KFields) (s : State) : Host.Outcome State Fault Refusal := .next (kilnInstr s cl ln 0x1B k)

/-- KILN_WIDEN (R427): Sign-extends half a register to double width. -/
def execKilnWiden (cl ln : Nat) (k : KFields) (s : State) : Host.Outcome State Fault Refusal := .next (kilnInstr s cl ln 0x1C k)

/-- KILN_NARROW (R427): Saturates double-width elements into half a register. -/
def execKilnNarrow (cl ln : Nat) (k : KFields) (s : State) : Host.Outcome State Fault Refusal := .next (kilnInstr s cl ln 0x1D k)

/-- KILN_UNPK4 (R427): Unpacks nibbles to bytes. -/
def execKilnUnpk4 (cl ln : Nat) (k : KFields) (s : State) : Host.Outcome State Fault Refusal := .next (kilnInstr s cl ln 0x1E k)

/-- KILN_PACK4 (R427): Packs bytes to saturated nibbles. -/
def execKilnPack4 (cl ln : Nat) (k : KFields) (s : State) : Host.Outcome State Fault Refusal := .next (kilnInstr s cl ln 0x1F k)

/-- KILN_EXPX (R427): Expands exponent bytes over element groups. -/
def execKilnExpx (cl ln : Nat) (k : KFields) (s : State) : Host.Outcome State Fault Refusal := .next (kilnInstr s cl ln 0x20 k)

/-- KILN_PERM (R427): Permutes elements by an index vector. -/
def execKilnPerm (cl ln : Nat) (k : KFields) (s : State) : Host.Outcome State Fault Refusal := .next (kilnInstr s cl ln 0x21 k)

/-- KILN_GMAX (R427): Group maximum. -/
def execKilnGmax (cl ln : Nat) (k : KFields) (s : State) : Host.Outcome State Fault Refusal := .next (kilnInstr s cl ln 0x22 k)

/-- KILN_GSUM (R427): Group wrapping sum. -/
def execKilnGsum (cl ln : Nat) (k : KFields) (s : State) : Host.Outcome State Fault Refusal := .next (kilnInstr s cl ln 0x23 k)

/-- KILN_CMPEQ (R427): Equality compare into a mask. -/
def execKilnCmpeq (cl ln : Nat) (k : KFields) (s : State) : Host.Outcome State Fault Refusal := .next (kilnInstr s cl ln 0x28 k)

/-- KILN_CMPLT (R427): Signed less-than compare into a mask. -/
def execKilnCmplt (cl ln : Nat) (k : KFields) (s : State) : Host.Outcome State Fault Refusal := .next (kilnInstr s cl ln 0x29 k)

/-- KILN_CMPLE (R427): Signed less-or-equal compare into a mask. -/
def execKilnCmple (cl ln : Nat) (k : KFields) (s : State) : Host.Outcome State Fault Refusal := .next (kilnInstr s cl ln 0x2A k)

/-- KILN_CMPLTU (R427): Unsigned less-than compare into a mask. -/
def execKilnCmpltu (cl ln : Nat) (k : KFields) (s : State) : Host.Outcome State Fault Refusal := .next (kilnInstr s cl ln 0x2B k)

/-- KILN_KAND (R427): Mask and. -/
def execKilnKand (cl ln : Nat) (k : KFields) (s : State) : Host.Outcome State Fault Refusal := .next (kilnInstr s cl ln 0x2C k)

/-- KILN_KOR (R427): Mask or. -/
def execKilnKor (cl ln : Nat) (k : KFields) (s : State) : Host.Outcome State Fault Refusal := .next (kilnInstr s cl ln 0x2D k)

/-- KILN_KNOT (R427): Mask not. -/
def execKilnKnot (cl ln : Nat) (k : KFields) (s : State) : Host.Outcome State Fault Refusal := .next (kilnInstr s cl ln 0x2E k)

/-- KILN_TOPM (R427): Marks the AUX largest elements by exact value. -/
def execKilnTopm (cl ln : Nat) (k : KFields) (s : State) : Host.Outcome State Fault Refusal := .next (kilnInstr s cl ln 0x2F k)

/-- KILN_EMIT (R427): Appends bytes of a register to the output. -/
def execKilnEmit (cl ln : Nat) (k : KFields) (s : State) : Host.Outcome State Fault Refusal := .next (kilnInstr s cl ln 0x30 k)

/-- KILN_EMITM (R427): Appends masked elements to the output. -/
def execKilnEmitm (cl ln : Nat) (k : KFields) (s : State) : Host.Outcome State Fault Refusal := .next (kilnInstr s cl ln 0x31 k)

/-- KILN_EMITK (R427): Appends top-k candidate records for masked elements. -/
def execKilnEmitk (cl ln : Nat) (k : KFields) (s : State) : Host.Outcome State Fault Refusal := .next (kilnInstr s cl ln 0x32 k)

/-- KILN_PACKZ (R427): Appends a zero map and the non-zero bytes. -/
def execKilnPackz (cl ln : Nat) (k : KFields) (s : State) : Host.Outcome State Fault Refusal := .next (kilnInstr s cl ln 0x33 k)

/-- KILN_LDS (R429): Loads 256 bytes of side input. -/
def execKilnLds (cl ln : Nat) (k : KFields) (s : State) : Host.Outcome State Fault Refusal := .next (timerRow s (fun t => kilnInstr t cl ln 0x34 k))

end Sys2Proof.Machine
end

