-- ==== Sys2Proof/Machine/Boundary.lean ====
section
/-! DEFINITION. The course boundary with its actions in order (R106, R720), and the at-time actions that wait for no
boundary (R99). -/

namespace Sys2Proof.Machine

open Sys2Proof

/-- The counter has reached the fire time of an action (R99). -/
def actDue (s : State) (x : AtAction) : Bool := x.t ≤ now s

/-- Pending actions of a kind that are due, in the order of their acceptance (R106). -/
def dueOf (s : State) (kind : Nat) : List AtAction := s.acts.filter (fun x => x.kind == kind && actDue s x)

/-- A fired action: its TIME trace record (Table - Trace sources). -/
def actTrace (s : State) (x : AtAction) : State := traceTime s 0 x.kind x.t

/-- Position 1: the channels that the due SAMPLE actions name. -/
def sampleMask (l : List AtAction) : Nat := l.foldl (fun m x => m ||| dByte x.desc 0 1) 0

/-- The flat IDs that a FENCE action names (Table - FENCE parameters). -/
def fenceIds (d : BitVec 512) : List Nat := (List.range (dByte d 0 1)).map (fun k => dByte d (4 + 2 * k) 2)

/-- Sets or clears the fence bit of a flat ID. -/
def fenceBit (s : State) (f : Nat) (on : Bool) : State :=
  s.put RTE_FENCE.BITS (setBits (s.get RTE_FENCE.BITS (f / 32)) (f % 32) 1 (b2n on)) (f / 32)

/-- One FENCE action (R505, R506). -/
def fenceAct (s : State) (d : BitVec 512) : State :=
  if bit (dByte d 1 1) 0 then (fenceIds d).foldl (fun acc f => fenceBit acc f false) s
  else (fenceIds d).foldl (fun acc f => fenceOps (fenceBit acc f true) f) s

/-- Positions 1 and 2: samples of the course that ends, then the scale class (R639, R679). Arbiters rotate with the course
number (R13). (DESIGN CHOICE, log 12) -/
def boundaryOpen (s : State) : State :=
  let s1 := sampleCourse s (sampleMask (dueOf s 0))
  s1.put GLB_SCALE_CLASS.CUR (s1.get GLB_SCALE_CLASS.CLASS)

/-- Positions 3 to 5: fences, tenancy, epochs. (DESIGN CHOICE, log 12) -/
def boundaryTenancy (s0 s : State) : State :=
  let s1 := (dueOf s0 1).foldl (fun acc x => fenceAct acc x.desc) s
  let s2 := tenancyPass s1 ((dueOf s0 2).map (fun x => leaseEntries x.desc)).flatten
  epochPass s2 ((dueOf s0 3).map (fun x => epochEntries x.desc)).flatten

/-- Position 7: schedule switchovers, then the notices of the course that ends (R523). -/
def boundaryCircuits (s0 s : State) : State :=
  let s1 := (dueOf s0 5).foldl (fun acc _ => cirSwap acc) s
  let s2 := (leasedPallets s1).foldl palletBoundary s1
  { s2 with net := { s2.net with notices := [] } }

/-- Positions 6 to 8: routes, circuits, modules. -/
def boundaryRoutes (s0 s : State) : State :=
  let s1 := (dueOf s0 4).foldl (fun acc _ => routeSwap acc) s
  let s2 := boundaryCircuits s0 s1
  (dueOf s0 6).foldl (fun acc x => moduleSwap acc x.desc) s2

/-- The actions of one boundary in the order of Table - Order at one course boundary; each leaves the pending list. (DESIGN CHOICE, log 12) -/
def boundaryActs (s : State) : State :=
  let s1 := boundaryRoutes s (boundaryTenancy s (boundaryOpen s))
  let fired := ((List.range 7).map (fun k => dueOf s k)).flatten
  pendMarks (fired.foldl actTrace { s1 with acts := s1.acts.filter (fun x => !(fired.any (fun y => y.id == x.id))) })

/-- Queues and rings of the device, the service domain's included. -/
def queueCount : Nat := 4104

/-- FULL_CNT counts the boundaries at which a ring is full, and stands while it is frozen (R554). -/
def ringCourse (s : State) (j : Nat) : State :=
  if s.on TEN_CQ_STATUS.FULL j && (tabFind (frzRing + j) s.obs.frozenAt).isNone then s.incSat TEN_CQ_STATUS.FULL_CNT j else s

/-- BIND_ERR of a queue whose context is unbound or bound to another tenant while commands are pending (R128). -/
def bindCourse (s : State) (i : Nat) : State :=
  if s.on TEN_SQ_CFG.EN i && sqPending s i != 0 && (ctxOf s (s.get TEN_SQ_CFG.CTX i)).ten != some (ownerOf i) then s.put TEN_SQ_STATUS.BIND_ERR 1 i else s

/-- What every boundary evaluates beside the actions (R96, R98, R128, R466, R591). -/
def boundaryEvals (s : State) : State :=
  let s1 := (List.range 32).foldl linkCourse s
  let s2 := (List.range queueCount).foldl (fun acc i => bindCourse (ringCourse acc i) i) s1
  ftReturn (tagRetry s2)

/-- A step of the counter is past pending actions (R108): forward, samples and waits that it passes fire late under R104. (DEDUCED, log 113) -/
def stepPass (old s : State) : State :=
  if s.tim.stepped && !old.tim.stepped && now old < now s then
    let gone := s.acts.filter (fun x => x.kind = 0 && x.t < now s)
    passWaits (gone.foldl passAction { s with acts := s.acts.filter (fun x => !(gone.any (fun y => y.id == x.id))) }) (now s)
  else s

/-- The course boundary that opens the course that holds the counter (R106, R720): the time state and the ports' time-unsafe marks
are evaluated first, and the discipline loop, which may step the counter, comes last. (DESIGN CHOICE, log 12) -/
def courseBoundary (s : State) : State :=
  if course s = s.tim.course then s
  else
    let s1 := (List.range 32).foldl portCourse (timeEval { s with tim := { s.tim with course := course s } })
    let s2 := boundaryEvals (rehold s1 (boundaryActs s1))
    settle (exchangesUsed (stepPass s2 (discipline s2)))

/-- One at-time action that needs no boundary fires: a SAMPLE (R99, R643). -/
def sampleFire (s : State) (x : AtAction) : State :=
  let m := dByte x.desc 0 1
  actTrace ((List.range 8).foldl (fun acc c => if bit m c then sampleTake acc c false true else acc) s) x

/-- AT_TIME_FIRE (R99): due SAMPLE actions, in the order of acceptance, and due waits of AT.TIME. Between two courses the samples belong
to the boundary's position 1. The kind byte of the trace record of a wait is a free value. -/
def atTimeFire (s : State) : State :=
  let l := if course s = s.tim.course then dueOf s 0 else []
  let s1 := l.foldl sampleFire { s with acts := s.acts.filter (fun x => !(l.any (fun y => y.id == x.id))) }
  let waits := s1.prog.ctx.filter (fun (x : Nat × Ctx) => match x.2.wait with | some w => (match w.kind with | .time n => n ≤ now s1 | _ => false) | none => false)
  settle (waits.foldl (fun acc (x : Nat × Ctx) =>
    let t := match x.2.wait with | some w => (match w.kind with | .time n => n | _ => 0) | none => 0
    timeFire (traceWait acc t) x.1) s1)

/-- COURSE_BOUNDARY (R106, R720). -/
def execCourseBoundary (s : State) : Host.Outcome State Fault Refusal := .next (courseBoundary s)

/-- AT_TIME_FIRE (R99). -/
def execAtTimeFire (s : State) : Host.Outcome State Fault Refusal := .next (atTimeFire s)

end Sys2Proof.Machine
end

