-- ==== Sys2Proof/Machine/CoreIssue.lean ====
section
/-! DEFINITION. CORE_ISSUE: the encoding of Floug words (R168, R181), the choice of a context (R114) and its breakpoints (R656);
and the limits of waits (R198). -/

namespace Sys2Proof.Machine

open Sys2Proof

/-! ### The instruction that a word spells -/

/-- CTRL (MAJ 0x00). -/
def flougCtrl (c fn : Nat) (f : IFields) : Option Instr :=
  match fn with
  | 0x00 => some (.endCmd c f)
  | 0x01 => some (.nop c f)
  | 0x02 => some (.br c f)
  | 0x03 => some (.loop c f)
  | 0x04 => some (.callImm c f)
  | 0x05 => some (.callr c f)
  | 0x06 => some (.ret c f)
  | _ => none

/-- ALU (MAJ 0x01). -/
def flougAlu (c fn : Nat) (f : IFields) : Option Instr :=
  match fn with
  | 0x00 => some (.add c f)
  | 0x01 => some (.sub c f)
  | 0x02 => some (.andReg c f)
  | 0x03 => some (.orReg c f)
  | 0x04 => some (.xorReg c f)
  | 0x05 => some (.shl c f)
  | 0x06 => some (.shr c f)
  | 0x07 => some (.sar c f)
  | 0x08 => some (.mul c f)
  | 0x09 => some (.mulhu c f)
  | 0x0A => some (.minReg c f)
  | 0x0B => some (.maxReg c f)
  | 0x0C => some (.minu c f)
  | 0x0D => some (.maxu c f)
  | 0x0E => some (.clz c f)
  | 0x0F => some (.popc c f)
  | _ => none

/-- ALUI (MAJ 0x02). -/
def flougAlui (c fn : Nat) (f : IFields) : Option Instr :=
  match fn with
  | 0x00 => some (.addi c f)
  | 0x01 => some (.subi c f)
  | 0x02 => some (.andi c f)
  | 0x03 => some (.ori c f)
  | 0x04 => some (.xori c f)
  | 0x05 => some (.shli c f)
  | 0x06 => some (.shri c f)
  | 0x07 => some (.sari c f)
  | 0x08 => some (.muli c f)
  | 0x09 => some (.mulhui c f)
  | 0x0A => some (.mini c f)
  | 0x0B => some (.maxi c f)
  | 0x0C => some (.minui c f)
  | 0x0D => some (.maxui c f)
  | _ => none

/-- PRED (MAJ 0x03). -/
def flougPred (c fn : Nat) (f : IFields) : Option Instr :=
  match fn with
  | 0x00 => some (.cmpEq c f)
  | 0x01 => some (.cmpNe c f)
  | 0x02 => some (.cmpLt c f)
  | 0x03 => some (.cmpLe c f)
  | 0x04 => some (.cmpLtu c f)
  | 0x05 => some (.cmpLeu c f)
  | 0x08 => some (.cmpiEq c f)
  | 0x09 => some (.cmpiNe c f)
  | 0x0A => some (.cmpiLt c f)
  | 0x0B => some (.cmpiLe c f)
  | 0x0C => some (.cmpiLtu c f)
  | 0x0D => some (.cmpiLeu c f)
  | 0x10 => some (.pand c f)
  | 0x11 => some (.porPred c f)
  | 0x12 => some (.pxor c f)
  | 0x13 => some (.pnot c f)
  | 0x14 => some (.pget c f)
  | 0x15 => some (.pput c f)
  | _ => none

/-- DESC (MAJ 0x04). -/
def flougDesc (c fn : Nat) (f : IFields) : Option Instr :=
  match fn with
  | 0x00 => some (.dld c f)
  | 0x01 => some (.dst c f)
  | 0x02 => some (.dsetw c f)
  | 0x03 => some (.dgetw c f)
  | 0x04 => some (.dzero c f)
  | 0x05 => some (.dmov c f)
  | _ => none

/-- SVC.SCHED (MAJ 0x09, FN 0x02) by the kind in IMM[5:0]. -/
def flougSched (c kind : Nat) (f : IFields) : Option Instr :=
  match kind with
  | 0x00 => some (.schedSample c f)
  | 0x01 => some (.schedFence c f)
  | 0x02 => some (.schedLease c f)
  | 0x03 => some (.schedEpoch c f)
  | 0x04 => some (.schedRoute c f)
  | 0x05 => some (.schedSchedule c f)
  | 0x06 => some (.schedModule c f)
  | _ => none

/-- XFER (MAJ 0x10). -/
def flougXfer (c fn : Nat) (f : IFields) : Option Instr :=
  match fn with
  | 0x00 => some (.put c f)
  | 0x01 => some (.get c f)
  | 0x02 => some (.copy c f)
  | 0x03 => some (.scatter c f)
  | 0x04 => some (.gather c f)
  | _ => none

/-- ATOM (MAJ 0x11): the operation in FN[3:0], the width in FN[4]. -/
def flougAtom (c op : Nat) (wide : Bool) (f : IFields) : Option Instr :=
  match op with
  | 0x00 => some (.atomFadd c wide f)
  | 0x01 => some (.atomSwap c wide f)
  | 0x02 => some (.atomCas c wide f)
  | 0x03 => some (.atomMin c wide f)
  | 0x04 => some (.atomMax c wide f)
  | 0x05 => some (.atomMinu c wide f)
  | 0x06 => some (.atomMaxu c wide f)
  | 0x07 => some (.atomAnd c wide f)
  | 0x08 => some (.atomOr c wide f)
  | 0x09 => some (.atomXor c wide f)
  | _ => none

/-- ORDER (MAJ 0x13). -/
def flougOrder (c fn : Nat) (f : IFields) : Option Instr :=
  match fn with
  | 0x00 => some (.fence c f)
  | 0x01 => some (.rel c f)
  | 0x02 => some (.acq c f)
  | _ => none

/-- BOND (MAJ 0x20). -/
def flougBond (c fn : Nat) (f : IFields) : Option Instr :=
  match fn with
  | 0x00 => some (.bondStart c f)
  | 0x01 => some (.bondStep c f)
  | 0x02 => some (.bondWait c f)
  | 0x03 => some (.bondQuery c f)
  | _ => none

/-- KILN (MAJ 0x21). -/
def flougKiln (c fn : Nat) (f : IFields) : Option Instr :=
  match fn with
  | 0x00 => some (.kilnLoad c f)
  | 0x01 => some (.kilnParam c f)
  | _ => none

/-- SPEC, MEASURE and PUBLISH, of one function each. -/
def flougOnly (fn : Nat) (i : Instr) : Option Instr := if fn = 0 then some i else none

/-- WAIT (MAJ 0x06): WAIT.SEQ, and WAIT.FLAG with its condition in FN[2:0] and .ACQ in FN[4]. -/
def flougWait (c fn : Nat) (f : IFields) : Option Instr :=
  if fn = 0 then some (.waitSeq c f)
  else if 8 ≤ fn && fn < 16 then some (.waitFlag c (fn - 8) f)
  else if 24 ≤ fn && fn < 32 then some (.waitFlagAcq c (fn - 24) f)
  else none

/-- TIME (MAJ 0x07). -/
def flougTime (c fn : Nat) (f : IFields) : Option Instr :=
  match fn with
  | 0 => some (.atTime c f)
  | 1 => some (.timeRead c f)
  | 2 => some (.timeNext c f)
  | _ => none

/-- QUEUE (MAJ 0x08). -/
def flougQueue (c fn : Nat) (f : IFields) : Option Instr :=
  match fn with
  | 0 => some (.qDone c f)
  | 1 => some (.qRing c f)
  | _ => none

/-- SVC (MAJ 0x09). -/
def flougSvc (c fn : Nat) (f : IFields) : Option Instr :=
  match fn with
  | 0 => some (.svcRreg c f)
  | 1 => some (.svcWreg c f)
  | 2 => flougSched c (f.imm.toNat % 64) f
  | _ => none

/-- The instruction of context c that a major opcode, a function and the other fields spell (R168, R181); none where the encoding is
reserved. -/
def flougInstr (c maj fn : Nat) (f : IFields) : Option Instr :=
  match maj with
  | 0x00 => flougCtrl c fn f
  | 0x01 => flougAlu c fn f
  | 0x02 => flougAlui c fn f
  | 0x03 => flougPred c fn f
  | 0x04 => flougDesc c fn f
  | 0x05 => flougOnly fn (.gets c f)
  | 0x06 => flougWait c fn f
  | 0x07 => flougTime c fn f
  | 0x08 => flougQueue c fn f
  | 0x09 => flougSvc c fn f
  | 0x10 => flougXfer c fn f
  | 0x11 => if fn < 32 then flougAtom c (fn % 16) (fn / 16 == 1) f else none
  | 0x12 => flougOnly fn (.measure c f)
  | 0x13 => flougOrder c fn f
  | 0x14 => flougOnly fn (.publish c f)
  | 0x20 => flougBond c fn f
  | 0x21 => flougKiln c fn f
  | _ => none

/-- The instruction that a word of context c spells, with its extension word. -/
def flougDecode (c : Nat) (w ext : W64) : Option Instr :=
  flougInstr c (bits w.toNat 58 6) (bits w.toNat 52 6) (fieldsOf w ext)

/-- An instruction of a context runs by its own meaning; any other command is none. -/
def flougExec (i : Instr) (s : State) : Host.Outcome State Fault Refusal :=
  match i with
  | .endCmd c f => execEnd c f s
  | .nop c f => execNop c f s
  | .br c f => execBr c f s
  | .loop c f => execLoop c f s
  | .callImm c f => execCall c f s
  | .callr c f => execCallr c f s
  | .ret c f => execRet c f s
  | .add c f => execAdd c f s
  | .sub c f => execSub c f s
  | .andReg c f => execAnd c f s
  | .orReg c f => execOr c f s
  | .xorReg c f => execXor c f s
  | .shl c f => execShl c f s
  | .shr c f => execShr c f s
  | .sar c f => execSar c f s
  | .mul c f => execMul c f s
  | .mulhu c f => execMulhu c f s
  | .minReg c f => execMin c f s
  | .maxReg c f => execMax c f s
  | .minu c f => execMinu c f s
  | .maxu c f => execMaxu c f s
  | .clz c f => execClz c f s
  | .popc c f => execPopc c f s
  | .addi c f => execAddi c f s
  | .subi c f => execSubi c f s
  | .andi c f => execAndi c f s
  | .ori c f => execOri c f s
  | .xori c f => execXori c f s
  | .shli c f => execShli c f s
  | .shri c f => execShri c f s
  | .sari c f => execSari c f s
  | .muli c f => execMuli c f s
  | .mulhui c f => execMulhui c f s
  | .mini c f => execMini c f s
  | .maxi c f => execMaxi c f s
  | .minui c f => execMinui c f s
  | .maxui c f => execMaxui c f s
  | .cmpEq c f => execCmpEq c f s
  | .cmpNe c f => execCmpNe c f s
  | .cmpLt c f => execCmpLt c f s
  | .cmpLe c f => execCmpLe c f s
  | .cmpLtu c f => execCmpLtu c f s
  | .cmpLeu c f => execCmpLeu c f s
  | .cmpiEq c f => execCmpiEq c f s
  | .cmpiNe c f => execCmpiNe c f s
  | .cmpiLt c f => execCmpiLt c f s
  | .cmpiLe c f => execCmpiLe c f s
  | .cmpiLtu c f => execCmpiLtu c f s
  | .cmpiLeu c f => execCmpiLeu c f s
  | .pand c f => execPand c f s
  | .porPred c f => execPor c f s
  | .pxor c f => execPxor c f s
  | .pnot c f => execPnot c f s
  | .pget c f => execPget c f s
  | .pput c f => execPput c f s
  | .dld c f => execDld c f s
  | .dst c f => execDst c f s
  | .dsetw c f => execDsetw c f s
  | .dgetw c f => execDgetw c f s
  | .dzero c f => execDzero c f s
  | .dmov c f => execDmov c f s
  | .schedSample c f => execSchedSample c f s
  | .schedFence c f => execSchedFence c f s
  | .schedLease c f => execSchedLease c f s
  | .schedEpoch c f => execSchedEpoch c f s
  | .schedRoute c f => execSchedRoute c f s
  | .schedSchedule c f => execSchedSchedule c f s
  | .schedModule c f => execSchedModule c f s
  | .put c f => execPut c f s
  | .get c f => execGet c f s
  | .copy c f => execCopy c f s
  | .scatter c f => execScatter c f s
  | .gather c f => execGather c f s
  | .atomFadd c w f => execAtomFadd c w f s
  | .atomSwap c w f => execAtomSwap c w f s
  | .atomCas c w f => execAtomCas c w f s
  | .atomMin c w f => execAtomMin c w f s
  | .atomMax c w f => execAtomMax c w f s
  | .atomMinu c w f => execAtomMinu c w f s
  | .atomMaxu c w f => execAtomMaxu c w f s
  | .atomAnd c w f => execAtomAnd c w f s
  | .atomOr c w f => execAtomOr c w f s
  | .atomXor c w f => execAtomXor c w f s
  | .fence c f => execFence c f s
  | .rel c f => execRel c f s
  | .acq c f => execAcq c f s
  | .bondStart c f => execBondStart c f s
  | .bondStep c f => execBondStep c f s
  | .bondWait c f => execBondWait c f s
  | .bondQuery c f => execBondQuery c f s
  | .kilnLoad c f => execKilnLoad c f s
  | .kilnParam c f => execKilnParam c f s
  | .gets c f => execGets c f s
  | .waitSeq c f => execWaitSeq c f s
  | .atTime c f => execAtTime c f s
  | .timeRead c f => execTimeRead c f s
  | .timeNext c f => execTimeNext c f s
  | .qDone c f => execQDone c f s
  | .qRing c f => execQRing c f s
  | .svcRreg c f => execSvcRreg c f s
  | .svcWreg c f => execSvcWreg c f s
  | .measure c f => execMeasure c f s
  | .publish c f => execPublish c f s
  | .waitFlag c k f => execWaitFlag c k f s
  | .waitFlagAcq c k f => execWaitFlagAcq c k f s
  | _ => .next s
/-- MAJ, FN and the other fields of an instruction of a context; none of another command. -/
def flougEnc (i : Instr) : Option (Nat × Nat × IFields) :=
  match i with
  | .endCmd _ f => some (0x00, 0x00, f)
  | .nop _ f => some (0x00, 0x01, f)
  | .br _ f => some (0x00, 0x02, f)
  | .loop _ f => some (0x00, 0x03, f)
  | .callImm _ f => some (0x00, 0x04, f)
  | .callr _ f => some (0x00, 0x05, f)
  | .ret _ f => some (0x00, 0x06, f)
  | .add _ f => some (0x01, 0x00, f)
  | .sub _ f => some (0x01, 0x01, f)
  | .andReg _ f => some (0x01, 0x02, f)
  | .orReg _ f => some (0x01, 0x03, f)
  | .xorReg _ f => some (0x01, 0x04, f)
  | .shl _ f => some (0x01, 0x05, f)
  | .shr _ f => some (0x01, 0x06, f)
  | .sar _ f => some (0x01, 0x07, f)
  | .mul _ f => some (0x01, 0x08, f)
  | .mulhu _ f => some (0x01, 0x09, f)
  | .minReg _ f => some (0x01, 0x0A, f)
  | .maxReg _ f => some (0x01, 0x0B, f)
  | .minu _ f => some (0x01, 0x0C, f)
  | .maxu _ f => some (0x01, 0x0D, f)
  | .clz _ f => some (0x01, 0x0E, f)
  | .popc _ f => some (0x01, 0x0F, f)
  | .addi _ f => some (0x02, 0x00, f)
  | .subi _ f => some (0x02, 0x01, f)
  | .andi _ f => some (0x02, 0x02, f)
  | .ori _ f => some (0x02, 0x03, f)
  | .xori _ f => some (0x02, 0x04, f)
  | .shli _ f => some (0x02, 0x05, f)
  | .shri _ f => some (0x02, 0x06, f)
  | .sari _ f => some (0x02, 0x07, f)
  | .muli _ f => some (0x02, 0x08, f)
  | .mulhui _ f => some (0x02, 0x09, f)
  | .mini _ f => some (0x02, 0x0A, f)
  | .maxi _ f => some (0x02, 0x0B, f)
  | .minui _ f => some (0x02, 0x0C, f)
  | .maxui _ f => some (0x02, 0x0D, f)
  | .cmpEq _ f => some (0x03, 0x00, f)
  | .cmpNe _ f => some (0x03, 0x01, f)
  | .cmpLt _ f => some (0x03, 0x02, f)
  | .cmpLe _ f => some (0x03, 0x03, f)
  | .cmpLtu _ f => some (0x03, 0x04, f)
  | .cmpLeu _ f => some (0x03, 0x05, f)
  | .cmpiEq _ f => some (0x03, 0x08, f)
  | .cmpiNe _ f => some (0x03, 0x09, f)
  | .cmpiLt _ f => some (0x03, 0x0A, f)
  | .cmpiLe _ f => some (0x03, 0x0B, f)
  | .cmpiLtu _ f => some (0x03, 0x0C, f)
  | .cmpiLeu _ f => some (0x03, 0x0D, f)
  | .pand _ f => some (0x03, 0x10, f)
  | .porPred _ f => some (0x03, 0x11, f)
  | .pxor _ f => some (0x03, 0x12, f)
  | .pnot _ f => some (0x03, 0x13, f)
  | .pget _ f => some (0x03, 0x14, f)
  | .pput _ f => some (0x03, 0x15, f)
  | .dld _ f => some (0x04, 0x00, f)
  | .dst _ f => some (0x04, 0x01, f)
  | .dsetw _ f => some (0x04, 0x02, f)
  | .dgetw _ f => some (0x04, 0x03, f)
  | .dzero _ f => some (0x04, 0x04, f)
  | .dmov _ f => some (0x04, 0x05, f)
  | .schedSample _ f => some (0x09, 0x02, f)
  | .schedFence _ f => some (0x09, 0x02, f)
  | .schedLease _ f => some (0x09, 0x02, f)
  | .schedEpoch _ f => some (0x09, 0x02, f)
  | .schedRoute _ f => some (0x09, 0x02, f)
  | .schedSchedule _ f => some (0x09, 0x02, f)
  | .schedModule _ f => some (0x09, 0x02, f)
  | .put _ f => some (0x10, 0x00, f)
  | .get _ f => some (0x10, 0x01, f)
  | .copy _ f => some (0x10, 0x02, f)
  | .scatter _ f => some (0x10, 0x03, f)
  | .gather _ f => some (0x10, 0x04, f)
  | .atomFadd _ w f => some (0x11, 0 + 16 * b2n w, f)
  | .atomSwap _ w f => some (0x11, 1 + 16 * b2n w, f)
  | .atomCas _ w f => some (0x11, 2 + 16 * b2n w, f)
  | .atomMin _ w f => some (0x11, 3 + 16 * b2n w, f)
  | .atomMax _ w f => some (0x11, 4 + 16 * b2n w, f)
  | .atomMinu _ w f => some (0x11, 5 + 16 * b2n w, f)
  | .atomMaxu _ w f => some (0x11, 6 + 16 * b2n w, f)
  | .atomAnd _ w f => some (0x11, 7 + 16 * b2n w, f)
  | .atomOr _ w f => some (0x11, 8 + 16 * b2n w, f)
  | .atomXor _ w f => some (0x11, 9 + 16 * b2n w, f)
  | .fence _ f => some (0x13, 0x00, f)
  | .rel _ f => some (0x13, 0x01, f)
  | .acq _ f => some (0x13, 0x02, f)
  | .bondStart _ f => some (0x20, 0x00, f)
  | .bondStep _ f => some (0x20, 0x01, f)
  | .bondWait _ f => some (0x20, 0x02, f)
  | .bondQuery _ f => some (0x20, 0x03, f)
  | .kilnLoad _ f => some (0x21, 0x00, f)
  | .kilnParam _ f => some (0x21, 0x01, f)
  | .gets _ f => some (0x05, 0x00, f)
  | .waitSeq _ f => some (0x06, 0x00, f)
  | .atTime _ f => some (0x07, 0x00, f)
  | .timeRead _ f => some (0x07, 0x01, f)
  | .timeNext _ f => some (0x07, 0x02, f)
  | .qDone _ f => some (0x08, 0x00, f)
  | .qRing _ f => some (0x08, 0x01, f)
  | .svcRreg _ f => some (0x09, 0x00, f)
  | .svcWreg _ f => some (0x09, 0x01, f)
  | .measure _ f => some (0x12, 0x00, f)
  | .publish _ f => some (0x14, 0x00, f)
  | .waitFlag _ k f => some (0x06, 8 + k, f)
  | .waitFlagAcq _ k f => some (0x06, 24 + k, f)  | _ => none

/-- The instruction word of a command of a context (R168). -/
def flougWord (i : Instr) : Option W64 :=
  match flougEnc i with
  | some (maj, fn, f) => some (encodeWord maj fn f)
  | none => none

/-! ### Issue by a core -/

/-- The word at index n of the segment that holds the program counter of a context: zero past its end. -/
def segWord (s : State) (c n : Nat) : W64 :=
  let x := ctxOf s c
  if segLen s c ≤ n then 0
  else if x.pc.code then (match x.region with | some (b, _) => spwWord s (b + 8 * n) | none => 0)
  else match curCmd s c with
    | some m => m.words.getD n 0
    | none => 0

/-- The context enters HALT at a breakpoint, which is offered to the triggers (R651, R656). -/
def breakAt (s : State) (c b : Nat) : State := trcOffer (updCtx s c (fun x => { x with halt := some (1, b) })) 4 b

/-- Context c issues the instruction at its program counter (R170, R213). A reserved kind of SVC.SCHED is a reserved encoding of that
instruction (R211). (DESIGN CHOICE, log 7) -/
def contextIssue (s : State) (c : Nat) : Host.Outcome State Fault Refusal :=
  let n := (ctxOf s c).pc.word
  let w := segWord s c n
  match flougDecode c w (segWord s c (n + 1)) with
  | some i => flougExec i s
  | none =>
    let f := fieldsOf w 0
    .next (settle (if bits w.toNat 52 12 = 0x09 * 64 + 0x02 then schedOp s c (f.imm.toNat % 64) f else issueBad s c w))

/-- Contexts in turn: one that hits a breakpoint halts, one that cannot issue notes its stall, and the first that issues ends
the core's cycle. (DEDUCED, log 78) -/
def issueFrom : List Nat → State → Host.Outcome State Fault Refusal
  | [], s => .next s
  | c :: l, s =>
    match bpHit s c with
    | some b => issueFrom l (settle (breakAt s c b))
    | none =>
      match contextIssue s c with
      | .next t => if (ctxOf t c).next = (ctxOf s c).next then issueFrom l t else .next t
      | o => o

/-- The eligible contexts of core n in the order of its arbiter (R13, R14, R114). -/
def issueOrder (s : State) (n : Nat) : List Nat :=
  ((List.range 32).map (fun k => 32 * n + (course s + k) % 32)).filter (fun c => canIssue s c)

/-- CORE_ISSUE of core n (R114). -/
def execCoreIssue (n : Nat) (s : State) : Host.Outcome State Fault Refusal := issueFrom (issueOrder s n) s

/-! ### Wait limits -/

/-- A wait whose limit has been reached (R198): a flag is read once more, another condition is judged as it stands. -/
def waitLimit (s : State) (c : Nat) (w : Wait) : State :=
  match w.kind with
  | .flag _ _ _ _ _ => if w.final then s else flagRead (updCtx s c (fun x => { x with wait := some { w with final := true } })) c
  | .seq q n => if seqReached s c q n then releaseWait s c else failCur s c (limitSt (here s c) 6)
  | .bond i n => if n ≤ s.get BND_SLOT_STEP.STEP i then releaseWait s c else failCur s c (limitSt (here s c) 7)
  | _ => s

/-- WAIT_LIMIT_EXPIRE (R198): the limit of context c's wait. -/
def execWaitLimitExpire (c : Nat) (s : State) : Host.Outcome State Fault Refusal :=
  match (ctxOf s c).wait with
  | some w =>
    (match w.limit with
     | some t => if t ≤ now s && coreRuns s then .next (settle (waitLimit s c w)) else .next s
     | none => .next s)
  | none => .next s

end Sys2Proof.Machine
end

