-- ==== Sys2Proof/Machine/TileRx.lean ====
section
/-! DEFINITION. TILE_RECEIVE: the checks of a received tile, its sequence number and credit return, and the reassembly of packets
(R439, R444, R445, R448, R457, R463). -/

namespace Sys2Proof.Machine

open Sys2Proof

/-- The states in which a port receives tiles (R457). -/
def rxState (s : State) (p : Nat) : Bool :=
  [lsConfig, lsHold, lsVerify, lsCredit, lsActive].contains (linkState s p)

/-! ### Errors of the lanes -/

/-- Symbols corrected on a logical lane count for the physical lane that carries it (R439); a lane beyond its threshold in the course asks
for a spare (R471). -/
def laneErrors (s : State) (p : Nat) (x : Nat × Nat) : State :=
  let l := laneMap s p x.1
  let n := tabGet 0 l (portOf s p).corr + x.2
  let s1 := updPort s p (fun y => { y with corr := tabSet 0 l n y.corr })
  if linkActive s1 p && s1.get LNK_ERR_CFG.LANE_SPARE_THR p * 256 < n then laneNoisy s1 p x.1 else s1

/-- Uncorrectable codewords, counted in the course; too many take the link down (R480). -/
def uncorrErrors (s : State) (p n : Nat) : State :=
  let m := (portOf s p).uncorr + n
  let s1 := updPort (lnkCount s p cntFecUncorr n) p (fun y => { y with uncorr := m })
  if linkActive s1 p && s1.get LNK_ERR_CFG.UNCORR_DOWN p < m then enterDown s1 p 2 else s1

/-- What the code of the lanes reports with a tile. -/
def rxErrors (s : State) (p : Nat) (r : RxTile) : State :=
  let total := (r.corr.map (fun (x : Nat × Nat) => x.2)).sum
  uncorrErrors (r.corr.foldl (fun acc (x : Nat × Nat) => laneErrors acc p x) (lnkCount s p cntFecCorr total)) p r.uncorr

/-- A tile dropped under R444: counted, and too many in a course request a retrain (R475). -/
def dropTile (s : State) (p cnt : Nat) : State :=
  let m := (portOf s p).crc + 1
  let s1 := updPort (lnkCount s p cnt) p (fun y => { y with crc := m })
  if s1.get LNK_ERR_CFG.CRC_RETRAIN p * 16 < m then askRetrain s1 p 0 else s1

/-! ### Sequence and credits -/

/-- The LSEQ of a tile that carries a credit return, in ACTIVE (R445, R463): skipped numbers are drops, a DROP is due at once and 256, 512 and 768
tiles later, and the packets in progress are damaged. (DEDUCED, log 66) -/
def seqCheck (s : State) (p lseq : Nat) : State :=
  let x := portOf s p
  let e := x.expect.getD lseq
  let k := (lseq + 4096 - e) % 4096
  if k = 0 then updPort s p (fun y => { y with expect := some ((lseq + 1) % 4096) })
  else
    let lost := (List.range k).map (fun j => (lseq + 4095 - j) % 4096)
    let t := x.tileNo
    updPort (lnkCount s p cntSeqGap) p (fun y => { y with
      expect := some ((lseq + 1) % 4096), drops := add16 y.drops k, recent := (lost ++ y.recent).take 32,
      dropDue := y.dropDue ++ [t, t + 256, t + 512, t + 768],
      rx := y.rx.map (fun (z : Nat × RxPkt) => (z.1, { z.2 with damaged := true })) })

/-! ### Reassembly (R448) -/

/-- The buffers of tiles of a context are free again; a pallet packet holds none. -/
def freeTiles (s : State) (p c h n : Nat) : State := if c = 8 then s else resyncReady (freeBuf s p c h n) p

/-- The packet in progress on a context is discarded and counted. -/
def truncate (s : State) (p c : Nat) (x : RxPkt) : State :=
  freeTiles (lnkCount (updPort s p (fun y => { y with rx := tabDel c y.rx })) p cntTrunc) p c 1 x.tiles

/-- A whole packet that passes the checks of R451, R453 and R722 is traced and counted (R646, R634), and joins the packets of its input buffers,
or is assigned to its pallet slot. While CORE stands still a pallet packet is staged or lost (R582). (DESIGN CHOICE, log 133) -/
def packetIn (s : State) (q c at0 : Nat) (p : Packet) : State :=
  let s1 := traceEv s 1 0 p.ten p.tag (some q) (pktDetail p q)
  let s2 := count s1 0x07 q p.vc (some p.ten) (some p.tag) (0, 0) p.pay.length
  if c ≠ 8 then { s2 with net := { s2.net with rxq := s2.net.rxq ++ [(q, p)] } }
  else if coreRuns s2 then palletArrive s2 q at0 p
  else
    let t := palletArrive s2 q at0 p
    if t.net.staged.length = s2.net.staged.length then { s2 with clk := { s2.clk with palDrops := s2.clk.palDrops + 1 } } else t

/-- The packet of a context is complete: its count of tiles, BAD, damage, the header check, then the discards of its header. (DEDUCED, log 58) -/
def packetEnd (s : State) (q c bad : Nat) (x : RxPkt) : State :=
  let n := ceilDiv (48 + leAt x.body 8 2 % 4096) 240
  let s1 := updPort s q (fun y => { y with rx := tabDel c y.rx })
  if x.tiles ≠ n || bad = 1 || x.damaged then truncate s q c x
  else if !(hchkOk x.body) || rawBad x.body then freeTiles (lnkCount s1 q cntHdrErr) q c 1 x.tiles
  else
    let p := parsePacket x.body
    if screen p ≠ 0 then freeTiles (countScreen s1 q (screen p)) q c 1 x.tiles
    else if fenceDrops s1 p then freeTiles (dropFenced s1) q c 1 x.tiles
    else packetIn s1 q c x.at0 p

/-- A packet tile: FIRST or ONLY starts a packet, MIDDLE and LAST go on with one. -/
def packetTile (s : State) (p : Nat) (h : LinkHdr) (body : List Byte) : State :=
  let c := if h.pal = 1 then 8 else h.vc
  let was := tabFind c (portOf s p).rx
  if h.typ = 1 || h.typ = 4 then
    let s1 := match was with | some x => truncate s p c x | none => s
    let x : RxPkt := ⟨now s, 1, body, false⟩
    let s2 := updPort s1 p (fun y => { y with rx := tabPut c x y.rx })
    if h.typ = 4 then packetEnd s2 p c h.bad x else s2
  else
    match was with
    | none => freeTiles s p c 0 1
    | some x =>
      let x1 := { x with tiles := x.tiles + 1, body := x.body ++ body }
      let s1 := updPort s p (fun y => { y with rx := tabPut c x1 y.rx })
      if h.typ = 3 then packetEnd s1 p c h.bad x1 else s1

/-! ### Dispatch -/

/-- A received LCTL tile by its KIND (R457). -/
def lctlTile (s : State) (p : Nat) (b : List Byte) : State :=
  match leAt b 0 1 with
  | 0x01 => onCaps s p b
  | 0x02 => onAdvert s p b
  | 0x03 => onDrop s p b
  | 0x04 => onResyncReq s p b
  | 0x05 => onRetrainReq s p b
  | 0x06 => onWidthReq s p b
  | 0x07 => onWidthAck s p b
  | 0x08 => onSpareReq s p b
  | 0x09 => onSpareAck s p b
  | 0x0A => onSpareDone s p b
  | 0x0B => onDownNotice s p
  | _ => lctlBad s p

/-- A good tile acts by its type. Packets and time tiles are taken in ACTIVE alone. -/
def goodTile (s : State) (p : Nat) (h : LinkHdr) (body : List Byte) : State :=
  if h.typ = ttLctl then lctlTile s p body
  else if !(linkActive s p) || h.typ = ttIdle then s
  else if h.typ = ttTime then onTime s p (parseTime body)
  else packetTile s p h body

/-- A tile arrives on a port that receives. (DEDUCED, log 66) -/
def tileReceive (s : State) (p : Nat) (r : RxTile) : State :=
  if !(rxState s p) || !(laneRuns s p) then s
  else
    let s1 := rxErrors s p r
    let h := parseLinkHdr r.bytes
    if !(rxState s1 p) then s1
    else if r.uncorr ≠ 0 || !(tileCrcOk r.bytes) then dropTile s1 p cntCrcDrop
    else if 7 ≤ h.typ then dropTile s1 p cntTypeErr
    else
      let s2 := updPort s1 p (fun y => { y with good := now s })
      let s3 := if h.typ = ttIdle then s2 else s2.put64 .OBS_PORT_RX p (s2.get64 .OBS_PORT_RX p + 1)
      let s4 := if linkActive s3 p && h.crv = 1 then creditReturn (seqCheck s3 p h.lseq) p h.crvc h.crhdr h.crdata else s3
      goodTile s4 p h ((r.bytes.drop 8).take 240)

/-- TILE_RECEIVE (R444). -/
def execTileReceive (p : Nat) (r : RxTile) (s : State) : Host.Outcome State Fault Refusal := .next (settle (tileReceive s p r))

end Sys2Proof.Machine
end

