-- ==== Sys2Proof/Machine/Tick.lean ====
section
/-! DEFINITION. What time does: one nanosecond of the clocks (R62, R63, R577, R579, R591, R593), with the counts of each CCLK cycle
(R433, R504, R634) and the fault port's RCOSC cycle (R662). -/

namespace Sys2Proof.Machine

open Sys2Proof

/-! ### CCLK cycles -/

/-- Ports and VCs for which a packet waits without credits or bubble room (Table - Per-port telemetry counters). -/
def starved (s : State) : List (Nat × Nat) :=
  ((s.net.out.filterMap (fun o => if isPallet o then none else match preferred s o with
    | some p => if hasRoom s o p then none else some (p, o.pkt.vc)
    | none => none))).eraseDups

/-- The ports in throttle (R504). -/
def throttledPorts (s : State) : List Nat := (s.net.ports.filter (fun (x : Nat × Port) => x.2.throttled)).map (fun (x : Nat × Port) => x.1)

/-- Contexts in WAIT or STALL count for their stall reason (R634). -/
def stallEvents (s : State) : State :=
  if (ctrLive s).isEmpty then s
  else s.prog.ctx.foldl (fun acc (x : Nat × Ctx) =>
    let r := ctxState s x.1
    if r.1 = 3 || r.1 = 4 then count acc 0x02 r.2 255 x.2.ten (some (curTag s x.1)) (6, x.1) else acc) s

/-- Input held by the kiln counts in every cycle (R433). -/
def kilnHold (s : State) : State :=
  match (s.kiln.jobs.filter jobHolds) with
  | [] => s
  | l => l.foldl (fun acc j => count acc 0x0C 255 255 (some j.ten) (some j.tag) (2, j.slot)) (s.inc KLN_THROTTLE_CNT.COUNT)

/-- The counts of one CCLK cycle. -/
def cycleCounts (s : State) : State :=
  let s1 := count (s.addPair .OBS_CCLK 1) 0x01 255 255 none none (0, 0)
  let s2 := (starved s1).foldl (fun acc (x : Nat × Nat) => acc.incSat RTE_STALL.COUNT x.1 x.2) s1
  kilnHold (stallEvents ((throttledPorts s2).foldl (fun acc p => acc.incSat RTE_THROTTLE_CYC.COUNT p) s2))

/-- One CCLK cycle: one of those held off after a switch (R587), or a cycle of CORE. -/
def cclkCycle (s : State) : State :=
  if 0 < s.clk.heldOff then { s with clk := { s.clk with heldOff := s.clk.heldOff - 1 } }
  else if coreRuns s then settle (cycleCounts { s with clk := { s.clk with cclk := s.clk.cclk + 1 } })
  else s

/-- Tenths of a cycle of the CCLK source in 1 ns: 400 MHz of ROSC, 1.7 GHz of CPLL (Table - Clock sources). -/
def cclkRate (s : State) : Nat :=
  if s.get CLK_STATUS.CCLK_SRC = srcRosc then (if s.on CLK_STATUS.ROSC_ON then 4 else 0)
  else if s.get CLK_STATUS.CCLK_SRC = srcCpll then 17
  else 0

/-- The divider of CCLK moves on by 1 ns: a cycle for every 10 D tenths (R593). (DESIGN CHOICE, log 1) -/
def cclkTick (s : State) : State :=
  let n := s.clk.ccPhase + cclkRate s
  let full := 10 * Nat.max 1 (s.get CLK_STATUS.D)
  let s1 := { s with clk := { s.clk with ccPhase := n % full, srcCycles := s.clk.srcCycles + cclkRate s } }
  (List.range (n / full)).foldl (fun acc _ => cclkCycle acc) s1

/-! ### RCOSC, ROSC and fabric time -/

/-- RCOSC at 32 MHz: the fault port follows its cycles. (DESIGN CHOICE, log 1) -/
def rcTick (s : State) : State :=
  if s.clk.rcStop then s
  else
    let n := s.clk.rcPhase + 8
    if n < 250 then { s with clk := { s.clk with rcPhase := n } }
    else fltTick { s with clk := { s.clk with rcPhase := n - 250, rcosc := s.clk.rcosc + 1 } }

/-- One ROSC cycle; the time counter adds 10 ticks where it runs on ROSC (R591). -/
def roscCycle (s : State) : State :=
  let s1 := { s with clk := { s.clk with rosc := s.clk.rosc + 1 } }
  if s1.on CLK_STATUS.FT_SRC then { s1 with tim := { s1.tim with ticks := (s1.tim.ticks + 10) % 2 ^ 64 } } else s1

/-- ROSC at 400 MHz. (DESIGN CHOICE, log 1) -/
def roscTick (s : State) : State :=
  if s.on CLK_STATUS.ROSC_ON then
    let n := s.clk.roscPhase + 2
    if n < 5 then { s with clk := { s.clk with roscPhase := n } } else roscCycle { s with clk := { s.clk with roscPhase := n - 5 } }
  else s

/-- One FTCLK cycle: 4 + F / 2^32 ticks (R63). (DESIGN CHOICE, log 1) -/
def ftTick (s : State) : State :=
  if s.clk.ftStart && s.get CLK_STATUS.FT_SRC = 0 then setCounter s (((counter s : Int) + 4 * 2 ^ 32 + freqF s).toNat % 2 ^ 96) else s

/-- One nanosecond: nothing runs before the supply is valid, and RCOSC alone during power-on reset (R577, R598). (DESIGN CHOICE, log 1) -/
def tick (s : State) : State :=
  if !s.clk.aon then s
  else if s.clk.por then rcTick s
  else cclkTick (ftTick (roscTick (rcTick s)))

end Sys2Proof.Machine
end

