-- ==== Sys2Proof/Machine/Dispatch.lean ====
section
/-! DEFINITION. One arm per command: its meaning. -/

namespace Sys2Proof.Machine

open Sys2Proof

def exec (i : Instr) (s : State) : Host.Outcome State Fault Refusal :=
  match i with
  | .porRelease t => Sys2Proof.Machine.execPorRelease t s
  | .porAssert => Sys2Proof.Machine.execPorAssert s
  | .coreResetAssert => Sys2Proof.Machine.execCoreResetAssert s
  | .coreResetRelease => Sys2Proof.Machine.execCoreResetRelease s
  | .softCoreReset a v => Sys2Proof.Machine.execSoftCoreReset a v s
  | .jtagTrst => Sys2Proof.Machine.execJtagTrst s
  | .registerWrite a off v => Sys2Proof.Machine.execRegisterWrite a off v s
  | .rcRegisterRead a off => Sys2Proof.Machine.execRcRegisterRead a off s
  | .glbLockTopo a v => Sys2Proof.Machine.execGlbLockTopo a v s
  | .glbLockTest a v => Sys2Proof.Machine.execGlbLockTest a v s
  | .glbLockI3c a v => Sys2Proof.Machine.execGlbLockI3c a v s
  | .portRoleWrite a ix v => Sys2Proof.Machine.execPortRoleWrite a ix v s
  | .tenViewCfgWrite a ix v => Sys2Proof.Machine.execTenViewCfgWrite a ix v s
  | .viewEntryWrite a ix v => Sys2Proof.Machine.execViewEntryWrite a ix v s
  | .courseBoundary => Sys2Proof.Machine.execCourseBoundary s
  | .scrubDone kind ix => Sys2Proof.Machine.execScrubDone kind ix s
  | .readoutExpire k => Sys2Proof.Machine.execReadoutExpire k s
  | .timLoad a v => Sys2Proof.Machine.execTimLoad a v s
  | .timFreqWrite a v => Sys2Proof.Machine.execTimFreqWrite a v s
  | .atTimeFire => Sys2Proof.Machine.execAtTimeFire s
  | .timeRequestSend p => Sys2Proof.Machine.execTimeRequestSend p s
  | .timeRequestReceive p t => Sys2Proof.Machine.execTimeRequestReceive p t s
  | .timeResponseSend p => Sys2Proof.Machine.execTimeResponseSend p s
  | .timeResponseReceive p t => Sys2Proof.Machine.execTimeResponseReceive p t s
  | .coreIssue n => Sys2Proof.Machine.execCoreIssue n s
  | .endCmd c f => Sys2Proof.Machine.execEnd c f s
  | .nop c f => Sys2Proof.Machine.execNop c f s
  | .br c f => Sys2Proof.Machine.execBr c f s
  | .loop c f => Sys2Proof.Machine.execLoop c f s
  | .callImm c f => Sys2Proof.Machine.execCall c f s
  | .callr c f => Sys2Proof.Machine.execCallr c f s
  | .ret c f => Sys2Proof.Machine.execRet c f s
  | .add c f => Sys2Proof.Machine.execAdd c f s
  | .sub c f => Sys2Proof.Machine.execSub c f s
  | .andReg c f => Sys2Proof.Machine.execAnd c f s
  | .orReg c f => Sys2Proof.Machine.execOr c f s
  | .xorReg c f => Sys2Proof.Machine.execXor c f s
  | .shl c f => Sys2Proof.Machine.execShl c f s
  | .shr c f => Sys2Proof.Machine.execShr c f s
  | .sar c f => Sys2Proof.Machine.execSar c f s
  | .mul c f => Sys2Proof.Machine.execMul c f s
  | .mulhu c f => Sys2Proof.Machine.execMulhu c f s
  | .minReg c f => Sys2Proof.Machine.execMin c f s
  | .maxReg c f => Sys2Proof.Machine.execMax c f s
  | .minu c f => Sys2Proof.Machine.execMinu c f s
  | .maxu c f => Sys2Proof.Machine.execMaxu c f s
  | .clz c f => Sys2Proof.Machine.execClz c f s
  | .popc c f => Sys2Proof.Machine.execPopc c f s
  | .addi c f => Sys2Proof.Machine.execAddi c f s
  | .subi c f => Sys2Proof.Machine.execSubi c f s
  | .andi c f => Sys2Proof.Machine.execAndi c f s
  | .ori c f => Sys2Proof.Machine.execOri c f s
  | .xori c f => Sys2Proof.Machine.execXori c f s
  | .shli c f => Sys2Proof.Machine.execShli c f s
  | .shri c f => Sys2Proof.Machine.execShri c f s
  | .sari c f => Sys2Proof.Machine.execSari c f s
  | .muli c f => Sys2Proof.Machine.execMuli c f s
  | .mulhui c f => Sys2Proof.Machine.execMulhui c f s
  | .mini c f => Sys2Proof.Machine.execMini c f s
  | .maxi c f => Sys2Proof.Machine.execMaxi c f s
  | .minui c f => Sys2Proof.Machine.execMinui c f s
  | .maxui c f => Sys2Proof.Machine.execMaxui c f s
  | .cmpEq c f => Sys2Proof.Machine.execCmpEq c f s
  | .cmpNe c f => Sys2Proof.Machine.execCmpNe c f s
  | .cmpLt c f => Sys2Proof.Machine.execCmpLt c f s
  | .cmpLe c f => Sys2Proof.Machine.execCmpLe c f s
  | .cmpLtu c f => Sys2Proof.Machine.execCmpLtu c f s
  | .cmpLeu c f => Sys2Proof.Machine.execCmpLeu c f s
  | .cmpiEq c f => Sys2Proof.Machine.execCmpiEq c f s
  | .cmpiNe c f => Sys2Proof.Machine.execCmpiNe c f s
  | .cmpiLt c f => Sys2Proof.Machine.execCmpiLt c f s
  | .cmpiLe c f => Sys2Proof.Machine.execCmpiLe c f s
  | .cmpiLtu c f => Sys2Proof.Machine.execCmpiLtu c f s
  | .cmpiLeu c f => Sys2Proof.Machine.execCmpiLeu c f s
  | .pand c f => Sys2Proof.Machine.execPand c f s
  | .porPred c f => Sys2Proof.Machine.execPor c f s
  | .pxor c f => Sys2Proof.Machine.execPxor c f s
  | .pnot c f => Sys2Proof.Machine.execPnot c f s
  | .pget c f => Sys2Proof.Machine.execPget c f s
  | .pput c f => Sys2Proof.Machine.execPput c f s
  | .dld c f => Sys2Proof.Machine.execDld c f s
  | .dst c f => Sys2Proof.Machine.execDst c f s
  | .dsetw c f => Sys2Proof.Machine.execDsetw c f s
  | .dgetw c f => Sys2Proof.Machine.execDgetw c f s
  | .dzero c f => Sys2Proof.Machine.execDzero c f s
  | .dmov c f => Sys2Proof.Machine.execDmov c f s
  | .gets c f => Sys2Proof.Machine.execGets c f s
  | .waitSeq c f => Sys2Proof.Machine.execWaitSeq c f s
  | .waitFlag c cond f => Sys2Proof.Machine.execWaitFlag c cond f s
  | .waitFlagAcq c cond f => Sys2Proof.Machine.execWaitFlagAcq c cond f s
  | .flagPoll c => Sys2Proof.Machine.execFlagPoll c s
  | .waitLimitExpire c => Sys2Proof.Machine.execWaitLimitExpire c s
  | .atTime c f => Sys2Proof.Machine.execAtTime c f s
  | .timeRead c f => Sys2Proof.Machine.execTimeRead c f s
  | .timeNext c f => Sys2Proof.Machine.execTimeNext c f s
  | .qDone c f => Sys2Proof.Machine.execQDone c f s
  | .qRing c f => Sys2Proof.Machine.execQRing c f s
  | .svcRreg c f => Sys2Proof.Machine.execSvcRreg c f s
  | .svcWreg c f => Sys2Proof.Machine.execSvcWreg c f s
  | .schedSample c f => Sys2Proof.Machine.execSchedSample c f s
  | .schedFence c f => Sys2Proof.Machine.execSchedFence c f s
  | .schedLease c f => Sys2Proof.Machine.execSchedLease c f s
  | .schedEpoch c f => Sys2Proof.Machine.execSchedEpoch c f s
  | .schedRoute c f => Sys2Proof.Machine.execSchedRoute c f s
  | .schedSchedule c f => Sys2Proof.Machine.execSchedSchedule c f s
  | .schedModule c f => Sys2Proof.Machine.execSchedModule c f s
  | .put c f => Sys2Proof.Machine.execPut c f s
  | .get c f => Sys2Proof.Machine.execGet c f s
  | .copy c f => Sys2Proof.Machine.execCopy c f s
  | .scatter c f => Sys2Proof.Machine.execScatter c f s
  | .gather c f => Sys2Proof.Machine.execGather c f s
  | .atomFadd c wide f => Sys2Proof.Machine.execAtomFadd c wide f s
  | .atomSwap c wide f => Sys2Proof.Machine.execAtomSwap c wide f s
  | .atomCas c wide f => Sys2Proof.Machine.execAtomCas c wide f s
  | .atomMin c wide f => Sys2Proof.Machine.execAtomMin c wide f s
  | .atomMax c wide f => Sys2Proof.Machine.execAtomMax c wide f s
  | .atomMinu c wide f => Sys2Proof.Machine.execAtomMinu c wide f s
  | .atomMaxu c wide f => Sys2Proof.Machine.execAtomMaxu c wide f s
  | .atomAnd c wide f => Sys2Proof.Machine.execAtomAnd c wide f s
  | .atomOr c wide f => Sys2Proof.Machine.execAtomOr c wide f s
  | .atomXor c wide f => Sys2Proof.Machine.execAtomXor c wide f s
  | .measure c f => Sys2Proof.Machine.execMeasure c f s
  | .fence c f => Sys2Proof.Machine.execFence c f s
  | .rel c f => Sys2Proof.Machine.execRel c f s
  | .acq c f => Sys2Proof.Machine.execAcq c f s
  | .publish c f => Sys2Proof.Machine.execPublish c f s
  | .bondStart c f => Sys2Proof.Machine.execBondStart c f s
  | .bondStep c f => Sys2Proof.Machine.execBondStep c f s
  | .bondWait c f => Sys2Proof.Machine.execBondWait c f s
  | .bondQuery c f => Sys2Proof.Machine.execBondQuery c f s
  | .kilnLoad c f => Sys2Proof.Machine.execKilnLoad c f s
  | .kilnParam c f => Sys2Proof.Machine.execKilnParam c f s
  | .tailDoorbell a ix v => Sys2Proof.Machine.execTailDoorbell a ix v s
  | .headDoorbell a ix v => Sys2Proof.Machine.execHeadDoorbell a ix v s
  | .sqEnable a ix v => Sys2Proof.Machine.execSqEnable a ix v s
  | .sqDisable a ix v => Sys2Proof.Machine.execSqDisable a ix v s
  | .sqAbort a ix v => Sys2Proof.Machine.execSqAbort a ix v s
  | .cqEnable a ix v => Sys2Proof.Machine.execCqEnable a ix v s
  | .cqDisable a ix v => Sys2Proof.Machine.execCqDisable a ix v s
  | .ctxCfgWrite a ix v => Sys2Proof.Machine.execCtxCfgWrite a ix v s
  | .commandFetch c => Sys2Proof.Machine.execCommandFetch c s
  | .commandComplete c k => Sys2Proof.Machine.execCommandComplete c k s
  | .completionRecordWrite j => Sys2Proof.Machine.execCompletionRecordWrite j s
  | .trwCodeWrite a ix v => Sys2Proof.Machine.execTrwCodeWrite a ix v s
  | .hodCfgWrite a ix v => Sys2Proof.Machine.execHodCfgWrite a ix v s
  | .putPacket q p => Sys2Proof.Machine.execPutPacket q p s
  | .getReq q p => Sys2Proof.Machine.execGetReq q p s
  | .atomReq q p => Sys2Proof.Machine.execAtomReq q p s
  | .copyReq q p => Sys2Proof.Machine.execCopyReq q p s
  | .measureReq q p => Sys2Proof.Machine.execMeasureReq q p s
  | .publishPacket q p => Sys2Proof.Machine.execPublishPacket q p s
  | .signal q p => Sys2Proof.Machine.execSignal q p s
  | .mmsg q p => Sys2Proof.Machine.execMmsg q p s
  | .copyData q p => Sys2Proof.Machine.execCopyData q p s
  | .pageFwd q p => Sys2Proof.Machine.execPageFwd q p s
  | .getData q p => Sys2Proof.Machine.execGetData q p s
  | .atomRsp q p => Sys2Proof.Machine.execAtomRsp q p s
  | .measureRsp q p => Sys2Proof.Machine.execMeasureRsp q p s
  | .ack q p => Sys2Proof.Machine.execAck q p s
  | .nack q p => Sys2Proof.Machine.execNack q p s
  | .done q p => Sys2Proof.Machine.execDone q p s
  | .ackTimer fl => Sys2Proof.Machine.execAckTimer fl s
  | .replayTimeout h fl sq => Sys2Proof.Machine.execReplayTimeout h fl sq s
  | .hodFlowReset a v => Sys2Proof.Machine.execHodFlowReset a v s
  | .flowResetDone => Sys2Proof.Machine.execFlowResetDone s
  | .mcLeafSkip fl => Sys2Proof.Machine.execMcLeafSkip fl s
  | .bpmAnswer id grant addr => Sys2Proof.Machine.execBpmAnswer id grant addr s
  | .bpmTimeout id => Sys2Proof.Machine.execBpmTimeout id s
  | .hodRxRelease a v => Sys2Proof.Machine.execHodRxRelease a v s
  | .mailboxCfgWrite a r ix j v => Sys2Proof.Machine.execMailboxCfgWrite a r ix j v s
  | .rcbExpire ten k => Sys2Proof.Machine.execRcbExpire ten k s
  | .rcbCfgWrite a v => Sys2Proof.Machine.execRcbCfgWrite a v s
  | .bondCfgValid a ix v => Sys2Proof.Machine.execBondCfgValid a ix v s
  | .bondEntryWrite a r ix j v => Sys2Proof.Machine.execBondEntryWrite a r ix j v s
  | .bndSlotCfgWrite a ix v => Sys2Proof.Machine.execBndSlotCfgWrite a ix v s
  | .bndSlotStoreWrite a ix v => Sys2Proof.Machine.execBndSlotStoreWrite a ix v s
  | .stepData q p => Sys2Proof.Machine.execStepData q p s
  | .grant q p => Sys2Proof.Machine.execGrant q p s
  | .stepAck q p => Sys2Proof.Machine.execStepAck q p s
  | .late q p => Sys2Proof.Machine.execLate q p s
  | .reform q p => Sys2Proof.Machine.execReform q p s
  | .stopCtl q p => Sys2Proof.Machine.execStop q p s
  | .check q p => Sys2Proof.Machine.execCheck q p s
  | .stepResendTimeout sl k => Sys2Proof.Machine.execStepResendTimeout sl k s
  | .bondStepTimeout sl => Sys2Proof.Machine.execBondStepTimeout sl s
  | .lateRetryTimeout sl => Sys2Proof.Machine.execLateRetryTimeout sl s
  | .coordCollectEnd sl => Sys2Proof.Machine.execCoordCollectEnd sl s
  | .bondStepComplete sl => Sys2Proof.Machine.execBondStepComplete sl s
  | .klnSlotCfgWrite a ix v => Sys2Proof.Machine.execKlnSlotCfgWrite a ix v s
  | .kilnUnit cl ln => Sys2Proof.Machine.execKilnUnit cl ln s
  | .kilnDrain cl o => Sys2Proof.Machine.execKilnDrain cl o s
  | .kilnEnd cl ln k => Sys2Proof.Machine.execKilnEnd cl ln k s
  | .kilnNop cl ln k => Sys2Proof.Machine.execKilnNop cl ln k s
  | .kilnLdi cl ln k => Sys2Proof.Machine.execKilnLdi cl ln k s
  | .kilnBcp cl ln k => Sys2Proof.Machine.execKilnBcp cl ln k s
  | .kilnIota cl ln k => Sys2Proof.Machine.execKilnIota cl ln k s
  | .kilnMov cl ln k => Sys2Proof.Machine.execKilnMov cl ln k s
  | .kilnAdd cl ln k => Sys2Proof.Machine.execKilnAdd cl ln k s
  | .kilnSub cl ln k => Sys2Proof.Machine.execKilnSub cl ln k s
  | .kilnAdds cl ln k => Sys2Proof.Machine.execKilnAdds cl ln k s
  | .kilnSubs cl ln k => Sys2Proof.Machine.execKilnSubs cl ln k s
  | .kilnMul cl ln k => Sys2Proof.Machine.execKilnMul cl ln k s
  | .kilnMulh cl ln k => Sys2Proof.Machine.execKilnMulh cl ln k s
  | .kilnMin cl ln k => Sys2Proof.Machine.execKilnMin cl ln k s
  | .kilnMax cl ln k => Sys2Proof.Machine.execKilnMax cl ln k s
  | .kilnAnd cl ln k => Sys2Proof.Machine.execKilnAnd cl ln k s
  | .kilnOr cl ln k => Sys2Proof.Machine.execKilnOr cl ln k s
  | .kilnXor cl ln k => Sys2Proof.Machine.execKilnXor cl ln k s
  | .kilnAndn cl ln k => Sys2Proof.Machine.execKilnAndn cl ln k s
  | .kilnShl cl ln k => Sys2Proof.Machine.execKilnShl cl ln k s
  | .kilnSar cl ln k => Sys2Proof.Machine.execKilnSar cl ln k s
  | .kilnShr cl ln k => Sys2Proof.Machine.execKilnShr cl ln k s
  | .kilnShlv cl ln k => Sys2Proof.Machine.execKilnShlv cl ln k s
  | .kilnSarv cl ln k => Sys2Proof.Machine.execKilnSarv cl ln k s
  | .kilnRsh cl ln k => Sys2Proof.Machine.execKilnRsh cl ln k s
  | .kilnRshv cl ln k => Sys2Proof.Machine.execKilnRshv cl ln k s
  | .kilnSel cl ln k => Sys2Proof.Machine.execKilnSel cl ln k s
  | .kilnWiden cl ln k => Sys2Proof.Machine.execKilnWiden cl ln k s
  | .kilnNarrow cl ln k => Sys2Proof.Machine.execKilnNarrow cl ln k s
  | .kilnUnpk4 cl ln k => Sys2Proof.Machine.execKilnUnpk4 cl ln k s
  | .kilnPack4 cl ln k => Sys2Proof.Machine.execKilnPack4 cl ln k s
  | .kilnExpx cl ln k => Sys2Proof.Machine.execKilnExpx cl ln k s
  | .kilnPerm cl ln k => Sys2Proof.Machine.execKilnPerm cl ln k s
  | .kilnGmax cl ln k => Sys2Proof.Machine.execKilnGmax cl ln k s
  | .kilnGsum cl ln k => Sys2Proof.Machine.execKilnGsum cl ln k s
  | .kilnCmpeq cl ln k => Sys2Proof.Machine.execKilnCmpeq cl ln k s
  | .kilnCmplt cl ln k => Sys2Proof.Machine.execKilnCmplt cl ln k s
  | .kilnCmple cl ln k => Sys2Proof.Machine.execKilnCmple cl ln k s
  | .kilnCmpltu cl ln k => Sys2Proof.Machine.execKilnCmpltu cl ln k s
  | .kilnKand cl ln k => Sys2Proof.Machine.execKilnKand cl ln k s
  | .kilnKor cl ln k => Sys2Proof.Machine.execKilnKor cl ln k s
  | .kilnKnot cl ln k => Sys2Proof.Machine.execKilnKnot cl ln k s
  | .kilnTopm cl ln k => Sys2Proof.Machine.execKilnTopm cl ln k s
  | .kilnEmit cl ln k => Sys2Proof.Machine.execKilnEmit cl ln k s
  | .kilnEmitm cl ln k => Sys2Proof.Machine.execKilnEmitm cl ln k s
  | .kilnEmitk cl ln k => Sys2Proof.Machine.execKilnEmitk cl ln k s
  | .kilnPackz cl ln k => Sys2Proof.Machine.execKilnPackz cl ln k s
  | .kilnLds cl ln k => Sys2Proof.Machine.execKilnLds cl ln k s
  | .tileReceive p r => Sys2Proof.Machine.execTileReceive p r s
  | .tileSend p => Sys2Proof.Machine.execTileSend p s
  | .packetForward q p => Sys2Proof.Machine.execPacketForward q p s
  | .noRouteTimeout k => Sys2Proof.Machine.execNoRouteTimeout k s
  | .routeCommit a v => Sys2Proof.Machine.execRouteCommit a v s
  | .mcCommit a v => Sys2Proof.Machine.execMcCommit a v s
  | .cirShadowWrite a out p t v => Sys2Proof.Machine.execCirShadowWrite a out p t v s
  | .cirPalletWrite a r ix j v => Sys2Proof.Machine.execCirPalletWrite a r ix j v s
  | .restore a ix v => Sys2Proof.Machine.execRestore a ix v s
  | .cirNotice a v => Sys2Proof.Machine.execCirNotice a v s
  | .rteThrottleWrite a v => Sys2Proof.Machine.execRteThrottleWrite a v s
  | .caps p b => Sys2Proof.Machine.execCaps p b s
  | .advert p b => Sys2Proof.Machine.execAdvert p b s
  | .drop p b => Sys2Proof.Machine.execDrop p b s
  | .resyncReq p b => Sys2Proof.Machine.execResyncReq p b s
  | .retrainReq p b => Sys2Proof.Machine.execRetrainReq p b s
  | .widthReq p b => Sys2Proof.Machine.execWidthReq p b s
  | .widthAck p b => Sys2Proof.Machine.execWidthAck p b s
  | .spareReq p b => Sys2Proof.Machine.execSpareReq p b s
  | .spareAck p b => Sys2Proof.Machine.execSpareAck p b s
  | .spareDone p b => Sys2Proof.Machine.execSpareDone p b s
  | .downNotice p b => Sys2Proof.Machine.execDownNotice p b s
  | .lctlRepeat p k => Sys2Proof.Machine.execLctlRepeat p k s
  | .dropReport p => Sys2Proof.Machine.execDropReport p s
  | .resyncTimeout p => Sys2Proof.Machine.execResyncTimeout p s
  | .linkEnable a ix v => Sys2Proof.Machine.execLinkEnable a ix v s
  | .linkDisable a ix v => Sys2Proof.Machine.execLinkDisable a ix v s
  | .lnkRetrain a ix v => Sys2Proof.Machine.execLnkRetrain a ix v s
  | .lnkWiden a ix v => Sys2Proof.Machine.execLnkWiden a ix v s
  | .lnkResync a ix v => Sys2Proof.Machine.execLnkResync a ix v s
  | .lnkRetry a ix v => Sys2Proof.Machine.execLnkRetry a ix v s
  | .lnkForceDown a ix v => Sys2Proof.Machine.execLnkForceDown a ix v s
  | .lnkSpareGo a ix v => Sys2Proof.Machine.execLnkSpareGo a ix v s
  | .lnkCfgWrite a ix v => Sys2Proof.Machine.execLnkCfgWrite a ix v s
  | .lnkCreditCfgWrite a ix j v => Sys2Proof.Machine.execLnkCreditCfgWrite a ix j v s
  | .detectDone p mask => Sys2Proof.Machine.execDetectDone p mask s
  | .lockDone p mask => Sys2Proof.Machine.execLockDone p mask s
  | .lockTimeout p => Sys2Proof.Machine.execLockTimeout p s
  | .configTimeout p => Sys2Proof.Machine.execConfigTimeout p s
  | .equalizeDone p => Sys2Proof.Machine.execEqualizeDone p s
  | .equalizeTimeout p => Sys2Proof.Machine.execEqualizeTimeout p s
  | .verifyDone p bad uncorr => Sys2Proof.Machine.execVerifyDone p bad uncorr s
  | .creditTimeout p => Sys2Proof.Machine.execCreditTimeout p s
  | .retrainTimeout p => Sys2Proof.Machine.execRetrainTimeout p s
  | .backoffExpire p => Sys2Proof.Machine.execBackoffExpire p s
  | .laneLockLoss p l => Sys2Proof.Machine.execLaneLockLoss p l s
  | .spareSwitch p => Sys2Proof.Machine.execSpareSwitch p s
  | .spareTimeout p => Sys2Proof.Machine.execSpareTimeout p s
  | .equaliserConverged p l ok => Sys2Proof.Machine.execEqualiserConverged p l ok s
  | .widthSwitch p => Sys2Proof.Machine.execWidthSwitch p s
  | .widthWithdraw p => Sys2Proof.Machine.execWidthWithdraw p s
  | .linkSilent p => Sys2Proof.Machine.execLinkSilent p s
  | .optPortCfgWrite a ix v => Sys2Proof.Machine.execOptPortCfgWrite a ix v s
  | .lossOfLight p l los => Sys2Proof.Machine.execLossOfLight p l los s
  | .laneDark p l => Sys2Proof.Machine.execLaneDark p l s
  | .laneLit p l => Sys2Proof.Machine.execLaneLit p l s
  | .opticalDown p => Sys2Proof.Machine.execOpticalDown p s
  | .lmPresenceChange m present => Sys2Proof.Machine.execLmPresenceChange m present s
  | .lmProbeStart m => Sys2Proof.Machine.execLmProbeStart m s
  | .lmProbeDone m ident => Sys2Proof.Machine.execLmProbeDone m ident s
  | .lmPoll m bias fail => Sys2Proof.Machine.execLmPoll m bias fail s
  | .lmXactFail m => Sys2Proof.Machine.execLmXactFail m s
  | .lmHoursTick m => Sys2Proof.Machine.execLmHoursTick m s
  | .lmDisable a ix v => Sys2Proof.Machine.execLmDisable a ix v s
  | .lmCmd a ix v => Sys2Proof.Machine.execLmCmd a ix v s
  | .lmCmdDone m data err => Sys2Proof.Machine.execLmCmdDone m data err s
  | .secTenCfgWrite a ix v => Sys2Proof.Machine.execSecTenCfgWrite a ix v s
  | .tenWinWrite a r ix j v => Sys2Proof.Machine.execTenWinWrite a r ix j v s
  | .report a v => Sys2Proof.Machine.execReport a v s
  | .exchange a v => Sys2Proof.Machine.execExchange a v s
  | .install a v => Sys2Proof.Machine.execInstall a v s
  | .clear a v => Sys2Proof.Machine.execClear a v s
  | .kxDone h => Sys2Proof.Machine.execKxDone h s
  | .sweepCmd a v => Sys2Proof.Machine.execSweepCmd a v s
  | .sweepDone => Sys2Proof.Machine.execSweepDone s
  | .epochZeroise t e => Sys2Proof.Machine.execEpochZeroise t e s
  | .rcoscStable => Sys2Proof.Machine.execRcoscStable s
  | .roscStable cyc => Sys2Proof.Machine.execRoscStable cyc s
  | .roscTimeout => Sys2Proof.Machine.execRoscTimeout s
  | .pllLock pll => Sys2Proof.Machine.execPllLock pll s
  | .pllUnlock pll => Sys2Proof.Machine.execPllUnlock pll s
  | .monitorWindow mon count noEdge => Sys2Proof.Machine.execMonitorWindow mon count noEdge s
  | .clockSwitch ft => Sys2Proof.Machine.execClockSwitch ft s
  | .dividerStep => Sys2Proof.Machine.execDividerStep s
  | .cclkReturn a v => Sys2Proof.Machine.execCclkReturn a v s
  | .clkObsCfgWrite a v => Sys2Proof.Machine.execClkObsCfgWrite a v s
  | .sramInitDone => Sys2Proof.Machine.execSramInitDone s
  | .bootDoor a v => Sys2Proof.Machine.execBootDoor a v s
  | .bootVerifyDone => Sys2Proof.Machine.execBootVerifyDone s
  | .identityDone => Sys2Proof.Machine.execIdentityDone s
  | .stageGo a ix v => Sys2Proof.Machine.execStageGo a ix v s
  | .stageDone k => Sys2Proof.Machine.execStageDone k s
  | .stageDiscard a ix v => Sys2Proof.Machine.execStageDiscard a ix v s
  | .oldRangeExpire k => Sys2Proof.Machine.execOldRangeExpire k s
  | .ctrSelectWrite a r ix j v => Sys2Proof.Machine.execCtrSelectWrite a r ix j v s
  | .sampleChannelWrite a r ix j v => Sys2Proof.Machine.execSampleChannelWrite a r ix j v s
  | .pcSample n => Sys2Proof.Machine.execPcSample n s
  | .traceStopped u => Sys2Proof.Machine.execTraceStopped u s
  | .arm a ix v => Sys2Proof.Machine.execArm a ix v s
  | .disarm a ix v => Sys2Proof.Machine.execDisarm a ix v s
  | .trig a ix v => Sys2Proof.Machine.execTrig a ix v s
  | .snap a ix v => Sys2Proof.Machine.execSnap a ix v s
  | .trcRelease a ix v => Sys2Proof.Machine.execRelease a ix v s
  | .traceDrain u => Sys2Proof.Machine.execTraceDrain u s
  | .traceCfgWrite a r ix j v => Sys2Proof.Machine.execTraceCfgWrite a r ix j v s
  | .halt a v => Sys2Proof.Machine.execHalt a v s
  | .resume a v => Sys2Proof.Machine.execResume a v s
  | .step a v => Sys2Proof.Machine.execStep a v s
  | .dbgRegWrite a ix v => Sys2Proof.Machine.execDbgRegWrite a ix v s
  | .faultPresent => Sys2Proof.Machine.execFaultPresent s
  | .fltPendClear a ix v => Sys2Proof.Machine.execFltPendClear a ix v s
  | .fltSevWrite a ix v => Sys2Proof.Machine.execFltSevWrite a ix v s
  | .fltFirstClear a v => Sys2Proof.Machine.execFltFirstClear a v s
  | .fltSwRaise a v => Sys2Proof.Machine.execFltSwRaise a v s
  | .tempMeasure k temp => Sys2Proof.Machine.execTempMeasure k temp s
  | .tuRequestAccept ch => Sys2Proof.Machine.execTuRequestAccept ch s
  | .tuResponse ch tag kind data => Sys2Proof.Machine.execTuResponse ch tag kind data s
  | .tuResetQuiesce => Sys2Proof.Machine.execTuResetQuiesce s
  | .tuInboundRequest op tag dom brick mask data => Sys2Proof.Machine.execTuInboundRequest op tag dom brick mask data s
  | .i3cPrivateWrite bytes => Sys2Proof.Machine.execI3cPrivateWrite bytes s
  | .i3cPrivateRead n => Sys2Proof.Machine.execI3cPrivateRead n s
  | .entdaa addr => Sys2Proof.Machine.execEntdaa addr s
  | .rstdaa => Sys2Proof.Machine.execRstdaa s
  | .enec => Sys2Proof.Machine.execEnec s
  | .disec => Sys2Proof.Machine.execDisec s
  | .getpid => Sys2Proof.Machine.execGetpid s
  | .getbcr => Sys2Proof.Machine.execGetbcr s
  | .getdcr => Sys2Proof.Machine.execGetdcr s
  | .getstatus => Sys2Proof.Machine.execGetstatus s
  | .getmwl => Sys2Proof.Machine.execGetmwl s
  | .getmrl => Sys2Proof.Machine.execGetmrl s
  | .bypass => Sys2Proof.Machine.execBypass s
  | .idcode => Sys2Proof.Machine.execIdcode s
  | .samplePreload bits => Sys2Proof.Machine.execSamplePreload bits s
  | .extest bits => Sys2Proof.Machine.execExtest bits s
  | .clamp => Sys2Proof.Machine.execClamp s
  | .highz => Sys2Proof.Machine.execHighz s
  | .wir w => Sys2Proof.Machine.execWir w s
  | .wdr bits => Sys2Proof.Machine.execWdr bits s
  | .aonSupplyValid => Sys2Proof.Machine.execAonSupplyValid s
  | .scratchpadGrant b => Sys2Proof.Machine.execScratchpadGrant b s
  | .bpmRequestHandshake => Sys2Proof.Machine.execBpmRequestHandshake s
  | .bpmReleaseHandshake => Sys2Proof.Machine.execBpmReleaseHandshake s
  | .inboundResponseHandshake => Sys2Proof.Machine.execInboundResponseHandshake s

end Sys2Proof.Machine
end

