-- ==== Sys2Proof/WellFormed.lean ====
section
/-! DEFINITION. Which commands are well formed: every operand within what its field, index or payload can hold. -/

namespace Sys2Proof

/-- The fields of an instruction word hold what their bits can hold (R168). -/
def IFields.wf (f : IFields) : Bool := f.pg < 8 && f.rd < 32 && f.ra < 32 && f.rb < 32 && (f.x || f.ext == 0)

/-- The fields of a kiln instruction word (R427). -/
def KFields.wf (k : KFields) : Bool :=
  k.w < 4 && k.m < 8 && k.vd < 16 && k.va < 16 && k.vb < 16 && k.aux < 256 && k.imm < 2 ^ 32

/-- An access: one of the four paths (R667), a tenant or the service domain (R671). -/
def Acc.wf (a : Acc) : Bool := a.path < 4 && a.dom ≤ 0x200

/-- The header fields of a packet hold what their bits can hold, and the payload has at most 2048 bytes (R450). -/
def Packet.wf (p : Packet) : Bool :=
  p.dst < 65536 && p.src < 65536 && p.ten < 1024 && p.vc < 8 && p.kep < 2 && p.op < 256 && p.hops < 256 && p.flags < 128 &&
  p.seq < 2 ^ 32 && p.target < 2 ^ 64 && p.tag < 2 ^ 32 && p.lgen < 256 && p.hod < 64 && p.hgen < 256 && p.e32 < 2 ^ 32 &&
  p.e36 < 2 ^ 32 && p.e40 < 65536 && p.pay.length ≤ 2048

/-- A tile has 256 bytes (R440). -/
def RxTile.wf (r : RxTile) : Bool := r.bytes.length == 256

/-- The fields of a time tile (R75). -/
def TimeBody.wf (t : TimeBody) : Bool :=
  t.kind < 256 && t.state < 8 && t.depth < 16 && t.seq < 65536 && t.master < 65536 && t.epoch < 65536 && t.t1 < 2 ^ 72 && t.t2 < 2 ^ 72 &&
  t.t3 < 2 ^ 72 && t.est < 256 && t.sender < 65536 && t.port < 256

/-- Contexts of 18 cores (R109), and ports (R27). -/
def ctxIdx (c : Nat) : Bool := c < 576
def portIdx (p : Nat) : Bool := p < 32

/-- A command is well formed. -/
def Instr.wf (i : Instr) : Bool :=
  match i with
  | .porRelease _ => true
  | .porAssert => true
  | .coreResetAssert => true
  | .coreResetRelease => true
  | .softCoreReset a _ => a.wf
  | .jtagTrst => true
  | .registerWrite a off _ => a.wf && off % 4 == 0 && off < 16777216
  | .rcRegisterRead a off => a.wf && off % 4 == 0 && off < 16777216
  | .glbLockTopo a _ => a.wf
  | .glbLockTest a _ => a.wf
  | .glbLockI3c a _ => a.wf
  | .portRoleWrite a _ _ => a.wf
  | .tenViewCfgWrite a _ _ => a.wf
  | .viewEntryWrite a _ _ => a.wf
  | .courseBoundary => true
  | .scrubDone _ _ => true
  | .readoutExpire _ => true
  | .timLoad a _ => a.wf
  | .timFreqWrite a _ => a.wf
  | .atTimeFire => true
  | .timeRequestSend p => portIdx p
  | .timeRequestReceive p t => portIdx p && t.wf
  | .timeResponseSend p => portIdx p
  | .timeResponseReceive p t => portIdx p && t.wf
  | .coreIssue n => n < 18
  | .endCmd c f => ctxIdx c && f.wf
  | .nop c f => ctxIdx c && f.wf
  | .br c f => ctxIdx c && f.wf
  | .loop c f => ctxIdx c && f.wf
  | .callImm c f => ctxIdx c && f.wf
  | .callr c f => ctxIdx c && f.wf
  | .ret c f => ctxIdx c && f.wf
  | .add c f => ctxIdx c && f.wf
  | .sub c f => ctxIdx c && f.wf
  | .andReg c f => ctxIdx c && f.wf
  | .orReg c f => ctxIdx c && f.wf
  | .xorReg c f => ctxIdx c && f.wf
  | .shl c f => ctxIdx c && f.wf
  | .shr c f => ctxIdx c && f.wf
  | .sar c f => ctxIdx c && f.wf
  | .mul c f => ctxIdx c && f.wf
  | .mulhu c f => ctxIdx c && f.wf
  | .minReg c f => ctxIdx c && f.wf
  | .maxReg c f => ctxIdx c && f.wf
  | .minu c f => ctxIdx c && f.wf
  | .maxu c f => ctxIdx c && f.wf
  | .clz c f => ctxIdx c && f.wf
  | .popc c f => ctxIdx c && f.wf
  | .addi c f => ctxIdx c && f.wf
  | .subi c f => ctxIdx c && f.wf
  | .andi c f => ctxIdx c && f.wf
  | .ori c f => ctxIdx c && f.wf
  | .xori c f => ctxIdx c && f.wf
  | .shli c f => ctxIdx c && f.wf
  | .shri c f => ctxIdx c && f.wf
  | .sari c f => ctxIdx c && f.wf
  | .muli c f => ctxIdx c && f.wf
  | .mulhui c f => ctxIdx c && f.wf
  | .mini c f => ctxIdx c && f.wf
  | .maxi c f => ctxIdx c && f.wf
  | .minui c f => ctxIdx c && f.wf
  | .maxui c f => ctxIdx c && f.wf
  | .cmpEq c f => ctxIdx c && f.wf
  | .cmpNe c f => ctxIdx c && f.wf
  | .cmpLt c f => ctxIdx c && f.wf
  | .cmpLe c f => ctxIdx c && f.wf
  | .cmpLtu c f => ctxIdx c && f.wf
  | .cmpLeu c f => ctxIdx c && f.wf
  | .cmpiEq c f => ctxIdx c && f.wf
  | .cmpiNe c f => ctxIdx c && f.wf
  | .cmpiLt c f => ctxIdx c && f.wf
  | .cmpiLe c f => ctxIdx c && f.wf
  | .cmpiLtu c f => ctxIdx c && f.wf
  | .cmpiLeu c f => ctxIdx c && f.wf
  | .pand c f => ctxIdx c && f.wf
  | .porPred c f => ctxIdx c && f.wf
  | .pxor c f => ctxIdx c && f.wf
  | .pnot c f => ctxIdx c && f.wf
  | .pget c f => ctxIdx c && f.wf
  | .pput c f => ctxIdx c && f.wf
  | .dld c f => ctxIdx c && f.wf
  | .dst c f => ctxIdx c && f.wf
  | .dsetw c f => ctxIdx c && f.wf
  | .dgetw c f => ctxIdx c && f.wf
  | .dzero c f => ctxIdx c && f.wf
  | .dmov c f => ctxIdx c && f.wf
  | .gets c f => ctxIdx c && f.wf
  | .waitSeq c f => ctxIdx c && f.wf
  | .waitFlag c cond f => ctxIdx c && cond < 8 && f.wf
  | .waitFlagAcq c cond f => ctxIdx c && cond < 8 && f.wf
  | .flagPoll c => ctxIdx c
  | .waitLimitExpire c => ctxIdx c
  | .atTime c f => ctxIdx c && f.wf
  | .timeRead c f => ctxIdx c && f.wf
  | .timeNext c f => ctxIdx c && f.wf
  | .qDone c f => ctxIdx c && f.wf
  | .qRing c f => ctxIdx c && f.wf
  | .svcRreg c f => ctxIdx c && f.wf
  | .svcWreg c f => ctxIdx c && f.wf
  | .schedSample c f => ctxIdx c && f.wf
  | .schedFence c f => ctxIdx c && f.wf
  | .schedLease c f => ctxIdx c && f.wf
  | .schedEpoch c f => ctxIdx c && f.wf
  | .schedRoute c f => ctxIdx c && f.wf
  | .schedSchedule c f => ctxIdx c && f.wf
  | .schedModule c f => ctxIdx c && f.wf
  | .put c f => ctxIdx c && f.wf
  | .get c f => ctxIdx c && f.wf
  | .copy c f => ctxIdx c && f.wf
  | .scatter c f => ctxIdx c && f.wf
  | .gather c f => ctxIdx c && f.wf
  | .atomFadd c _ f => ctxIdx c && f.wf
  | .atomSwap c _ f => ctxIdx c && f.wf
  | .atomCas c _ f => ctxIdx c && f.wf
  | .atomMin c _ f => ctxIdx c && f.wf
  | .atomMax c _ f => ctxIdx c && f.wf
  | .atomMinu c _ f => ctxIdx c && f.wf
  | .atomMaxu c _ f => ctxIdx c && f.wf
  | .atomAnd c _ f => ctxIdx c && f.wf
  | .atomOr c _ f => ctxIdx c && f.wf
  | .atomXor c _ f => ctxIdx c && f.wf
  | .measure c f => ctxIdx c && f.wf
  | .fence c f => ctxIdx c && f.wf
  | .rel c f => ctxIdx c && f.wf
  | .acq c f => ctxIdx c && f.wf
  | .publish c f => ctxIdx c && f.wf
  | .bondStart c f => ctxIdx c && f.wf
  | .bondStep c f => ctxIdx c && f.wf
  | .bondWait c f => ctxIdx c && f.wf
  | .bondQuery c f => ctxIdx c && f.wf
  | .kilnLoad c f => ctxIdx c && f.wf
  | .kilnParam c f => ctxIdx c && f.wf
  | .tailDoorbell a _ _ => a.wf
  | .headDoorbell a _ _ => a.wf
  | .sqEnable a _ _ => a.wf
  | .sqDisable a _ _ => a.wf
  | .sqAbort a _ _ => a.wf
  | .cqEnable a _ _ => a.wf
  | .cqDisable a _ _ => a.wf
  | .ctxCfgWrite a _ _ => a.wf
  | .commandFetch c => ctxIdx c
  | .commandComplete c _ => ctxIdx c
  | .completionRecordWrite _ => true
  | .trwCodeWrite a _ _ => a.wf
  | .hodCfgWrite a _ _ => a.wf
  | .putPacket q p => (portIdx q || q == 255) && p.wf
  | .getReq q p => (portIdx q || q == 255) && p.wf
  | .atomReq q p => (portIdx q || q == 255) && p.wf
  | .copyReq q p => (portIdx q || q == 255) && p.wf
  | .measureReq q p => (portIdx q || q == 255) && p.wf
  | .publishPacket q p => (portIdx q || q == 255) && p.wf
  | .signal q p => (portIdx q || q == 255) && p.wf
  | .mmsg q p => (portIdx q || q == 255) && p.wf
  | .copyData q p => (portIdx q || q == 255) && p.wf
  | .pageFwd q p => (portIdx q || q == 255) && p.wf
  | .getData q p => (portIdx q || q == 255) && p.wf
  | .atomRsp q p => (portIdx q || q == 255) && p.wf
  | .measureRsp q p => (portIdx q || q == 255) && p.wf
  | .ack q p => (portIdx q || q == 255) && p.wf
  | .nack q p => (portIdx q || q == 255) && p.wf
  | .done q p => (portIdx q || q == 255) && p.wf
  | .ackTimer _ => true
  | .replayTimeout _ _ _ => true
  | .hodFlowReset a _ => a.wf
  | .flowResetDone => true
  | .mcLeafSkip _ => true
  | .bpmAnswer _ _ _ => true
  | .bpmTimeout _ => true
  | .hodRxRelease a _ => a.wf
  | .mailboxCfgWrite a _ _ _ _ => a.wf
  | .rcbExpire _ _ => true
  | .rcbCfgWrite a _ => a.wf
  | .bondCfgValid a _ _ => a.wf
  | .bondEntryWrite a _ _ _ _ => a.wf
  | .bndSlotCfgWrite a _ _ => a.wf
  | .bndSlotStoreWrite a _ _ => a.wf
  | .stepData q p => (portIdx q || q == 255) && p.wf
  | .grant q p => (portIdx q || q == 255) && p.wf
  | .stepAck q p => (portIdx q || q == 255) && p.wf
  | .late q p => (portIdx q || q == 255) && p.wf
  | .reform q p => (portIdx q || q == 255) && p.wf
  | .stopCtl q p => (portIdx q || q == 255) && p.wf
  | .check q p => (portIdx q || q == 255) && p.wf
  | .stepResendTimeout _ _ => true
  | .bondStepTimeout _ => true
  | .lateRetryTimeout _ => true
  | .coordCollectEnd _ => true
  | .bondStepComplete _ => true
  | .klnSlotCfgWrite a _ _ => a.wf
  | .kilnUnit cl ln => cl < 20 && ln < 8
  | .kilnDrain cl _ => cl < 20
  | .kilnEnd cl ln k => cl < 20 && ln < 8 && k.wf
  | .kilnNop cl ln k => cl < 20 && ln < 8 && k.wf
  | .kilnLdi cl ln k => cl < 20 && ln < 8 && k.wf
  | .kilnBcp cl ln k => cl < 20 && ln < 8 && k.wf
  | .kilnIota cl ln k => cl < 20 && ln < 8 && k.wf
  | .kilnMov cl ln k => cl < 20 && ln < 8 && k.wf
  | .kilnAdd cl ln k => cl < 20 && ln < 8 && k.wf
  | .kilnSub cl ln k => cl < 20 && ln < 8 && k.wf
  | .kilnAdds cl ln k => cl < 20 && ln < 8 && k.wf
  | .kilnSubs cl ln k => cl < 20 && ln < 8 && k.wf
  | .kilnMul cl ln k => cl < 20 && ln < 8 && k.wf
  | .kilnMulh cl ln k => cl < 20 && ln < 8 && k.wf
  | .kilnMin cl ln k => cl < 20 && ln < 8 && k.wf
  | .kilnMax cl ln k => cl < 20 && ln < 8 && k.wf
  | .kilnAnd cl ln k => cl < 20 && ln < 8 && k.wf
  | .kilnOr cl ln k => cl < 20 && ln < 8 && k.wf
  | .kilnXor cl ln k => cl < 20 && ln < 8 && k.wf
  | .kilnAndn cl ln k => cl < 20 && ln < 8 && k.wf
  | .kilnShl cl ln k => cl < 20 && ln < 8 && k.wf
  | .kilnSar cl ln k => cl < 20 && ln < 8 && k.wf
  | .kilnShr cl ln k => cl < 20 && ln < 8 && k.wf
  | .kilnShlv cl ln k => cl < 20 && ln < 8 && k.wf
  | .kilnSarv cl ln k => cl < 20 && ln < 8 && k.wf
  | .kilnRsh cl ln k => cl < 20 && ln < 8 && k.wf
  | .kilnRshv cl ln k => cl < 20 && ln < 8 && k.wf
  | .kilnSel cl ln k => cl < 20 && ln < 8 && k.wf
  | .kilnWiden cl ln k => cl < 20 && ln < 8 && k.wf
  | .kilnNarrow cl ln k => cl < 20 && ln < 8 && k.wf
  | .kilnUnpk4 cl ln k => cl < 20 && ln < 8 && k.wf
  | .kilnPack4 cl ln k => cl < 20 && ln < 8 && k.wf
  | .kilnExpx cl ln k => cl < 20 && ln < 8 && k.wf
  | .kilnPerm cl ln k => cl < 20 && ln < 8 && k.wf
  | .kilnGmax cl ln k => cl < 20 && ln < 8 && k.wf
  | .kilnGsum cl ln k => cl < 20 && ln < 8 && k.wf
  | .kilnCmpeq cl ln k => cl < 20 && ln < 8 && k.wf
  | .kilnCmplt cl ln k => cl < 20 && ln < 8 && k.wf
  | .kilnCmple cl ln k => cl < 20 && ln < 8 && k.wf
  | .kilnCmpltu cl ln k => cl < 20 && ln < 8 && k.wf
  | .kilnKand cl ln k => cl < 20 && ln < 8 && k.wf
  | .kilnKor cl ln k => cl < 20 && ln < 8 && k.wf
  | .kilnKnot cl ln k => cl < 20 && ln < 8 && k.wf
  | .kilnTopm cl ln k => cl < 20 && ln < 8 && k.wf
  | .kilnEmit cl ln k => cl < 20 && ln < 8 && k.wf
  | .kilnEmitm cl ln k => cl < 20 && ln < 8 && k.wf
  | .kilnEmitk cl ln k => cl < 20 && ln < 8 && k.wf
  | .kilnPackz cl ln k => cl < 20 && ln < 8 && k.wf
  | .kilnLds cl ln k => cl < 20 && ln < 8 && k.wf
  | .tileReceive p r => portIdx p && r.wf
  | .tileSend p => portIdx p
  | .packetForward q p => (portIdx q || q == 255) && p.wf
  | .noRouteTimeout _ => true
  | .routeCommit a _ => a.wf
  | .mcCommit a _ => a.wf
  | .cirShadowWrite a _ p _ _ => a.wf && portIdx p
  | .cirPalletWrite a _ _ _ _ => a.wf
  | .restore a _ _ => a.wf
  | .cirNotice a _ => a.wf
  | .rteThrottleWrite a _ => a.wf
  | .caps p b => portIdx p && b.length == 240
  | .advert p b => portIdx p && b.length == 240
  | .drop p b => portIdx p && b.length == 240
  | .resyncReq p b => portIdx p && b.length == 240
  | .retrainReq p b => portIdx p && b.length == 240
  | .widthReq p b => portIdx p && b.length == 240
  | .widthAck p b => portIdx p && b.length == 240
  | .spareReq p b => portIdx p && b.length == 240
  | .spareAck p b => portIdx p && b.length == 240
  | .spareDone p b => portIdx p && b.length == 240
  | .downNotice p b => portIdx p && b.length == 240
  | .lctlRepeat p _ => portIdx p
  | .dropReport p => portIdx p
  | .resyncTimeout p => portIdx p
  | .linkEnable a _ _ => a.wf
  | .linkDisable a _ _ => a.wf
  | .lnkRetrain a _ _ => a.wf
  | .lnkWiden a _ _ => a.wf
  | .lnkResync a _ _ => a.wf
  | .lnkRetry a _ _ => a.wf
  | .lnkForceDown a _ _ => a.wf
  | .lnkSpareGo a _ _ => a.wf
  | .lnkCfgWrite a _ _ => a.wf
  | .lnkCreditCfgWrite a _ _ _ => a.wf
  | .detectDone p _ => portIdx p
  | .lockDone p _ => portIdx p
  | .lockTimeout p => portIdx p
  | .configTimeout p => portIdx p
  | .equalizeDone p => portIdx p
  | .equalizeTimeout p => portIdx p
  | .verifyDone p _ _ => portIdx p
  | .creditTimeout p => portIdx p
  | .retrainTimeout p => portIdx p
  | .backoffExpire p => portIdx p
  | .laneLockLoss p l => portIdx p && l < 18
  | .spareSwitch p => portIdx p
  | .spareTimeout p => portIdx p
  | .equaliserConverged p l _ => portIdx p && l < 18
  | .widthSwitch p => portIdx p
  | .widthWithdraw p => portIdx p
  | .linkSilent p => portIdx p
  | .optPortCfgWrite a _ _ => a.wf
  | .lossOfLight p l _ => portIdx p && l < 18
  | .laneDark p l => portIdx p && l < 18
  | .laneLit p l => portIdx p && l < 18
  | .opticalDown p => portIdx p
  | .lmPresenceChange m _ => m < 8
  | .lmProbeStart m => m < 8
  | .lmProbeDone m ident => m < 8 && ident.length == 56
  | .lmPoll m bias _ => m < 8 && bias.length == 6
  | .lmXactFail m => m < 8
  | .lmHoursTick m => m < 8
  | .lmDisable a _ _ => a.wf
  | .lmCmd a _ _ => a.wf
  | .lmCmdDone m _ _ => m < 8
  | .secTenCfgWrite a _ _ => a.wf
  | .tenWinWrite a _ _ _ _ => a.wf
  | .report a _ => a.wf
  | .exchange a _ => a.wf
  | .install a _ => a.wf
  | .clear a _ => a.wf
  | .kxDone _ => true
  | .sweepCmd a _ => a.wf
  | .sweepDone => true
  | .epochZeroise _ _ => true
  | .rcoscStable => true
  | .roscStable _ => true
  | .roscTimeout => true
  | .pllLock _ => true
  | .pllUnlock _ => true
  | .monitorWindow _ _ _ => true
  | .clockSwitch _ => true
  | .dividerStep => true
  | .cclkReturn a _ => a.wf
  | .clkObsCfgWrite a _ => a.wf
  | .sramInitDone => true
  | .bootDoor a _ => a.wf
  | .bootVerifyDone => true
  | .identityDone => true
  | .stageGo a _ _ => a.wf
  | .stageDone _ => true
  | .stageDiscard a _ _ => a.wf
  | .oldRangeExpire _ => true
  | .ctrSelectWrite a _ _ _ _ => a.wf
  | .sampleChannelWrite a _ _ _ _ => a.wf
  | .pcSample _ => true
  | .traceStopped u => u < 4
  | .arm a _ _ => a.wf
  | .disarm a _ _ => a.wf
  | .trig a _ _ => a.wf
  | .snap a _ _ => a.wf
  | .trcRelease a _ _ => a.wf
  | .traceDrain u => u < 4
  | .traceCfgWrite a _ _ _ _ => a.wf
  | .halt a _ => a.wf
  | .resume a _ => a.wf
  | .step a _ => a.wf
  | .dbgRegWrite a _ _ => a.wf
  | .faultPresent => true
  | .fltPendClear a _ _ => a.wf
  | .fltSevWrite a _ _ => a.wf
  | .fltFirstClear a _ => a.wf
  | .fltSwRaise a _ => a.wf
  | .tempMeasure _ _ => true
  | .tuRequestAccept _ => true
  | .tuResponse _ _ _ data => data.length < 65536
  | .tuResetQuiesce => true
  | .tuInboundRequest _ _ _ _ _ data => data.length < 65536
  | .i3cPrivateWrite bytes => bytes.length < 65536
  | .i3cPrivateRead _ => true
  | .entdaa _ => true
  | .rstdaa => true
  | .enec => true
  | .disec => true
  | .getpid => true
  | .getbcr => true
  | .getdcr => true
  | .getstatus => true
  | .getmwl => true
  | .getmrl => true
  | .bypass => true
  | .idcode => true
  | .samplePreload bits => bits.length < 65536
  | .extest bits => bits.length < 65536
  | .clamp => true
  | .highz => true
  | .wir _ => true
  | .wdr bits => bits.length < 65536
  | .aonSupplyValid => true
  | .scratchpadGrant _ => true
  | .bpmRequestHandshake => true
  | .bpmReleaseHandshake => true
  | .inboundResponseHandshake => true

end Sys2Proof
end

