-- ==== Sys2Proof/Safety.lean ====
section
/-! DEFINITION. What the claims mean by a state in good order: the canonical form of the scratchpad, and a block whose CORE runs in service. -/

namespace Sys2Proof.Machine

open Sys2Proof

/-- The scratchpad's listing is canonical: addresses rise strictly and no byte listed is zero, which an unlisted byte reads as. -/
def Memory.wf (m : List Host.Cell) : Bool := tabWf 0 m

/-- The block is in service: CORE runs (R590) and start-up has reached FIRMWARE (R613). -/
def Serving (s : State) : Bool := coreRuns s && inService s

/-- Byte offsets of the observation registers and of the fault registers (16). -/
def obsOff (k : Nat) : Bool := 0x700000 ≤ k && k < 0x780300

/-- Byte offsets of the access-error registers (R675). -/
def errOff (k : Nat) : Bool := 0x10 ≤ k && k < 0x1C

/-- The registers at the offsets outside p are the same in two states. -/
def RegsKept (p : Nat → Bool) (s t : State) : Prop := ∀ d k, p k = false → tabGet d k t.regs = tabGet d k s.regs

/-- A state without what only watches the block. -/
def unwatched (t : State) : State := { t with regs := [], obs := Obs.reset, clk := { t.clk with gapCore := false } }

/-- `t` is `s` but for what only watches the block: the registers at the offsets p, the trace buffers and the other state of observation, and
the mark of a gap. -/
def Watched (p : Nat → Bool) (s t : State) : Prop :=
  RegsKept p s t ∧ unwatched t = unwatched s

/-! ### Instructions of Floug -/

/-- Context c can issue, the instruction of fields f and form m names no pending register and has no bad field, its extension word lies in
the segment, and its guard is on: the instruction takes its own effect (R171, R177, R213). -/
def Issues (s : State) (c : Nat) (f : IFields) (m : Form) : Bool :=
  canIssue s c && !(regPending (ctxOf s c) f m) && !(formBad f m) && !(f.pg == 0 && f.pn) && guardOn (ctxOf s c) f &&
  (!f.x || (ctxOf s c).pc.word + 1 < segLen s c)

/-- From s to t only context c, the limits of running collectives and what watches the block have changed. -/
def OnlyCtx (s t : State) (c : Nat) : Prop :=
  RegsKept obsOff s t ∧ unwatched { t with prog := s.prog, bnd := s.bnd } = unwatched s ∧
  { t.prog with ctx := s.prog.ctx } = s.prog ∧ ∀ c', c' ≠ c → ctxOf t c' = ctxOf s c'

/-- The register files of a context are the same. -/
def FilesKept (x y : Ctx) : Prop := y.g = x.g ∧ y.d = x.d ∧ y.p = x.p

/-- The general register r of context c holds v in t, and every other register of its files is as in s; register 0 reads zero and discards
writes (R174). -/
def WroteG (s t : State) (c r : Nat) (v : W64) : Prop :=
  (∀ k, gReg (ctxOf t c) k = if k = r ∧ r ≠ 0 then v else gReg (ctxOf s c) k) ∧
  (∀ k, dReg (ctxOf t c) k = dReg (ctxOf s c) k) ∧ (∀ k, pReg (ctxOf t c) k = pReg (ctxOf s c) k)

/-- The predicate register r (not p0) of context c holds b in t, and every other register of its files is as in s. -/
def WroteP (s t : State) (c r : Nat) (b : Bool) : Prop :=
  (∀ k, gReg (ctxOf t c) k = gReg (ctxOf s c) k) ∧ (∀ k, dReg (ctxOf t c) k = dReg (ctxOf s c) k) ∧
  (∀ k, k < 8 → pReg (ctxOf t c) k = if k = r ∧ r ≠ 0 then b else pReg (ctxOf s c) k)

/-- The descriptor register r of context c holds v in t, and every other register of its files is as in s. -/
def WroteD (s t : State) (c r : Nat) (v : BitVec 512) : Prop :=
  (∀ k, gReg (ctxOf t c) k = gReg (ctxOf s c) k) ∧ (∀ k, dReg (ctxOf t c) k = if k = r then v else dReg (ctxOf s c) k) ∧
  (∀ k, pReg (ctxOf t c) k = pReg (ctxOf s c) k)

/-- The state in which an instruction that has just issued acts: the issue has been counted and traced, its command has started. -/
def issued (s : State) (c maj fn : Nat) (f : IFields) : State := countIssue s c (encodeWord maj fn f)

/-- The command that context c executed in s has raised the status st in t: it stands last among the statuses of the command. -/
def Raised (s t : State) (c : Nat) (st : Stat) : Prop :=
  ∃ k m, (ctxOf s c).cur = some k ∧ cmdOf t c k = some m ∧ m.stats.getLast? = some st

/-- The two-operand functions of the general registers (R182): constructor, whether RB names a register, and the result. -/
def aluTable : List ((Nat → IFields → Instr) × FK × (W64 → W64 → W64)) :=
  [(.add, .gr, fun a b => a + b), (.sub, .gr, fun a b => a - b), (.andReg, .gr, fun a b => a &&& b), (.orReg, .gr, fun a b => a ||| b),
   (.xorReg, .gr, fun a b => a ^^^ b), (.shl, .gr, fun a b => a <<< (b.toNat % 64)), (.shr, .gr, fun a b => a >>> (b.toNat % 64)),
   (.sar, .gr, fun a b => a.sshiftRight (b.toNat % 64)), (.mul, .gr, fun a b => a * b),
   (.mulhu, .gr, fun a b => BitVec.ofNat 64 (a.toNat * b.toNat / 2 ^ 64)),
   (.minReg, .gr, fun a b => BitVec.ofInt 64 (min a.toInt b.toInt)), (.maxReg, .gr, fun a b => BitVec.ofInt 64 (max a.toInt b.toInt)),
   (.minu, .gr, fun a b => BitVec.ofNat 64 (min a.toNat b.toNat)), (.maxu, .gr, fun a b => BitVec.ofNat 64 (max a.toNat b.toNat)),
   (.clz, .z, fun a _ => BitVec.ofNat 64 ((List.range 64).takeWhile (fun i => !a.getLsbD (63 - i))).length),
   (.popc, .z, fun a _ => BitVec.ofNat 64 ((List.range 64).map (fun i => (a.getLsbD i).toNat)).sum)]

/-- The functions with an immediate second operand (R183). -/
def aluiTable : List ((Nat → IFields → Instr) × (W64 → W64 → W64)) :=
  [(.addi, fun a b => a + b), (.subi, fun a b => a - b), (.andi, fun a b => a &&& b), (.ori, fun a b => a ||| b), (.xori, fun a b => a ^^^ b),
   (.shli, fun a b => a <<< (b.toNat % 64)), (.shri, fun a b => a >>> (b.toNat % 64)), (.sari, fun a b => a.sshiftRight (b.toNat % 64)),
   (.muli, fun a b => a * b), (.mulhui, fun a b => BitVec.ofNat 64 (a.toNat * b.toNat / 2 ^ 64)),
   (.mini, fun a b => BitVec.ofInt 64 (min a.toInt b.toInt)), (.maxi, fun a b => BitVec.ofInt 64 (max a.toInt b.toInt)),
   (.minui, fun a b => BitVec.ofNat 64 (min a.toNat b.toNat)), (.maxui, fun a b => BitVec.ofNat 64 (max a.toNat b.toNat))]

/-- The comparisons (R184): constructor of CMP, constructor of CMPI, condition. -/
def cmpTable : List ((Nat → IFields → Instr) × (Nat → IFields → Instr) × (W64 → W64 → Bool)) :=
  [(.cmpEq, .cmpiEq, fun a b => a.toNat == b.toNat), (.cmpNe, .cmpiNe, fun a b => a.toNat != b.toNat),
   (.cmpLt, .cmpiLt, fun a b => decide (a.toInt < b.toInt)), (.cmpLe, .cmpiLe, fun a b => decide (a.toInt ≤ b.toInt)),
   (.cmpLtu, .cmpiLtu, fun a b => decide (a.toNat < b.toNat)), (.cmpLeu, .cmpiLeu, fun a b => decide (a.toNat ≤ b.toNat))]

/-- The second operand of an immediate form: the extension word, or IMM sign-extended (R183). -/
def immOf (f : IFields) : W64 := if f.x then f.ext else f.imm.signExtend 64

/-- The state t holds an access to the own device's memory: a read or a write of `len` bytes from `addr` of a space, with its data, for a purpose. -/
def Accesses (t : State) (op : MemOp) (space addr len : Nat) (d : List Byte) (why : Why) : Prop :=
  ∃ x ∈ t.xf.txns, x.op = op ∧ x.space = space ∧ x.why = why ∧ x.parts = brickParts (len / 128 + 2) addr len d

/-- Context c changed alone, and no register of its files. -/
def Kept (s t : State) (c : Nat) : Prop := OnlyCtx s t c ∧ FilesKept (ctxOf s c) (ctxOf t c)

/-- The place that a branch of offset n names: within the segment of the program counter, a command's own words from word 1 (R189). -/
def BranchTo (s : State) (c : Nat) (n : Int) (p : Pt) : Prop :=
  p.code = (ctxOf s c).pc.code ∧ (p.word : Int) = ((ctxOf s c).pc.word : Int) + n ∧ (p.code = false → 1 ≤ p.word) ∧ p.word < segLen s c

/-- The kinds of the scheduling instructions (Table - at-time kinds). -/
def schedTable : List ((Nat → IFields → Instr) × Nat) :=
  [(.schedSample, 0), (.schedFence, 1), (.schedLease, 2), (.schedEpoch, 3), (.schedRoute, 4), (.schedSchedule, 5), (.schedModule, 6)]

/-- PUT, GET and COPY with the function number and the kind of operation. -/
def xferTable : List ((Nat → IFields → Instr) × Nat × OpKind) := [(.put, 0, .put), (.get, 1, .get), (.copy, 2, .copy)]

/-- SCATTER and GATHER. -/
def listTable : List ((Nat → IFields → Instr) × Nat × OpKind) := [(.scatter, 3, .scatter), (.gather, 4, .gather)]

/-- The atomics by operation number. -/
def atomTable : List ((Nat → Bool → IFields → Instr) × Nat) :=
  [(.atomFadd, 0), (.atomSwap, 1), (.atomCas, 2), (.atomMin, 3), (.atomMax, 4), (.atomMinu, 5), (.atomMaxu, 6), (.atomAnd, 7), (.atomOr, 8),
   (.atomXor, 9)]

/-- FENCE, REL and ACQ: function number, whether it releases, whether it acquires. -/
def orderTable : List ((Nat → IFields → Instr) × Nat × Bool × Bool) := [(.fence, 0, true, true), (.rel, 1, true, false), (.acq, 2, false, true)]

/-! ### Writes of registers -/

/-- From s to t only the registers at the offsets l and what watches the block have changed. -/
def Writes (l : List Nat) (s t : State) : Prop := Watched (fun k => obsOff k || l.contains k) s t

/-- The same with the access-error registers. -/
def WritesErr (l : List Nat) (s t : State) : Prop := Watched (fun k => obsOff k || errOff k || l.contains k) s t

/-- The offsets of entry (i, j) of registers. -/
def offs (l : List RegName) (i : Nat := 0) (j : Nat := 0) : List Nat := l.map (fun r => regOff r i j)

/-- A write of w by a requester lands on entry (i, j) of register r: the entry is mapped, it can be accessed, the domain may write it, and w
sets no reserved bit and no reserved encoding (R19, R665 to R674, R678). -/
def Lands (s : State) (a : Acc) (r : RegName) (i j : Nat) (w : W32) : Bool :=
  regReach s a.path (regOff r i j) == 2 && regAt (regOff r i j) == some (r, i, j) && !(a.path == 3 && s.on GLB_LOCK.I3C) && r != .TEN_DB &&
  (a.path != 0 || a.dom == serviceDom || tenMayWrite a.dom r i) && !(regAbsent s r i) && w.toNat &&& (0xFFFFFFFF - regDefined r) == 0 &&
  (fldReserved r (regMerge s r i j w.toNat)).isEmpty

/-- The block after a write has done its effect: it does what is then due, and answers on the register channel with zero (R696). -/
def Answered (a : Acc) (t : State) : State :=
  let u := settle t
  if a.path = 0 then { u with rgAns := some (0, 0) } else u

/-- What the access types leave in entry (i, j) of a register that is written with w (R18). -/
def merged (s : State) (r : RegName) (i j : Nat) (w : W32) : W32 := BitVec.ofNat 32 (regMerge s r i j w.toNat)

/-- A fault source is pending. -/
def Pends (t : State) (src : Nat) : Prop := fltPending t src = true

/-- A write was refused: its bit of GLB_ACCESS_ERR is set, ACCESS_ERR is raised, and no register but those of the capture has changed (R675). -/
def RefusedWith (s t : State) (f : Fld) : Prop := t.get f = 1 ∧ Pends t 11 ∧ WritesErr [] s t

/-- A write reaches a doorbell register of a queue or ring (R34, R124). -/
def Rings (s : State) (a : Acc) (k : Nat) : Bool :=
  regReach s a.path (regOff .TEN_DB k 0) == 2 && regAt (regOff .TEN_DB k 0) == some (.TEN_DB, k, 0) && !(a.path == 3 && s.on GLB_LOCK.I3C)

/-- The domain that a requester acts for (R671). -/
def domOf (a : Acc) : Nat := if a.path = 0 then a.dom else serviceDom

/-- The registers of leases: row, register, kind of unit, place of the enable bit. -/
def LeaseRow (x : (Acc → Nat → W32 → Instr) × RegName × Nat × Nat) : Prop :=
  x ∈ [(.ctxCfgWrite, .TRW_CTX_CFG, 6, 24), (.hodCfgWrite, .HOD_CFG, 4, 31), (.bndSlotCfgWrite, .BND_SLOT_CFG, 1, 31),
   (.klnSlotCfgWrite, .KLN_SLOT_CFG, 2, 31), (fun a i w => .cirPalletWrite a .CIR_PALLET_LEASE i 0 w, .CIR_PALLET_LEASE, 5, 31)]

/-- Rows whose write has no effect beyond its register: row, register. -/
def PlainRow (x : (Acc → Nat → Nat → W32 → Instr) × RegName) : Prop :=
  x ∈ [(fun a _ _ w => .clkObsCfgWrite a w, .CLK_OBS_CFG), (fun a i _ w => .fltSevWrite a i w, .FLT_SEV),
   (fun a i j w => .ctrSelectWrite a .OBS_CTR_UNIT i j w, .OBS_CTR_UNIT), (fun a i j w => .sampleChannelWrite a .OBS_SMP_HEAD i j w, .OBS_SMP_HEAD),
   (fun a i j w => .traceCfgWrite a .OBS_TRC_TAG_VAL i j w, .OBS_TRC_TAG_VAL), (fun a i j w => .traceCfgWrite a .OBS_TRC_TAG_MASK i j w, .OBS_TRC_TAG_MASK),
   (fun a i j w => .traceCfgWrite a .OBS_TRC_PORT_MASK i j w, .OBS_TRC_PORT_MASK), (fun a i j w => .cirPalletWrite a .CIR_PALLET_ENDS i j w, .CIR_PALLET_ENDS),
   (fun a i j w => .registerWrite a (regOff .LNK_ERR_CFG i j) w, .LNK_ERR_CFG), (fun a i j w => .registerWrite a (regOff .TIM_LOOP i j) w, .TIM_LOOP),
   (fun a i j w => .registerWrite a (regOff .GLB_TEMP_CFG i j) w, .GLB_TEMP_CFG), (fun a i j w => .registerWrite a (regOff .TIM_ASYM i j) w, .TIM_ASYM)]

/-! ### Events -/

/-- A port's time exchange after a time tile of its peer: the peer's state, depth, master and master epoch are the tile's (R78, R81). -/
def heard (x : PortTime) (b : TimeBody) : PortTime :=
  { x with peerState := b.state, peerDepth := b.depth, peerMaster := b.master, peerEpoch := b.epoch }

/-- A packet reaches this device and is taken: the block is in service, no discard of R722 and no fence applies, and it names this device. -/
def Arrives (s : State) (p : Packet) : Bool := Serving s && screen p == 0 && !(fenceDrops s p) && p.dst == ownFlat s && !(isGroup p.dst)

/-- A packet bears the number that its flow expects, nothing of the flow waits, and nothing is held behind it (R267). -/
def AtHead (s : State) (p : Packet) : Bool :=
  (rxOf s (rxKey p)).expected == p.seq && p.seq < 2 ^ 32 && (rxOf s (rxKey p)).cur.isNone && (rxOf s (rxKey p)).held.isEmpty && p.src < 65536 && p.vc < 16

/-- The target grants a request on plain memory: no check of R548 fails, and it is for no mailbox, page or kiln slot. -/
def Permits (s : State) (p : Packet) : Bool :=
  (targetCheck s p).isNone && (windowCheck s p).isNone && (spaceOf p.target != 0 || isSw s || (mboxAt s (offsetOf p.target)).isNone) &&
  !(isPage s p) && !(isKilnPkt p) && !(conf s p.ten)

/-- No replay entry has the flow and number of r any more. -/
def Closed (t : State) (r : Replay) : Prop := ∀ x ∈ allReplay t, ¬ (x.flow = r.flow ∧ x.seq = r.seq)

/-- A packet answers replay entry r of operation o at this device. -/
def Answers (s : State) (p : Packet) (r : Replay) (o : Op) : Prop :=
  Arrives s p = true ∧ rspEntry s p = some r ∧ rspStale s p = false ∧ conf s p.ten = false ∧ opById s r.op = some o

/-- A control message of a kind reaches bond b of this device under its tenant (R360, R361); the epoch it names is ep. -/
def Controls (s : State) (p : Packet) (kind b ep : Nat) : Prop :=
  Arrives s p = true ∧ p.op = 0x41 ∧ leAt p.pay 0 1 = kind ∧ b = p.e32 % 4096 ∧ bondValid s b = true ∧ p.ten = s.get BND_BOND_CFG.TENANT b ∧ ep = leAt p.pay 4 4

/-- A collective runs at this device: it is the one of its slot and of its bond. -/
def Runs (s : State) (c : Coll) : Prop := c.slot < 32 ∧ c.bond < 4096 ∧ collAt s c.slot = some c ∧ collOfBond s c.bond = some c

/-! ### Lanes of the kiln -/

/-- Lane ln of cluster cl can run the instruction OP with fields k: CORE runs, no side input is awaited, and KILN.LOAD accepts its word. -/
def LaneRuns (s : State) (cl ln op : Nat) (k : KFields) : Prop :=
  coreRuns s = true ∧ cl < 20 ∧ ln < 8 ∧ (laneOf s (8 * cl + ln)).wait = none ∧ kWordBad (kWord op k) = none ∧ kFields (kWord op k) = k

/-- From s to t nothing but lane i has changed. -/
def LaneOnly (s t : State) (i : Nat) : Prop :=
  { t with kiln := { t.kiln with lanes := s.kiln.lanes } } = s ∧ ∀ j, j ≠ i → laneOf t j = laneOf s j

/-- Vector register vd of lane i has a value of R v in t at each element j of width w that the mask selects; every other element, register
and lane is as in s (R427). -/
def WroteV (s t : State) (i vd w mask : Nat) (R : Nat → Nat → Prop) : Prop :=
  LaneOnly s t i ∧ { laneOf t i with v := (laneOf s i).v } = laneOf s i ∧ (∀ r, r ≠ vd → lv (laneOf t i) r = lv (laneOf s i) r) ∧
  ∀ j, j < elCount w → if mask.testBit j then R j (kEl (lv (laneOf t i) vd) w j) else kEl (lv (laneOf t i) vd) w j = kEl (lv (laneOf s i) vd) w j

/-- Mask register vd of lane i holds B j in t at each element that the mask selects and 0 at the others; k0 discards the write; every other
register and lane is as in s (R422, R427). -/
def WroteK (s t : State) (i vd w mask : Nat) (B : Nat → Prop) : Prop :=
  LaneOnly s t i ∧ { laneOf t i with k := (laneOf s i).k } = laneOf s i ∧ (∀ r, r < 8 → r ≠ vd ∨ vd = 0 → lk (laneOf t i) r = lk (laneOf s i) r) ∧
  (vd ≠ 0 → ∀ j, j < elCount w → ((lk (laneOf t i) vd).testBit j = true ↔ mask.testBit j = true ∧ B j))

/-- The output of lane i has grown by d; every register and every other lane is as in s. -/
def Emitted (s t : State) (i : Nat) (d : List Byte) : Prop :=
  LaneOnly s t i ∧ { laneOf t i with out := (laneOf s i).out } = laneOf s i ∧ (laneOf t i).out = (laneOf s i).out ++ d

/-- The greatest signed value of w bits that is at most, and the least that is at least, x: x saturated. -/
def satTo (bw : Nat) (x : Int) : Int := max (-(2 ^ (bw - 1))) (min (2 ^ (bw - 1) - 1) x)

/-- q is n / 2^sh rounded half to even. -/
def RoundsTo (n : Int) (sh : Nat) (q : Int) : Prop := 2 * (n - q * 2 ^ sh).natAbs ≤ 2 ^ sh ∧ (2 * (n - q * 2 ^ sh).natAbs = 2 ^ sh → q % 2 = 0)

/-- The kiln operations that give each selected element a value (Table - Kiln operations): row, OP, and what the new value v of element j is, from
the fields, the unit and parameter block, and the lane. -/
def KilnElem (x : (Nat → Nat → KFields → Instr) × Nat × (KFields → KEnv → Lane → Nat → Nat → Prop)) : Prop :=
  x ∈ [(.kilnLdi, 0x02, fun k _ _ _ v => v = unsgn (elBits k.w) (sgn 32 k.imm)),
   (.kilnBcp, 0x03, fun k e _ _ v => v = bits e.param.toNat (8 * k.aux) (elBits k.w)),
   (.kilnIota, 0x04, fun k e _ j v => v = (bits e.param.toNat 0 32 + e.n0 + j + k.imm) % 2 ^ elBits k.w),
   (.kilnMov, 0x05, fun k _ l j v => v = kEl (lv l k.va) k.w j),
   (.kilnAdd, 0x08, fun k _ l j v => v = (kEl (lv l k.va) k.w j + kEl (lv l k.vb) k.w j) % 2 ^ elBits k.w),
   (.kilnSub, 0x09, fun k _ l j v => (v + kEl (lv l k.vb) k.w j) % 2 ^ elBits k.w = kEl (lv l k.va) k.w j),
   (.kilnAdds, 0x0A, fun k _ l j v => sgn (elBits k.w) v = satTo (elBits k.w) (kElS (lv l k.va) k.w j + kElS (lv l k.vb) k.w j)),
   (.kilnSubs, 0x0B, fun k _ l j v => sgn (elBits k.w) v = satTo (elBits k.w) (kElS (lv l k.va) k.w j - kElS (lv l k.vb) k.w j)),
   (.kilnMul, 0x0C, fun k _ l j v => v = kEl (lv l k.va) k.w j * kEl (lv l k.vb) k.w j % 2 ^ elBits k.w),
   (.kilnMulh, 0x0D, fun k _ l j v => sgn (elBits k.w) v = kElS (lv l k.va) k.w j * kElS (lv l k.vb) k.w j / 2 ^ elBits k.w),
   (.kilnMin, 0x0E, fun k _ l j v => sgn (elBits k.w) v = min (kElS (lv l k.va) k.w j) (kElS (lv l k.vb) k.w j)),
   (.kilnMax, 0x0F, fun k _ l j v => sgn (elBits k.w) v = max (kElS (lv l k.va) k.w j) (kElS (lv l k.vb) k.w j)),
   (.kilnAnd, 0x10, fun k _ l j v => v = kEl (lv l k.va) k.w j &&& kEl (lv l k.vb) k.w j),
   (.kilnOr, 0x11, fun k _ l j v => v = kEl (lv l k.va) k.w j ||| kEl (lv l k.vb) k.w j),
   (.kilnXor, 0x12, fun k _ l j v => v = kEl (lv l k.va) k.w j ^^^ kEl (lv l k.vb) k.w j),
   (.kilnAndn, 0x13, fun k _ l j v => ∀ b, v.testBit b = ((kEl (lv l k.va) k.w j).testBit b && !((kEl (lv l k.vb) k.w j).testBit b))),
   (.kilnShl, 0x14, fun k _ l j v => v = kEl (lv l k.va) k.w j * 2 ^ (k.aux % elBits k.w) % 2 ^ elBits k.w),
   (.kilnSar, 0x15, fun k _ l j v => sgn (elBits k.w) v = kElS (lv l k.va) k.w j / 2 ^ (k.aux % elBits k.w)),
   (.kilnShr, 0x16, fun k _ l j v => v = kEl (lv l k.va) k.w j / 2 ^ (k.aux % elBits k.w)),
   (.kilnShlv, 0x17, fun k _ l j v => v = kEl (lv l k.va) k.w j * 2 ^ (kEl (lv l k.vb) k.w j % 64 % elBits k.w) % 2 ^ elBits k.w),
   (.kilnSarv, 0x18, fun k _ l j v => sgn (elBits k.w) v = kElS (lv l k.va) k.w j / 2 ^ (kEl (lv l k.vb) k.w j % 64 % elBits k.w)),
   (.kilnRsh, 0x19, fun k _ l j v => RoundsTo (kElS (lv l k.va) k.w j) (k.aux % elBits k.w) (sgn (elBits k.w) v)),
   (.kilnRshv, 0x1A, fun k _ l j v => RoundsTo (kElS (lv l k.va) k.w j) (kEl (lv l k.vb) k.w j % 64 % elBits k.w) (sgn (elBits k.w) v)),
   (.kilnSel, 0x1B, fun k _ l j v => v = if (lk l k.aux).testBit j then kEl (lv l k.va) k.w j else kEl (lv l k.vb) k.w j)] ++
   [(.kilnNarrow, 0x1D, fun k _ l j v => if j / elCount (k.w + 1) = k.aux then sgn (elBits k.w) v = satTo (elBits k.w) (kElS (lv l k.va) (k.w + 1) (j % elCount (k.w + 1)))
      else v = kEl (lv l k.vd) k.w j),
   (.kilnUnpk4, 0x1E, fun k _ l j v => sgn 8 v = sgn 4 (kNib (lv l k.va) (256 * k.aux + j))),
   (.kilnExpx, 0x20, fun k _ l j v => sgn (elBits k.w) v = sgn 8 (kEl (lv l k.va) 0 (j / k.aux))),
   (.kilnPerm, 0x21, fun k _ l j v => v = kEl (lv l k.va) k.w (kEl (lv l k.vb) k.w j % elCount k.w)),
   (.kilnGmax, 0x22, fun k _ l j v => (∃ i, i < elCount k.w ∧ i / k.aux = j / k.aux ∧ sgn (elBits k.w) v = kElS (lv l k.va) k.w i) ∧
      ∀ i, i < elCount k.w → i / k.aux = j / k.aux → kElS (lv l k.va) k.w i ≤ sgn (elBits k.w) v),
   (.kilnGsum, 0x23, fun k _ l j v => v = (((List.range (elCount k.w)).filter (fun i => i / k.aux == j / k.aux)).map (kEl (lv l k.va) k.w)).sum % 2 ^ elBits k.w)]

/-- Element i comes before element j among the largest: its exact value is larger, or equal and i is lower (Table - Kiln operations, TOPM). -/
def Beats (k : KFields) (e : KEnv) (l : Lane) (i j : Nat) : Bool :=
  let lo := min (kExp e l (i + k.imm)) (kExp e l (j + k.imm))
  let x := kElS (lv l k.va) k.w i * 2 ^ (kExp e l (i + k.imm) - lo).toNat
  let y := kElS (lv l k.va) k.w j * 2 ^ (kExp e l (j + k.imm) - lo).toNat
  decide (y < x) || (x == y && i < j)

/-- The kiln operations that give each selected element a bit of a mask register: row, OP, and the bit. -/
def KilnMask (x : (Nat → Nat → KFields → Instr) × Nat × (KFields → KEnv → Lane → Nat → Prop)) : Prop :=
  x ∈ [(.kilnCmpeq, 0x28, fun k _ l j => kEl (lv l k.va) k.w j = kEl (lv l k.vb) k.w j),
   (.kilnCmplt, 0x29, fun k _ l j => kElS (lv l k.va) k.w j < kElS (lv l k.vb) k.w j),
   (.kilnCmple, 0x2A, fun k _ l j => kElS (lv l k.va) k.w j ≤ kElS (lv l k.vb) k.w j),
   (.kilnCmpltu, 0x2B, fun k _ l j => kEl (lv l k.va) k.w j < kEl (lv l k.vb) k.w j),
   (.kilnKand, 0x2C, fun k _ l j => (lk l k.va).testBit j = true ∧ (lk l k.vb).testBit j = true),
   (.kilnKor, 0x2D, fun k _ l j => (lk l k.va).testBit j = true ∨ (lk l k.vb).testBit j = true),
   (.kilnKnot, 0x2E, fun k _ l j => (lk l k.va).testBit j = false),
   (.kilnTopm, 0x2F, fun k e l j => ((List.range (elCount k.w)).filter (fun i => (lk l k.m).testBit i && Beats k e l i j)).length < k.aux)]

/-- The bytes that EMIT, EMITM, EMITK and PACKZ append (R371). -/
def kilnOut (op : Nat) (k : KFields) (e : KEnv) (l : Lane) : List Byte :=
  let sel := (List.range (elCount k.w)).filter (fun j => (lk l k.m).testBit j)
  match op with
  | 0x30 => (List.range k.imm).map (fun j => BitVec.ofNat 8 (kEl (lv l k.va) 0 j))
  | 0x31 => (sel.map (fun j => leBytes (2 ^ k.w) (kEl (lv l k.va) k.w j))).flatten
  | 0x32 => (sel.map (fun j => leBytes 4 (bits e.param.toNat 0 32 + e.n0 + j + k.imm) ++ BitVec.ofInt 8 (kExp e l (j + k.imm)) :: [0, 0, 0] ++
      leBytes 8 (unsgn 64 (kElS (lv l k.va) k.w j)))).flatten
  | _ => leBytes 32 (((List.range 256).filter (fun j => kEl (lv l k.va) 0 j != 0)).map (fun j => 2 ^ j)).sum ++
      ((List.range 256).map (fun j => BitVec.ofNat 8 (kEl (lv l k.va) 0 j))).filter (fun b => b != 0)

/-- The rows of the output instructions. -/
def KilnEmit (x : (Nat → Nat → KFields → Instr) × Nat) : Prop := x ∈ [(.kilnEmit, 0x30), (.kilnEmitm, 0x31), (.kilnEmitk, 0x32), (.kilnPackz, 0x33)]

/-! ### Ports -/

/-- From s to t only port p, the registers at the offsets l and what watches the block have changed. -/
def PortOnly (l : List Nat) (s t : State) (p : Nat) : Prop :=
  RegsKept (fun k => obsOff k || l.contains k) s t ∧ unwatched { t with net := { t.net with ports := s.net.ports } } = unwatched s ∧ ∀ q, q ≠ p → portOf t q = portOf s q

/-- Port p has just sent a tile: its type, VC, PAL and BAD, its body with zeros beyond the end, a good CRC, and in ACTIVE the next LSEQ (R440, R446). -/
def SentTile (s t : State) (p typ vc pal bad : Nat) (body : List Byte) : Prop :=
  (portOf t p).sentTile.length = 256 ∧ tileCrcOk (portOf t p).sentTile = true ∧ (parseLinkHdr (portOf t p).sentTile).typ = typ ∧
  (parseLinkHdr (portOf t p).sentTile).vc = vc ∧ (parseLinkHdr (portOf t p).sentTile).pal = pal ∧ (parseLinkHdr (portOf t p).sentTile).bad = bad ∧
  (∀ i, i < 240 → (portOf t p).sentTile[8 + i]? = some ((body[i]?).getD 0)) ∧ (portOf t p).tileNo = (portOf s p).tileNo + 1 ∧
  (linkActive s p = true → (parseLinkHdr (portOf t p).sentTile).lseq = (portOf s p).lseq % 4096 ∧ (portOf t p).lseq = ((portOf s p).lseq + 1) % 4096)

/-- A tile with no uncorrectable codeword and no corrected symbol reaches a receiving port within its error threshold, its CRC good and its type defined. -/
def GoodTile (s : State) (p : Nat) (r : RxTile) : Prop :=
  p < 32 ∧ rxState s p = true ∧ laneRuns s p = true ∧ r.uncorr = 0 ∧ r.corr = [] ∧ (portOf s p).uncorr ≤ s.get LNK_ERR_CFG.UNCORR_DOWN p ∧
  tileCrcOk r.bytes = true ∧ (parseLinkHdr r.bytes).typ < 7

/-- A saturating counter field has counted one. -/
def Counted (s t : State) (f : Fld) (i : Nat := 0) (j : Nat := 0) : Prop := t.get f i j = min (2 ^ f.w - 1) (s.get f i j + 1)

/-- Port p has gone DOWN for a reason: the state and reason are shown, the event is counted and raised, and packets in progress and credits are gone
(R480, R481). -/
def WentDown (s t : State) (p reason : Nat) : Prop :=
  linkState t p = 9 ∧ t.get LNK_STATUS.DOWN_REASON p = reason ∧ t.get LNK_CNT.COUNT p 7 = (s.get LNK_CNT.COUNT p 7 + 1) % 2 ^ LNK_CNT.COUNT.w ∧
  Pends t (16 + p) ∧ (portOf t p).ctx = [] ∧ (portOf t p).rx = [] ∧ (portOf t p).advA = [] ∧ (portOf t p).since = s.clk.rcosc

/-- The port is in a state from which it can go DOWN. -/
def Up (s : State) (p : Nat) : Prop := p < 32 ∧ linkState s p ≠ 0 ∧ linkState s p ≠ 9

/-! ### Modules, pins and ports -/

/-- From s to t only optics, free values, the registers at the offsets l and what watches the block have changed. -/
def OptOnly (l : List Nat) (s t : State) : Prop :=
  RegsKept (fun k => obsOff k || l.contains k) s t ∧ unwatched { t with opt := s.opt, free := s.free } = unwatched s

/-- The registers that a change of state of laser module m writes. -/
def lmOffs (m : Nat) : List Nat := offs [.OPT_LM_STATUS] m ++ ((List.range 4).map (fun k => offs [.OPT_PORT_STATUS] (4 * m + k))).flatten

/-- Module m has entered state n: it is shown, its four ports are marked dark unless it is lit, and the entries of R540 raise its source. -/
def LmEnters (s t : State) (m n : Nat) : Prop :=
  lmState t m = n ∧ (lmState s m ≠ n → (∀ k, k < 4 → t.get OPT_PORT_STATUS.TX_DARK (4 * m + k) = if 2 ≤ n ∧ n ≤ 4 then 0 else 1) ∧ (n ≠ 1 → n ≠ 2 → Pends t (48 + m)))

/-- A threshold of hours or drift of module m is reached (Table - Module state transitions): the greatest drift is of a channel with a reference. -/
def LmBeyond (t : State) (m hours drift : Nat) : Prop :=
  16 * hours ≤ t.get OPT_LM_HOURS.COUNT m ∨ ∃ w, w < 6 ∧ t.get OPT_LM_BIAS.REF m w ≠ 0 ∧
    (drift : Int) ≤ Int.tdiv (((t.get OPT_LM_BIAS.CUR m w : Int) - t.get OPT_LM_BIAS.REF m w) * 100) (t.get OPT_LM_BIAS.REF m w)

/-- A key exchange operation has ended with an error code: BUSY is clear and its input is gone (R559). -/
def KxEnded (t : State) (e : Nat) : Prop :=
  t.get SEC_KX_CTL.ERR = e ∧ t.get SEC_KX_CTL.BUSY = 0 ∧ t.sec.kx = none ∧ ∀ k, k < 32 → t.rg .SEC_KX_DATA k = 0

/-- n bytes of the scratchpad from a read as zero. -/
def Zeroed (t : State) (a n : Nat) : Prop := ∀ k, a ≤ k → k < a + n → spwGet t k = 0

/-- Source i is the one that the fault port presents next (R662): pending and enabled, of the greatest severity, of the lowest index. -/
def FltNext (s : State) (i : Nat) : Prop :=
  i < 128 ∧ Pends s i ∧ s.get FLT_SEV.SEV i ≠ 0 ∧
  ∀ j, j < 128 → Pends s j → s.get FLT_SEV.SEV j ≠ 0 → s.get FLT_SEV.SEV j < s.get FLT_SEV.SEV i ∨ (s.get FLT_SEV.SEV j = s.get FLT_SEV.SEV i ∧ i ≤ j)

/-- The state once part k of access x has ended: the access ends with its last part. -/
def partThen (u : State) (x : Txn) : State := settle (if txnDone x then txnFinish u x else u)

/-- The I3C target answers bytes and changes nothing else. -/
def i3cSays (s : State) (d : List Byte) : State := { s with i3c := { s.i3c with last := d } }

end Sys2Proof.Machine
end

