-- ==== Sys2Proof/Certificates/Slice0/Obligations.lean ====
section
/-! DEFINITION. The statements for the provers. -/

open Sys2Proof Sys2Proof.Machine

/-! ### The queue of commands -/

/-- One step is the meaning of the command at the front of the queue, on the block with the rest of the queue.
The queue of commands is the model's (logs 1 and 3). -/
def Obligations.StepRunsFront : Prop :=
  ∀ (c : Instr) (rest : List Instr) (s : State), step { s with pending := c :: rest } = exec c { s with pending := rest }

/-! ### Floug: registers -/

/-- From R182 to R184: an ALU instruction that takes effect writes the function of g[RA] and its second operand to g[RD]: g[RB], or in an immediate form IMM
sign-extended or the extension word where X is set; a comparison writes its condition to the predicate p[RD]. No other register of the context, no other
context, no register outside observation and no memory changes. -/
def Obligations.AluAndCompares : Prop :=
  (∀ x ∈ aluTable, ∀ (s : State) (c : Nat) (f : IFields), Issues s c f ⟨.gw, .gr, x.2.1, 0, false⟩ = true →
     ∃ t, exec (x.1 c f) s = .next t ∧ OnlyCtx s t c ∧ WroteG s t c f.rd (x.2.2 (gReg (ctxOf s c) f.ra) (gReg (ctxOf s c) f.rb))) ∧
  (∀ x ∈ aluiTable, ∀ (s : State) (c : Nat) (f : IFields), Issues s c f ⟨.gw, .gr, .z, 32, true⟩ = true →
     ∃ t, exec (x.1 c f) s = .next t ∧ OnlyCtx s t c ∧ WroteG s t c f.rd (x.2 (gReg (ctxOf s c) f.ra) (immOf f))) ∧
  (∀ x ∈ cmpTable, ∀ (s : State) (c : Nat) (f : IFields),
     (Issues s c f ⟨.pd, .gr, .gr, 0, false⟩ = true →
       ∃ t, exec (x.1 c f) s = .next t ∧ OnlyCtx s t c ∧ WroteP s t c f.rd (x.2.2 (gReg (ctxOf s c) f.ra) (gReg (ctxOf s c) f.rb))) ∧
     (Issues s c f ⟨.pd, .gr, .z, 32, true⟩ = true →
       ∃ t, exec (x.2.1 c f) s = .next t ∧ OnlyCtx s t c ∧ WroteP s t c f.rd (x.2.2 (gReg (ctxOf s c) f.ra) (immOf f))))

/-- From R180, R186 to R188: PAND, POR, PXOR and PNOT write a predicate; PGET reads p7 to p0 into a general register; PPUT writes p7 to p1 from one; DSETW, DGETW,
DZERO, DMOV and GETS move values between descriptor registers, general registers and the facts of the context; a word of a descriptor register is
little-endian, word 0 in its lowest bits. -/
def Obligations.PredicateAndDescriptorMoves : Prop :=
  (∀ (s : State) (c : Nat) (f : IFields),
     (Issues s c f ⟨.pd, .ps, .ps, 0, false⟩ = true →
       (∃ t, exec (.pand c f) s = .next t ∧ OnlyCtx s t c ∧ WroteP s t c f.rd (pReg (ctxOf s c) f.ra && pReg (ctxOf s c) f.rb)) ∧
       (∃ t, exec (.porPred c f) s = .next t ∧ OnlyCtx s t c ∧ WroteP s t c f.rd (pReg (ctxOf s c) f.ra || pReg (ctxOf s c) f.rb)) ∧
       (∃ t, exec (.pxor c f) s = .next t ∧ OnlyCtx s t c ∧ WroteP s t c f.rd (pReg (ctxOf s c) f.ra ^^ pReg (ctxOf s c) f.rb))) ∧
     (Issues s c f ⟨.pd, .ps, .z, 0, false⟩ = true →
       ∃ t, exec (.pnot c f) s = .next t ∧ OnlyCtx s t c ∧ WroteP s t c f.rd (!pReg (ctxOf s c) f.ra)) ∧
     (Issues s c f ⟨.gw, .z, .z, 0, false⟩ = true →
       ∃ t v, exec (.pget c f) s = .next t ∧ OnlyCtx s t c ∧ WroteG s t c f.rd v ∧
         ∀ k, k < 64 → v.getLsbD k = (decide (k < 8) && pReg (ctxOf s c) k)) ∧
     (Issues s c f ⟨.z, .gr, .z, 0, false⟩ = true →
       ∃ t, exec (.pput c f) s = .next t ∧ OnlyCtx s t c ∧ (∀ k, gReg (ctxOf t c) k = gReg (ctxOf s c) k) ∧
         (∀ k, dReg (ctxOf t c) k = dReg (ctxOf s c) k) ∧
         ∀ k, k < 8 → pReg (ctxOf t c) k = (k == 0 || (gReg (ctxOf s c) f.ra).getLsbD k))) ∧
  (∀ (s : State) (c : Nat) (f : IFields),
     (Issues s c f ⟨.dw, .z, .gr, 3, false⟩ = true →
       ∃ t v, exec (.dsetw c f) s = .next t ∧ OnlyCtx s t c ∧ WroteD s t c f.rd v ∧
         ∀ k, k < 8 → v.extractLsb' (64 * k) 64 = if k = f.imm.toNat then gReg (ctxOf s c) f.rb else (dReg (ctxOf s c) f.rd).extractLsb' (64 * k) 64) ∧
     (Issues s c f ⟨.gw, .dr, .z, 3, false⟩ = true →
       ∃ t, exec (.dgetw c f) s = .next t ∧ OnlyCtx s t c ∧ WroteG s t c f.rd ((dReg (ctxOf s c) f.ra).extractLsb' (64 * f.imm.toNat) 64)) ∧
     (Issues s c f ⟨.dw, .z, .z, 0, false⟩ = true → ∃ t, exec (.dzero c f) s = .next t ∧ OnlyCtx s t c ∧ WroteD s t c f.rd 0) ∧
     (Issues s c f ⟨.dw, .dr, .z, 0, false⟩ = true → ∃ t, exec (.dmov c f) s = .next t ∧ OnlyCtx s t c ∧ WroteD s t c f.rd (dReg (ctxOf s c) f.ra)) ∧
     (Issues s c f ⟨.gw, .z, .z, 8, false⟩ = true → f.imm.toNat < 9 →
       ∃ t v, exec (.gets c f) s = .next t ∧ OnlyCtx s t c ∧ WroteG s t c f.rd v ∧ (f.imm = 0 → v = BitVec.ofNat 64 c) ∧
         (f.imm = 1 → v = BitVec.ofNat 64 ((ctxOf s c).ten.getD 0)) ∧ (f.imm = 2 → v = BitVec.ofNat 64 (s.get TRW_CTX_CFG.GEN c)) ∧
         (f.imm = 6 → v = BitVec.ofNat 64 (s.get GLB_FLAT_ID.FLAT_ID)) ∧
         ∀ m, curCmd s c = some m → (f.imm = 3 → v = BitVec.ofNat 64 (m.q % 8)) ∧ (f.imm = 4 → v = BitVec.ofNat 64 m.seq) ∧
           (f.imm = 5 → v = BitVec.ofNat 64 (hdrTag m)) ∧ (f.imm = 8 → v = BitVec.ofNat 64 (topStat m.stats).code)))

/-- From R203 to R206: TIME.READ reads fabric time and whether it is sure, TIME.NEXT the next course boundary, Q.DONE the last sequence number of a
queue of the own tenant up to which every command has completed. -/
def Obligations.TimeAndQueueReads : Prop :=
  ∀ (s : State) (c : Nat) (f : IFields),
    (Issues s c f ⟨.gw, .z, .ps, 0, false⟩ = true →
      ∃ t, exec (.timeRead c f) s = .next t ∧ OnlyCtx s t c ∧
        (∀ k, gReg (ctxOf t c) k = if k = f.rd ∧ f.rd ≠ 0 then BitVec.ofNat 64 (now s) else gReg (ctxOf s c) k) ∧
        (∀ k, dReg (ctxOf t c) k = dReg (ctxOf s c) k) ∧
        ∀ k, k < 8 → pReg (ctxOf t c) k = if k = f.rb ∧ f.rb ≠ 0 then sure s else pReg (ctxOf s c) k) ∧
    (Issues s c f ⟨.gw, .z, .z, 0, false⟩ = true →
      ∃ t n, exec (.timeNext c f) s = .next t ∧ OnlyCtx s t c ∧ WroteG s t c f.rd (BitVec.ofNat 64 n) ∧ n % 65536 = 0 ∧ now s < n ∧ n ≤ now s + 65536) ∧
    (Issues s c f ⟨.gw, .z, .q, 0, false⟩ = true → 8 * tenIdx ((ctxOf s c).ten.getD 0) + f.rb < 4104 →
      ∃ t, exec (.qDone c f) s = .next t ∧ OnlyCtx s t c ∧
        WroteG s t c f.rd (BitVec.ofNat 64 (s.get TEN_SQ_DONE.SEQ (8 * tenIdx ((ctxOf s c).ten.getD 0) + f.rb))))

/-! ### Floug: control, memory, waits -/

/-- From R136, R189 to R193: NOP goes on; END ends the command; BR, LOOP, CALL, CALLR and RET transfer control within the segment, into the code region, and back. A
transfer with no legal target fails its command with BAD_COMMAND, reason 5, at the word of the transfer. -/
def Obligations.ControlTransfers : Prop :=
  (∀ (s : State) (c : Nat) (f : IFields),
     (Issues s c f fNone = true →
       (∃ t, exec (.nop c f) s = .next t ∧ Kept s t c ∧
         ((ctxOf s c).pc.word + 1 < segLen s c → (ctxOf t c).pc = ⟨(ctxOf s c).pc.code, (ctxOf s c).pc.word + 1⟩)) ∧
       (∀ k, (ctxOf s c).cur = some k → ∃ t m, exec (.endCmd c f) s = .next t ∧ Kept s t c ∧ (ctxOf t c).cur ≠ some k ∧ cmdOf t c k = some m ∧
         m.ended = true) ∧
       (∀ p rest, (ctxOf s c).stack = p :: rest →
         (if p.code then (∃ b n, (ctxOf s c).region = some (b, n) ∧ p.word < n) else (∃ m, curCmd s c = some m ∧ p.word < m.words.length)) →
         ∃ t, exec (.ret c f) s = .next t ∧ Kept s t c ∧ (ctxOf t c).pc = p ∧ (ctxOf t c).stack = rest)) ∧
     (Issues s c f ⟨.z, .z, .z, 32, false⟩ = true →
       (∀ p, BranchTo s c f.imm.toInt p → ∃ t, exec (.br c f) s = .next t ∧ Kept s t c ∧ (ctxOf t c).pc = p) ∧
       (∀ b n, callRegion (issued s c 0 4 f) c = some (b, n) → (ctxOf s c).stack.length < 8 → f.imm.toNat < n →
         ∃ t, exec (.callImm c f) s = .next t ∧ Kept s t c ∧ (ctxOf t c).pc = ⟨true, f.imm.toNat⟩ ∧ (ctxOf t c).region = some (b, n) ∧
           (ctxOf t c).stack = ⟨(ctxOf s c).pc.code, (ctxOf s c).pc.word + 1⟩ :: (ctxOf s c).stack)) ∧
     (Issues s c f ⟨.z, .gr, .z, 0, false⟩ = true →
       ∀ b n, callRegion (issued s c 0 5 f) c = some (b, n) → (ctxOf s c).stack.length < 8 → (gReg (ctxOf s c) f.ra).toNat < n →
         ∃ t, exec (.callr c f) s = .next t ∧ Kept s t c ∧ (ctxOf t c).pc = ⟨true, (gReg (ctxOf s c) f.ra).toNat⟩ ∧ (ctxOf t c).region = some (b, n) ∧
           (ctxOf t c).stack = ⟨(ctxOf s c).pc.code, (ctxOf s c).pc.word + 1⟩ :: (ctxOf s c).stack) ∧
     (Issues s c f ⟨.z, .grw, .z, 32, false⟩ = true → ∀ p, BranchTo s c f.imm.toInt p →
       ∃ t, exec (.loop c f) s = .next t ∧ OnlyCtx s t c ∧ WroteG s t c f.ra (gReg (ctxOf s c) f.ra - 1) ∧
         (gReg (ctxOf t c) f.ra ≠ 0 → (ctxOf t c).pc = p) ∧
         (gReg (ctxOf t c) f.ra = 0 → (ctxOf s c).pc.word + 1 < segLen s c → (ctxOf t c).pc = ⟨(ctxOf s c).pc.code, (ctxOf s c).pc.word + 1⟩))) ∧
  (∀ (s : State) (c : Nat) (f : IFields),
     (Issues s c f ⟨.z, .z, .z, 32, false⟩ = true → (∀ p, ¬ BranchTo s c f.imm.toInt p) →
       ∃ t, exec (.br c f) s = .next t ∧ Kept s t c ∧ Raised s t c ⟨0x0F, ptIndex (ctxOf s c).pc + 5 * 65536⟩) ∧
     (Issues s c f ⟨.z, .z, .z, 32, false⟩ = true → 8 ≤ (ctxOf s c).stack.length →
       ∃ t, exec (.callImm c f) s = .next t ∧ Kept s t c ∧ Raised s t c ⟨0x0F, ptIndex (ctxOf s c).pc + 5 * 65536⟩) ∧
     (Issues s c f fNone = true → (ctxOf s c).stack = [] →
       ∃ t, exec (.ret c f) s = .next t ∧ Kept s t c ∧ Raised s t c ⟨0x0F, ptIndex (ctxOf s c).pc + 5 * 65536⟩))

/-- From R187: DLD marks its register pending and reads 64 bytes of the own device's memory; DST writes the register there. -/
def Obligations.DescriptorMemory : Prop :=
  ∀ (s : State) (c : Nat) (f : IFields) (a : Nat), a = (gReg (ctxOf s c) f.ra + f.imm.signExtend 64).toNat → a % 64 = 0 → badSpace a = false →
    (Issues s c f ⟨.dw, .gr, .z, 32, false⟩ = true → ownBytesOk (issued s c 4 0 f) ((ctxOf s c).ten.getD 0) a 64 0 = true →
      ∃ t, exec (.dld c f) s = .next (settle t) ∧ (ctxOf t c).pendD.testBit f.rd = true ∧ (ctxOf t c).g = (ctxOf s c).g ∧
        (ctxOf t c).d = (ctxOf s c).d ∧
        Accesses t .rd (spaceOf a) (offsetOf a) 64 [] (.dld c ((ctxOf s c).cur.getD 0) f.rd (ptIndex (ctxOf s c).pc))) ∧
    (Issues s c f ⟨.z, .gr, .dr, 32, false⟩ = true → ownBytesOk (issued s c 4 1 f) ((ctxOf s c).ten.getD 0) a 64 1 = true →
      ∃ t, exec (.dst c f) s = .next (settle t) ∧ FilesKept (ctxOf s c) (ctxOf t c) ∧
        Accesses t .wr (spaceOf a) (offsetOf a) 64 (leBytes 64 (dReg (ctxOf s c) f.rb).toNat)
          (.dst c ((ctxOf s c).cur.getD 0) (ptIndex (ctxOf s c).pc)))

/-- From R146, R197 to R203, R208: a wait whose condition holds lets the context go on; another holds it, with its kind and its stall reason. WAIT.FLAG reads its word, and
again while unfinished. A time already passed counts as late. A wait on a queue or a bond slot whose limit has been reached fails its command with TIMEOUT, and a flag
wait reads once more. -/
def Obligations.WaitsHoldAndEnd : Prop :=
  (∀ (s : State) (c : Nat) (f : IFields),
     (Issues s c f ⟨.z, .gr, .q, 32, false⟩ = true →
       (∀ m, curCmd s c = some m → (m.q % 8 = f.rb → reached32 m.seq ((gReg (ctxOf s c) f.ra).toNat % 2 ^ 32) = false) →
         (seqReached (issued s c 6 0 f) c f.rb ((gReg (ctxOf s c) f.ra).toNat % 2 ^ 32) = true → ∃ t, exec (.waitSeq c f) s = .next t ∧ Kept s t c) ∧
         (seqReached (issued s c 6 0 f) c f.rb ((gReg (ctxOf s c) f.ra).toNat % 2 ^ 32) = false →
           ∃ t w, exec (.waitSeq c f) s = .next t ∧ Kept s t c ∧ (ctxOf t c).pc = (ctxOf s c).pc ∧ (ctxOf t c).wait = some w ∧
             w.kind = .seq f.rb ((gReg (ctxOf s c) f.ra).toNat % 2 ^ 32) ∧ (ctxOf t c).stall = some 6))) ∧
     (Issues s c f ⟨.gw, .gr, .gr, 32, false⟩ = true → ∀ (cond a : Nat) (q : Bool), a = (gReg (ctxOf s c) f.ra).toNat → badSpace a = false →
       spaceOf a ≠ 2 → a % 8 = 0 → ownMemOk (issued s c 6 ((if q then 0x18 else 0x08) + cond % 8) f) ((ctxOf s c).ten.getD 0) a 8 0 = true →
       ∃ t w, exec (if q then .waitFlagAcq c cond f else .waitFlag c cond f) s = .next t ∧ (ctxOf t c).wait = some w ∧
         w.kind = .flag a (cond % 8) (gReg (ctxOf s c) f.rb).toNat f.rd q ∧ (f.rd ≠ 0 → (ctxOf t c).pendG.testBit f.rd = true) ∧
         FilesKept (ctxOf s c) (ctxOf t c) ∧ Accesses t .rd (spaceOf a) (offsetOf a) 8 [] (.flag c)) ∧
     (Issues s c f ⟨.z, .gr, .z, 32, true⟩ = true → ∀ n, n = (gReg (ctxOf s c) f.ra + immOf f).toNat →
       (now s < n → n ≤ now s + 2 ^ 44 → ∃ t w, exec (.atTime c f) s = .next t ∧ Kept s t c ∧ (ctxOf t c).wait = some w ∧ w.kind = .time n ∧
         (ctxOf t c).stall = some 11) ∧
       (n ≤ now s → ∃ t, exec (.atTime c f) s = .next t ∧ FilesKept (ctxOf s c) (ctxOf t c) ∧
         t.get TIM_LATE_CNT.COUNT = (s.get TIM_LATE_CNT.COUNT + 1) % 2 ^ TIM_LATE_CNT.COUNT.w)) ∧
     (Issues s c f ⟨.z, .gr, .q, 0, false⟩ = true → ∀ u k, (ctxOf s c).cur = some k →
       u = hold (issued s c 8 1 f) c ⟨.ring (8 * tenIdx ((ctxOf s c).ten.getD 0) + f.rb) ((gReg (ctxOf s c) f.ra).toNat % 2 ^ 32), none, now s, false, none, false⟩ 6 →
       exec (.qRing c f) s = .next (if ringWaits u c k then u else
         releaseWait (tailDoorbell u (8 * tenIdx ((ctxOf s c).ten.getD 0) + f.rb) ((gReg (ctxOf s c) f.ra).toNat % 2 ^ 32)) c))) ∧
  (∀ (s : State) (c : Nat) (w : Wait), (ctxOf s c).wait = some w →
     (∀ a cond v rd q, w.kind = .flag a cond v rd q → w.read = none → w.final = false →
       ∃ t, exec (.flagPoll c) s = .next t ∧ FilesKept (ctxOf s c) (ctxOf t c) ∧ Accesses t .rd (spaceOf a) (offsetOf a) 8 [] (.flag c)) ∧
     (∀ l, w.limit = some l → l ≤ now s → coreRuns s = true →
       (∀ a cond v rd q, w.kind = .flag a cond v rd q → w.final = false →
         ∃ t w', exec (.waitLimitExpire c) s = .next (settle t) ∧ (ctxOf t c).wait = some w' ∧ w'.final = true ∧
           Accesses t .rd (spaceOf a) (offsetOf a) 8 [] (.flag c)) ∧
       (∀ q n m, w.kind = .seq q n → seqReached s c q n = false → curCmd s c = some m →
         ∃ t, exec (.waitLimitExpire c) s = .next (settle t) ∧ Raised s t c ⟨0x05, ptIndex (ctxOf s c).pc + 6 * 65536 + 2 ^ 63⟩) ∧
       (∀ i n m, w.kind = .bond i n → s.get BND_SLOT_STEP.STEP i < n → curCmd s c = some m →
         ∃ t, exec (.waitLimitExpire c) s = .next (settle t) ∧ Raised s t c ⟨0x05, ptIndex (ctxOf s c).pc + 7 * 65536 + 2 ^ 63⟩)))

/-! ### Floug: service, transfers, ordering, bonds -/

/-- From R209 to R212: in a service context SVC.RREG reads a register into g[RD], SVC.WREG writes one, and a scheduling instruction that is not refused
leaves its action pending until its time. -/
def Obligations.ServiceInstructions : Prop :=
  ∀ (s : State) (c : Nat) (f : IFields), (ctxOf s c).ten = some serviceDom →
    (Issues s c f ⟨.gw, .gr, .z, 0, false⟩ = true → (gReg (ctxOf s c) f.ra).toNat % 4 = 0 → (gReg (ctxOf s c) f.ra).toNat < regSize →
      ∃ t, exec (.svcRreg c f) s = .next t ∧
        WroteG s t c f.rd (BitVec.ofNat 64 (regRead (issued s c 9 0 f) ⟨1, serviceDom⟩ (gReg (ctxOf s c) f.ra).toNat).2.toNat)) ∧
    (Issues s c f ⟨.z, .gr, .gr, 0, false⟩ = true → (gReg (ctxOf s c) f.ra).toNat % 4 = 0 → (gReg (ctxOf s c) f.ra).toNat < regSize →
      ∃ t, Kept s t c ∧ exec (.svcWreg c f) s = .next (settle (regWrite t ⟨1, serviceDom⟩ (gReg (ctxOf s c) f.ra).toNat
        ((gReg (ctxOf s c) f.rb).truncate 32)))) ∧
    (∀ x ∈ schedTable, f.imm.toNat = x.2 → Issues s c f ⟨.z, .gr, .dr, 32, false⟩ = true → now s < (gReg (ctxOf s c) f.ra).toNat →
      schedRefuse (issued s c 9 2 f) c x.2 (gReg (ctxOf s c) f.ra).toNat (dReg (ctxOf s c) f.rb) = none →
      ∃ t, exec (x.1 c f) s = .next (settle t) ∧ FilesKept (ctxOf s c) (ctxOf t c) ∧
        t.acts = s.acts ++ [⟨s.nextAct, (gReg (ctxOf s c) f.ra).toNat, x.2, dReg (ctxOf s c) f.rb, serviceDom⟩] ∧ t.nextAct = s.nextAct + 1)

/-- From R219 to R232: PUT, GET and COPY whose checks pass start their operation, which stands among the running operations with the count of its bytes
as the checks gave it or free, and the context goes on; those with nothing to move only go on.
Length 0 and the count of bytes of a remote kiln follow logs 29 and 109. -/
def Obligations.TransfersStart : Prop :=
  ∀ x ∈ xferTable, ∀ (s : State) (c : Nat) (f : IFields), Issues s c f ⟨.z, .dr, .z, 7, false⟩ = true → modsBad x.2.2 f.imm.toNat = false →
    judgedWait (xferJudge s c x.2.2 (dReg (ctxOf s c) f.ra) (modsOf f.imm.toNat)) = none →
    (∀ o, xferJudge (issued s c 0x10 x.2.1 f) c x.2.2 (dReg (ctxOf s c) f.ra) (modsOf f.imm.toNat) = .op o →
      ∃ t o', exec (x.1 c f) s = .next (settle t) ∧ FilesKept (ctxOf s c) (ctxOf t c) ∧ o' ∈ t.xf.ops ∧ { o' with bytes := o.bytes } = o) ∧
    (xferJudge (issued s c 0x10 x.2.1 f) c x.2.2 (dReg (ctxOf s c) f.ra) (modsOf f.imm.toNat) = .nothing →
      ∃ t, exec (x.1 c f) s = .next (settle t) ∧ Kept s t c ∧ t.xf.ops = s.xf.ops)

/-- From R218, R219, R227, R261: the operation that a PUT, GET or COPY starts is the next by number, carries the descriptor, moves LEN bytes, travels on
the VC of its modifiers, and runs on a hod that its tenant holds or that already runs an operation of the context, that is not retired, and that runs fewer than 16 operations; the context runs fewer than 64. -/
def Obligations.TransferOperation : Prop :=
  ∀ (s : State) (c : Nat) (k : OpKind) (d : BitVec 512) (m : Mods) (o : Op), xferJudge s c k d m = .op o →
    o.id = s.xf.nextOp ∧ o.ctx = c ∧ o.desc = d ∧ o.mods = m ∧ o.ten = (ctxOf s c).ten.getD 0 ∧ dLen d ≠ 0 ∧
    (∀ p ∈ o.pieces, p.len = dLen d) ∧ o.pieces.length = 1 ∧ o.vc = (if spaceOf (dRaddr d) = 2 then 0 else if m.pal then 6 else if m.lat then 7 else 1) ∧
    o.hod < 64 ∧ (leasedTo s ukHod o.hod o.ten = true ∨ ∃ y ∈ s.xf.ops, y.ctx = c ∧ y.hod = o.hod) ∧ hodRetired s o.hod = false ∧ hodLoad s o.hod < 16 ∧
    (s.xf.ops.filter (fun y => y.ctx == c)).length < 64 ∧ (o.kind = k ∨ (k = .copy ∧ o.kind = .put)) ∧ dSigAddr d % 8 = 0

/-- From R239 to R247: ATOM, MEASURE and PUBLISH whose checks pass start their operation; the registers of a result are pending until it returns. -/
def Obligations.WordAccessesStart : Prop :=
  ∀ (s : State) (c : Nat) (f : IFields),
    (∀ x ∈ atomTable, ∀ (w : Bool) (o : Op), Issues s c f ⟨.gw, .dr, .z, 7, false⟩ = true → modsBad (.atom x.2 w) f.imm.toNat = false →
      (w = true → f.rd % 2 = 0) → pairPending s c f.rd w = false →
      judgedWait (wordJudge s c (.atom x.2 w) (dReg (ctxOf s c) f.ra) (modsOf f.imm.toNat) (if w then 16 else 8) 2 2 f.rd) = none →
      wordJudge (issued s c 0x11 (x.2 + 16 * b2n w) f) c (.atom x.2 w) (dReg (ctxOf s c) f.ra) (modsOf f.imm.toNat) (if w then 16 else 8) 2 2 f.rd = .op o →
      ∃ t, exec (x.1 c w f) s = .next (settle t) ∧ o ∈ t.xf.ops ∧ FilesKept (ctxOf s c) (ctxOf t c) ∧
        (f.rd ≠ 0 → (ctxOf t c).pendG.testBit f.rd = true ∧ (w = true → (ctxOf t c).pendG.testBit (f.rd + 1) = true))) ∧
    (∀ o, Issues s c f ⟨.gw, .dr, .z, 0, false⟩ = true → f.rd ≠ 0 → f.rd % 2 = 0 → pairPending s c f.rd true = false →
      judgedWait (wordJudge s c .measure (dReg (ctxOf s c) f.ra) (modsOf 0) 8 0 0 f.rd) = none →
      wordJudge (issued s c 0x12 0 f) c .measure (dReg (ctxOf s c) f.ra) (modsOf 0) 8 0 0 f.rd = .op o →
      ∃ t, exec (.measure c f) s = .next (settle t) ∧ o ∈ t.xf.ops ∧ FilesKept (ctxOf s c) (ctxOf t c) ∧
        (ctxOf t c).pendG.testBit f.rd = true ∧ (ctxOf t c).pendG.testBit (f.rd + 1) = true) ∧
    (∀ o, Issues s c f ⟨.z, .dr, .gr, 7, false⟩ = true → modsBad .publish f.imm.toNat = false →
      judgedWait (wordJudge s c .publish (dReg (ctxOf s c) f.ra) (modsOf f.imm.toNat) 8 1 1 0) = none →
      wordJudge (issued s c 0x14 0 f) c .publish (dReg (ctxOf s c) f.ra) (modsOf f.imm.toNat) 8 1 1 0 = .op o →
      ∃ t o', exec (.publish c f) s = .next (settle t) ∧ o' ∈ t.xf.ops ∧ { o' with desc := o.desc } = o ∧
        dSigVal o'.desc = (gReg (ctxOf s c) f.rb).toNat ∧ FilesKept (ctxOf s c) (ctxOf t c))

/-- From R233, R261, R312 to R314: SCATTER and GATHER hold the context while their list is read; FENCE, REL and ACQ hold it until what they order has
happened, and let it go on at once where it has. -/
def Obligations.ListsAndOrdering : Prop :=
  ∀ (s : State) (c : Nat) (f : IFields),
    (∀ x ∈ listTable, ∀ o, Issues s c f ⟨.z, .dr, .z, 7, false⟩ = true → modsBad x.2.2 f.imm.toNat = false →
      judgedWait (listJudge s c x.2.2 (dReg (ctxOf s c) f.ra) (modsOf f.imm.toNat)) = none →
      listJudge (issued s c 0x10 x.2.1 f) c x.2.2 (dReg (ctxOf s c) f.ra) (modsOf f.imm.toNat) = .op o →
      (∀ y ∈ s.xf.ops, y.id ≠ o.id) →
      ∃ t w, exec (x.1 c f) s = .next (settle t) ∧ FilesKept (ctxOf s c) (ctxOf t c) ∧ (ctxOf t c).wait = some w ∧ w.kind = .list o.id ∧
        Accesses t .rd (spaceOf (dSgAddr o.desc)) (offsetOf (dSgAddr o.desc)) (16 * dSgCount o.desc) [] (.list o.id)) ∧
    (∀ x ∈ orderTable, ∀ u, Issues s c f ⟨.z, .z, .z, 7, false⟩ = true → modsBad .bond f.imm.toNat = false →
      u = hold (issued s c 0x13 x.2.1 f) c ⟨.order x.2.2.1 x.2.2.2 (modsOf f.imm.toNat).scope, none, now s, false, none, false⟩ 6 →
      (orderReached u c x.2.2.1 x.2.2.2 (modsOf f.imm.toNat).scope = false → exec (x.1 c f) s = .next (settle u) ∧ (ctxOf u c).wait.isSome = true) ∧
      (orderReached u c x.2.2.1 x.2.2.2 (modsOf f.imm.toNat).scope = true →
        ∃ t, exec (x.1 c f) s = .next (settle t) ∧ FilesKept (ctxOf s c) (ctxOf t c) ∧ (ctxOf t c).wait = none))

/-- From R249 to R258: BOND.START starts the operation and the collective of its slot; BOND.STEP sets the limit of a limited collective; BOND.WAIT and
BOND.QUERY act on the last step completed; KILN.LOAD holds the context and reads the program; KILN.PARAM writes the parameter block. -/
def Obligations.BondAndKilnInstructions : Prop :=
  ∀ (s : State) (c : Nat) (f : IFields) (i : Nat),
    (Issues s c f ⟨.z, .dr, .gr, 32, true⟩ = true → slotOf s c ukBond 5 f.rb = .ok i → slotOf (issued s c 0x20 0 f) c ukBond 5 f.rb = .ok i →
      ∀ o lim, lim = (if f.x then f.ext.toNat else f.imm.toNat) → judgedWait (bondJudge s c i (dReg (ctxOf s c) f.ra) lim) = none →
        bondJudge (issued s c 0x20 0 f) c i (dReg (ctxOf s c) f.ra) lim = .op o →
        ∃ t, exec (.bondStart c f) s = .next (settle (bondBegin t i (cBond o.desc) o.id o.ten o.tag o.word o.desc lim)) ∧ o ∈ t.xf.ops ∧
          FilesKept (ctxOf s c) (ctxOf t c)) ∧
    (Issues s c f ⟨.z, .gr, .gr, 0, false⟩ = true → slotOf s c ukBond 5 f.rb = .ok i → slotOf (issued s c 0x20 1 f) c ukBond 5 f.rb = .ok i →
      ∃ t, exec (.bondStep c f) s = .next (settle (collPump t i)) ∧ FilesKept (ctxOf s c) (ctxOf t c) ∧
        ∀ x y, collAt s i = some x → collAt t i = some y → y.limit = 0 ∨
          y.limit = (if x.limit ≠ 0 ∧ (x.limit ≤ (gReg (ctxOf s c) f.ra).toNat ∨ gReg (ctxOf s c) f.ra = 0) then (gReg (ctxOf s c) f.ra).toNat else x.limit)) ∧
    (Issues s c f ⟨.z, .gr, .gr, 32, false⟩ = true → slotOf s c ukBond 5 f.rb = .ok i → slotOf (issued s c 0x20 2 f) c ukBond 5 f.rb = .ok i → i < 32 →
      ∃ t, exec (.bondWait c f) s = .next t ∧ Kept s t c ∧
        (s.get BND_SLOT_STEP.STEP i < (gReg (ctxOf s c) f.ra).toNat → ∃ w, (ctxOf t c).wait = some w ∧ w.kind = .bond i (gReg (ctxOf s c) f.ra).toNat ∧
          (ctxOf t c).stall = some 7)) ∧
    (Issues s c f ⟨.gw, .z, .gr, 0, false⟩ = true → slotOf s c ukBond 5 f.rb = .ok i → slotOf (issued s c 0x20 3 f) c ukBond 5 f.rb = .ok i → i < 32 →
      ∃ t, exec (.bondQuery c f) s = .next t ∧ OnlyCtx s t c ∧ WroteG s t c f.rd (BitVec.ofNat 64 (s.get BND_SLOT_STEP.STEP i))) ∧
    (Issues s c f ⟨.z, .gr, .gr, 32, false⟩ = true → 0 < f.imm.toNat → f.imm.toNat ≤ 64 → kilnWait s c f.rb = none →
      slotOf (issued s c 0x21 0 f) c ukKiln 8 f.rb = .ok i → ∀ a, a = (gReg (ctxOf s c) f.ra).toNat → badSpace a = false → a % 64 = 0 →
      ownBytesOk (issued s c 0x21 0 f) ((ctxOf s c).ten.getD 0) a (8 * f.imm.toNat) 0 = true →
      ∃ t w, exec (.kilnLoad c f) s = .next (settle t) ∧ FilesKept (ctxOf s c) (ctxOf t c) ∧ (ctxOf t c).wait = some w ∧ w.kind = .load i f.imm.toNat ∧
        Accesses t .rd (spaceOf a) (offsetOf a) (8 * f.imm.toNat) [] (.kilnLoad c i f.imm.toNat)) ∧
    (Issues s c f ⟨.z, .dr, .gr, 0, false⟩ = true → kilnWait s c f.rb = none → slotOf (issued s c 0x21 1 f) c ukKiln 8 f.rb = .ok i →
      parBad (dReg (ctxOf s c) f.ra) = false →
      ∃ t, exec (.kilnParam c f) s = .next t ∧ FilesKept (ctxOf s c) (ctxOf t c) ∧ tabGet 0 i t.kiln.param = dReg (ctxOf s c) f.ra ∧
        ∀ j, j ≠ i → tabGet 0 j t.kiln.param = tabGet 0 j s.kiln.param)

/-! ### Clocks, resets and start-up -/

/-- From R577, R579, R590, R602: RCOSC runs with the supply; once stable, start-up enables ROSC; once ROSC is stable, CORE is released on it at D = 8 and the ROM
runs; a ROSC that is not stable in time holds the block. -/
def Obligations.OscillatorsStart : Prop :=
  ∀ (s : State),
    (∃ t, exec .aonSupplyValid s = .next t ∧ t.clk.aon = true ∧ Writes [] s { t with clk := s.clk }) ∧
    (s.clk.aon = true → s.clk.rcOk = false → 1024 ≤ s.clk.rcosc →
      ∃ t, exec .rcoscStable s = .next t ∧ t.clk.rcOk = true ∧ (s.clk.por = true → { t with clk := s.clk } = s) ∧
        (s.clk.por = false → s.clk.core = false → persona s ≠ .rsvd → bootPhase t = 1 ∧ t.get CLK_STATUS.ROSC_ON = 1)) ∧
    (∀ n, s.get CLK_STATUS.ROSC_ON = 1 → s.clk.roscOk = false → 16384 ≤ s.clk.rosc → 280 ≤ n → n ≤ 380 →
      ∃ t, exec (.roscStable n) s = .next t ∧ t.clk.roscOk = true ∧ Writes (offs [.CLK_STATUS, .CLK_BOOT_STATUS]) s { t with clk := s.clk } ∧
        (bootPhase s = 1 → bootPhase t = 2 ∧ t.get CLK_STATUS.CCLK_SRC = 1 ∧ t.get CLK_STATUS.D = 8 ∧ t.clk.gate = false) ∧
        (bootPhase s ≠ 1 → { t with clk := s.clk } = s)) ∧
    (s.get CLK_STATUS.ROSC_ON = 1 → s.clk.roscOk = false → s.clk.roscAt + 64000 ≤ s.clk.rcosc →
      ∃ t, exec .roscTimeout s = .next t ∧ t.get CLK_MON_STATUS.ROSC = 1 ∧ t.get CLK_STATUS.CLOCK_LOST = 1 ∧
        (s.get CLK_STATUS.CLOCK_LOST = 0 → bootPhase t = 7 ∧ Pends t 2) ∧
        Writes (offs [.CLK_STATUS, .CLK_MON_STATUS, .CLK_BOOT_STATUS]) s t)

/-- From R580, R586: a PLL that has been locked long enough shows its lock bit while REFCLK is good; a lock lost outside a hold clears it, and an LPLL that
loses lock trips at once; a hold keeps every PLL.
That a PLL which loses lock in a hold stays as it is follows the model's reading (log 56). -/
def Obligations.PllsLock : Prop :=
  ∀ (s : State),
    (s.get CLK_STATUS.REF_OK = 1 → s.clk.por = false →
      (∃ t, exec (.pllLock 0) s = .next t ∧ t.get CLK_STATUS.CPLL_LOCK = 1 ∧ Writes (offs [.CLK_STATUS]) s { t with clk := s.clk } ∧
        (s.clk.cpllEver = false → s.get CLK_STATUS.CCLK_SRC = 1 → t.clk.toCpll = true)) ∧
      (∃ t, exec (.pllLock 1) s = .next t ∧ t.get CLK_STATUS.TPLL_LOCK = 1 ∧ Writes (offs [.CLK_STATUS]) s { t with clk := s.clk }) ∧
      (∀ g, g < 8 → s.clk.lpllHold.testBit g = false → ∃ t, exec (.pllLock (g + 2)) s = .next t ∧ Writes (offs [.CLK_STATUS]) s t ∧
        ∀ k, k < 8 → (t.get CLK_STATUS.LPLL_LOCK).testBit k = (k == g || (s.get CLK_STATUS.LPLL_LOCK).testBit k))) ∧
    (s.get CLK_STATUS.HOLD = 0 → s.clk.por = false →
      (∃ t, exec (.pllUnlock 0) s = .next t ∧ t.get CLK_STATUS.CPLL_LOCK = 0 ∧ Writes (offs [.CLK_STATUS]) s { t with clk := s.clk }) ∧
      (∃ t, exec (.pllUnlock 1) s = .next t ∧ t.get CLK_STATUS.TPLL_LOCK = 0 ∧ Writes (offs [.CLK_STATUS]) s t) ∧
      (∀ g, g < 8 → (s.get CLK_STATUS.LPLL_LOCK).testBit g = true → ∃ t, exec (.pllUnlock (g + 2)) s = .next t ∧ Pends t 2 ∧
        Writes (offs [.CLK_STATUS, .CLK_MON_STATUS]) s { t with clk := s.clk } ∧
        ∀ k, k < 8 → (t.get CLK_STATUS.LPLL_LOCK).testBit k = (k != g && (s.get CLK_STATUS.LPLL_LOCK).testBit k) ∧
          (t.get CLK_MON_STATUS.LPLL).testBit k = (k == g || (s.get CLK_MON_STATUS.LPLL).testBit k))) ∧
    (s.get CLK_STATUS.HOLD = 1 → ∀ k, exec (.pllUnlock k) s = .next s)

/-- From R584 to R586: sixteen passing windows end the hold of REFCLK, a failing one trips its monitor and raises the clock fault; the trip of CCLK
closes the CORE gate, the trip of FT asks for the counter's move. -/
def Obligations.MonitorsTrip : Prop :=
  ∀ (s : State) (n : Nat) (b : Bool), s.clk.aon = true → s.clk.por = false →
    (1125 ≤ n → n ≤ 1375 → ∃ t, exec (.monitorWindow 0 n false) s = .next t ∧ t.clk.refWins = min 16 (s.clk.refWins + 1) ∧
      (15 ≤ s.clk.refWins → t.get CLK_STATUS.REF_OK = 1 ∧ t.get CLK_STATUS.HOLD = 0) ∧ (s.clk.refWins < 15 → { t with clk := s.clk } = s) ∧
      Writes (offs [.CLK_STATUS]) s { t with clk := s.clk }) ∧
    (b = true ∨ n < 1125 ∨ 1375 < n → ∃ t, exec (.monitorWindow 0 n b) s = .next t ∧ t.get CLK_MON_STATUS.REF = 1 ∧ Pends t 2 ∧
      t.get CLK_STATUS.REF_OK = 0 ∧ t.clk.refWins = 0 ∧ t.tim.refLost = true ∧
      Writes (offs [.CLK_STATUS, .CLK_MON_STATUS]) s { t with clk := s.clk, tim := s.tim }) ∧
    (s.get CLK_STATUS.CCLK_SRC = 2 → b = true ∨ n < 765 ∨ 935 < n → ∃ t, exec (.monitorWindow 1 n b) s = .next t ∧ t.get CLK_MON_STATUS.CCLK = 1 ∧
      Pends t 2 ∧ t.clk.gate = true ∧ t.clk.needRosc = true ∧ t.get CLK_STATUS.ROSC_ON = 1 ∧
      Writes (offs [.CLK_STATUS, .CLK_MON_STATUS]) s { t with clk := s.clk }) ∧
    (s.get CLK_STATUS.FT_SRC = 0 → s.get CLK_STATUS.TPLL_LOCK = 1 → b = true ∨ n < 900 ∨ 1100 < n → ∃ t, exec (.monitorWindow 2 n b) s = .next t ∧
      t.get CLK_MON_STATUS.FT = 1 ∧ Pends t 2 ∧ t.clk.ftNeed = true ∧ t.get CLK_STATUS.ROSC_ON = 1 ∧
      Writes (offs [.CLK_STATUS, .CLK_MON_STATUS]) s { t with clk := s.clk })

/-- From R587, R588, R591, R593: CCLK and the time counter change source when the change is due; D moves by one toward its target. -/
def Obligations.ClocksSwitch : Prop :=
  ∀ (s : State),
    (s.clk.por = false → s.clk.core = false → s.get CLK_STATUS.CLOCK_LOST = 0 →
      (s.clk.ftNeed = true → s.clk.roscOk = true → ∃ t, exec (.clockSwitch true) s = .next t ∧ t.get CLK_STATUS.FT_SRC = 1 ∧ t.clk.ftNeed = false ∧
        Writes (offs [.CLK_STATUS, .CLK_MON_STATUS]) s { t with clk := s.clk, tim := s.tim }) ∧
      (s.clk.toCpll = true → s.get CLK_STATUS.CPLL_LOCK = 1 → ∃ t, exec (.clockSwitch false) s = .next t ∧ t.get CLK_STATUS.CCLK_SRC = 2 ∧
        t.get CLK_STATUS.D = 8 ∧ t.clk.gate = false ∧ (s.get CLK_STATUS.FT_SRC = 0 → s.clk.ftNeed = false → t.get CLK_STATUS.ROSC_ON = 0) ∧
        Writes (offs [.CLK_STATUS, .CLK_MON_STATUS, .CIR_DROP_CNT]) s { t with clk := s.clk }) ∧
      (s.clk.toCpll = false → s.clk.needRosc = true → s.clk.roscOk = true → ∃ t, exec (.clockSwitch false) s = .next t ∧
        t.get CLK_STATUS.CCLK_SRC = 1 ∧ t.get CLK_STATUS.D = 8 ∧ t.clk.gate = false ∧
        Writes (offs [.CLK_STATUS, .CLK_MON_STATUS, .CIR_DROP_CNT]) s { t with clk := s.clk })) ∧
    (s.get CLK_STATUS.CCLK_SRC ≠ 0 → 640 ≤ s.clk.srcCycles → s.get CLK_STATUS.D ≠ s.get CLK_CCLK_CTL.DIV + 1 →
      ∃ t, exec .dividerStep s = .next t ∧ Writes (offs [.CLK_STATUS]) s { t with clk := s.clk } ∧
        t.get CLK_STATUS.D = (if s.get CLK_CCLK_CTL.DIV + 1 < s.get CLK_STATUS.D then s.get CLK_STATUS.D - 1 else s.get CLK_STATUS.D + 1))

/-- From R2, R3, R597 to R601, R604: the resets. Power-on reset puts every register to its reset value; its release samples the tie-offs and starts the
clocks; a core reset ends all work, keeps the AON region and the commands that wait, and records its cause.
State that is no register is empty after a reset (log 17). -/
def Obligations.ResetsAct : Prop :=
  ∀ (s : State),
    (∃ t, exec .porAssert s = .next t ∧ t.clk.por = true ∧ t.prog = Prog.reset ∧ t.xf = Xfer.reset ∧ t.net = Net.reset ∧ t.acts = [] ∧
      t.tie = none ∧ t.pending = s.pending ∧ t.clk.aon = s.clk.aon ∧ t.clk.rcosc = s.clk.rcosc ∧
      ∀ r i j, regAt (regOff r i j) = some (r, i, j) → r ≠ .OPT_LM_STATUS → t.rg r i j = BitVec.ofNat 32 (regReset .ep r i j)) ∧
    (∀ o, s.clk.por = true → s.clk.core = false → s.clk.rcOk = true →
      ∃ t, exec (.porRelease o) s = .next t ∧ t.clk.por = false ∧ t.tie.map (fun x => x.persona) = some (personaOf o.persona) ∧
        (o.persona ≠ 3 → bootPhase t = 1 ∧ t.get CLK_STATUS.ROSC_ON = 1) ∧
        (o.persona = 3 → t.get CLK_BOOT_STATUS.ERR = 5 ∧ bootPhase t = bootPhase s ∧ Pends t 1)) ∧
    (s.clk.por = false → ∃ t, exec .coreResetAssert s = .next t ∧ t.clk.core = true ∧ bootPhase t = 0 ∧ t.get CLK_STATUS.CCLK_SRC = 0 ∧
      t.get CLK_RESET_CAUSE.CAUSE = (if s.get CLK_STATUS.CLOCK_LOST = 0 then 1 else 3) ∧ t.prog = Prog.reset ∧ t.xf = Xfer.reset ∧
      t.net = Net.reset ∧ t.acts = [] ∧ t.kiln = State.reset.kiln ∧ t.bnd = State.reset.bnd ∧ t.sec = State.reset.sec ∧ t.tie = s.tie ∧
      t.pending = s.pending ∧ t.rg .GLB_LOCK = s.rg .GLB_LOCK ∧ t.rg .GLB_FLAT_ID = s.rg .GLB_FLAT_ID ∧ t.rg .TIM_SET = s.rg .TIM_SET ∧
      ∀ r i j, regAt (regOff r i j) = some (r, i, j) → aonRegs.contains r = false → r ≠ .OPT_LM_STATUS → obsOff (regOff r i j) = false →
        t.rg r i j = BitVec.ofNat 32 (regReset (persona s) r i j)) ∧
    (s.clk.core = true → s.clk.por = false → s.clk.rcOk = true → persona s ≠ .rsvd →
      ∃ t, exec .coreResetRelease s = .next t ∧ t.clk.core = false ∧ bootPhase t = 1 ∧ t.get CLK_STATUS.ROSC_ON = 1) ∧
    (bootPhase s = 2 → ∃ t, exec .sramInitDone s = .next t ∧ bootPhase t = 3 ∧ (∀ a, a < spwSize → tabGet 0 a t.xf.spw = 0) ∧
      Writes (offs [.CLK_BOOT_STATUS]) s { t with xf := s.xf } ∧ { t.xf with spw := s.xf.spw } = s.xf)

/-! ### Register accesses -/

/-- From R18: the value that a write leaves, bit by bit: RW bits take the written bit, W1C bits clear and W1S bits set where it is 1, RWL bits take it while
the topology is unlocked, every other bit stays. -/
def Obligations.AccessTypesMerge : Prop :=
  ∀ (s : State) (r : RegName) (i j : Nat) (w : W32) (k : Nat), k < 32 → r ∈ regAll →
    (merged s r i j w).getLsbD k =
      (if (regDesc r).rw.testBit k || ((regDesc r).rwl.testBit k && !(s.on GLB_LOCK.TOPO)) then w.getLsbD k
       else if (regDesc r).w1c.testBit k then (s.rg r i j).getLsbD k && !(w.getLsbD k)
       else if (regDesc r).w1s.testBit k then (s.rg r i j).getLsbD k || w.getLsbD k
       else (s.rg r i j).getLsbD k)

/-- From R18, R665: a write of a register without an effect of its own leaves that value, in that register alone. -/
def Obligations.PlainRegistersTakeValues : Prop :=
  ∀ x, PlainRow x → ∀ (s : State) (a : Acc) (i j : Nat) (w : W32), Lands s a x.2 i j w = true →
    exec (x.1 a i j w) s = .next (Answered a (s.setRg x.2 (merged s x.2 i j w) i j))

/-- From R9, R665, R696: a read of a register of 32 bits gives its value on the requester's path and changes nothing but fields that a read clears. -/
def Obligations.RegisterReadAnswers : Prop :=
  ∀ (s : State) (a : Acc) (i j : Nat), ∀ r ∈ [RegName.GLB_FLAT_ID, .GLB_LOCK, .LNK_CREDIT_CFG, .TEN_SQ_HEAD, .TEN_CQ_HEAD, .FLT_SEV,
      .HOD_CFG, .BND_SLOT_STORE, .OBS_TRC_CFG, .OPT_LM_CFG],
    regReach s a.path (regOff r i j) = 2 → regAt (regOff r i j) = some (r, i, j) → (a.path = 3 → s.get GLB_LOCK.I3C = 0) →
    (a.path = 0 → a.dom = serviceDom) → regAbsent s r i = false →
    exec (.rcRegisterRead a (regOff r i j)) s =
      .next { (if r = .FLT_SEV then s.setRg r (s.rg r i j &&& 0xFFFF00FF#32) i j else s) with rgAns := some (a.path, s.rg r i j) }

/-- From R19, R665, R671 to R675: a write that sets a reserved bit sets RSVD_FIELD and acts with that bit at zero; a reserved encoding keeps its field and sets
RSVD_ENC; a write at an offset without a register sets UNMAPPED, a write that its domain may not make sets DOMAIN; each raises ACCESS_ERR and captures the access
where none is held. A read of either of the last two gives zero. -/
def Obligations.AccessErrorsReport : Prop :=
  (∀ (s : State) (a : Acc) (w : W32), regReach s a.path (regOff .GLB_TEMP_CFG 0 0) = 2 → (a.path = 3 → s.get GLB_LOCK.I3C = 0) →
     (a.path = 0 → a.dom = serviceDom) →
     (w.toNat / 4096 ≠ 0 → ∃ t, exec (.registerWrite a (regOff .GLB_TEMP_CFG 0 0) w) s = .next (Answered a t) ∧ t.get GLB_ACCESS_ERR.RSVD_FIELD = 1 ∧
       Pends t 11 ∧ t.get GLB_TEMP_CFG.HIGH = w.toNat % 4096 ∧ WritesErr (offs [.GLB_TEMP_CFG]) s t) ∧
     (13 ≤ fldOf CLK_OBS_CFG.SEL w.toNat → w.toNat &&& (0xFFFFFFFF - regDefined .CLK_OBS_CFG) = 0 →
       ∃ t, exec (.clkObsCfgWrite a w) s = .next (Answered a t) ∧ t.get GLB_ACCESS_ERR.RSVD_ENC = 1 ∧ Pends t 11 ∧
         t.get CLK_OBS_CFG.SEL = s.get CLK_OBS_CFG.SEL ∧ t.get CLK_OBS_CFG.N = fldOf CLK_OBS_CFG.N w.toNat ∧ WritesErr (offs [.CLK_OBS_CFG]) s t)) ∧
  (∀ (s : State) (a : Acc) (off : Nat) (w : W32), regReach s a.path off = 2 → a.path ≠ 3 → off < 2 ^ 24 →
     (regAt off = none → (∃ t, exec (.registerWrite a off w) s = .next (Answered a t) ∧ RefusedWith s t GLB_ACCESS_ERR.UNMAPPED ∧
         (s.get GLB_ACCESS_ERR_INFO.VALID = 0 → t.get GLB_ACCESS_ERR_INFO.VALID = 1 ∧ t.get GLB_ACCESS_ERR_INFO.OFFSET = off / 4 ∧
           t.get GLB_ACCESS_ERR_INFO.WRITE = 1 ∧ t.get GLB_ACCESS_ERR_INFO.PATH = a.path % 8)) ∧
       exec (.rcRegisterRead a off) s = .next { s with rgAns := some (a.path, 0) }) ∧
     (∀ r i j, regAt off = some (r, i, j) → a.path = 0 → a.dom ≠ serviceDom → off < 0x600000 → r ≠ .TEN_DB →
       (tenMayWrite a.dom r i = false → ∃ t, exec (.registerWrite a off w) s = .next (Answered a t) ∧ RefusedWith s t GLB_ACCESS_ERR.DOMAIN) ∧
       (tenMayRead s a.dom r i = false → exec (.rcRegisterRead a off) s = .next { s with rgAns := some (0, 0) })))

/-- From R31, R41, R84, R87, R592, R597, R606, R676: writes that act on the chip as a whole.
A write of TIM_FREQ in HOLDOVER also sets the integral part (the model's reading, log 14). -/
def Obligations.ChipControlWrites : Prop :=
  ∀ (s : State) (a : Acc) (v w : W32),
    (w = forceFlds v [(CLK_RST_CTL.CORE, 1), (CLK_RST_CTL.KEY, 0xA5)] → Lands s a .CLK_RST_CTL 0 0 w = true →
      ∃ t, exec (.softCoreReset a v) s = .next (Answered a t) ∧ t.get CLK_RESET_CAUSE.CAUSE = (if s.get CLK_STATUS.CLOCK_LOST = 0 then 2 else 3) ∧
        t.prog = Prog.reset ∧ t.xf = Xfer.reset ∧ t.acts = [] ∧ t.pending = s.pending ∧
        (persona s ≠ .rsvd → s.clk.rcOk = true → s.clk.por = false → s.clk.core = false → bootPhase t = 1 ∧ t.get CLK_STATUS.ROSC_ON = 1)) ∧
    (w = forceFlds v [(GLB_LOCK.TOPO, 1)] → w.toNat = 1 → Lands s a .GLB_LOCK 0 0 w = true → s.get GLB_LOCK.TOPO = 0 →
      ∃ t, exec (.glbLockTopo a v) s = .next (Answered a t) ∧ (topoBad s = false → t.get GLB_LOCK.TOPO = 1 ∧ t.get GLB_LOCK.TEST = s.get GLB_LOCK.TEST) ∧
        (topoBad s = true → RefusedWith s t GLB_ACCESS_ERR.TOPO)) ∧
    (w = forceFlds v [(GLB_LOCK.TEST, 1)] → w.toNat = 2 → Lands s a .GLB_LOCK 0 0 w = true →
      ∃ t, exec (.glbLockTest a v) s = .next (Answered a t) ∧ t.get GLB_LOCK.TEST = 1 ∧ Writes (offs [.GLB_LOCK]) s t) ∧
    (w = forceFlds v [(GLB_LOCK.I3C, 1)] → w.toNat = 4 → Lands s a .GLB_LOCK 0 0 w = true →
      ∃ t, exec (.glbLockI3c a v) s = .next (Answered a t) ∧ t.get GLB_LOCK.I3C = 1 ∧ Writes (offs [.GLB_LOCK]) s t) ∧
    (∀ p n, p < 32 → n < 4 → n ≠ portRole s p → w = BitVec.ofNat 32 (setBits (s.rg .GLB_PORT_ROLE (p / 16)).toNat (2 * (p % 16)) 2 n) →
      Lands s a .GLB_PORT_ROLE (p / 16) 0 w = true → ∃ t, exec (.portRoleWrite a (p / 16) w) s = .next (Answered a t) ∧
        (roleOk s p n = true → linkState s p = 0 → portRole t p = n ∧ ∀ q, q < 32 → q ≠ p → portRole t q = portRole s q) ∧
        (roleOk s p n = true → linkState s p ≠ 0 → RefusedWith s t GLB_ACCESS_ERR.BUSY) ∧
        (roleOk s p n = false → linkState s p = 0 → RefusedWith s t GLB_ACCESS_ERR.RSVD_ENC)) ∧
    (w = forceFlds v [(TIM_CTL.LOAD, 1)] → Lands s a .TIM_CTL 0 0 w = true →
      ∃ t, exec (.timLoad a v) s = .next (Answered a t) ∧ t.rg .TIM_CTL = merged s .TIM_CTL 0 0 w ∧
        (timState s = 4 → s.get TIM_CTL.EXCH_EN = 0 → now s ≤ s.getPair .TIM_SET →
          now t = s.getPair .TIM_SET ∧ t.tim.frac = 0 ∧ ∀ x, x ∈ t.acts ↔ x ∈ s.acts ∧ s.getPair .TIM_SET ≤ x.t) ∧
        (timState s ≠ 4 ∨ s.get TIM_CTL.EXCH_EN = 1 ∨ s.getPair .TIM_SET < now s →
          t.get GLB_ACCESS_ERR.BUSY = 1 ∧ Pends t 11 ∧ WritesErr (offs [.TIM_CTL]) s t)) ∧
    (Lands s a .TIM_FREQ 0 0 w = true → ∃ t, exec (.timFreqWrite a w) s = .next (Answered a t) ∧
      freqF t = max (-8589934) (min 8589934 w.toInt) ∧ t.tim = { s.tim with fInt := if timState s = 3 then freqF t else s.tim.fInt } ∧
      Writes (offs [.TIM_FREQ]) s { t with tim := s.tim }) ∧
    (w = forceFlds v [(CLK_CCLK_CTL.RETURN, 1)] → Lands s a .CLK_CCLK_CTL 0 0 w = true →
      exec (.cclkReturn a v) s = .next (Answered a { s.setRg .CLK_CCLK_CTL (merged s .CLK_CCLK_CTL 0 0 w) with
        clk := { s.clk with toCpll := s.clk.toCpll || (s.get CLK_STATUS.CCLK_SRC == 1 && s.get CLK_STATUS.CPLL_LOCK == 1 && s.clk.refWins != 0) } })) ∧
    (w = forceFlds v [(CLK_BOOT_DOOR.GO, 1)] → Lands s a .CLK_BOOT_DOOR 0 0 w = true → a.path = 0 ∨ a.path = 3 → bootPhase s = 3 →
      ∃ t, exec (.bootDoor a v) s = .next (Answered a t) ∧ bootPhase t = 4 ∧ t.get CLK_BOOT_STATUS.SOURCE = (if a.path = 3 then 1 else 0) ∧
        Writes (offs [.CLK_BOOT_STATUS]) s t)

/-! ### Registers of queues, tenants and units -/

/-- From R122 to R124, R34, R159: a tail doorbell moves the tail count of an enabled queue within its size, a head doorbell returns ring space; out of range, or
for a queue that is OFF or DRAINING, DB_ERR; from a foreign domain, DOMAIN_ERR. -/
def Obligations.DoorbellsMoveCounts : Prop :=
  ∀ (s : State) (a : Acc) (i : Nat) (w : W32), i < 4104 →
    (Rings s a (16 * (i / 8) + i % 8) = true → isEp s = true ∨ 4096 ≤ i →
      (domOf a = ownerOf i ∨ domOf a = serviceDom →
        (s.get TEN_SQ_STATUS.STATE i ≠ 0 → s.get TEN_SQ_STATUS.STATE i ≠ 2 →
          sub32 w.toNat (s.get TEN_SQ_HEAD.COUNT i) ≤ 2 ^ s.get TEN_SQ_CFG.LOG2_SIZE i →
          exec (.tailDoorbell a i w) s = .next (Answered a { s with prog := { s.prog with sqTail := tabSet 0 i w.toNat s.prog.sqTail } })) ∧
        (s.get TEN_SQ_STATUS.STATE i = 0 ∨ s.get TEN_SQ_STATUS.STATE i = 2 ∨
            2 ^ s.get TEN_SQ_CFG.LOG2_SIZE i < sub32 w.toNat (s.get TEN_SQ_HEAD.COUNT i) →
          exec (.tailDoorbell a i w) s = .next (Answered a (s.put TEN_SQ_STATUS.DB_ERR 1 i)))) ∧
      (domOf a ≠ ownerOf i → domOf a ≠ serviceDom →
        exec (.tailDoorbell a i w) s = .next (Answered a (s.put TEN_SQ_STATUS.DOMAIN_ERR 1 i)))) ∧
    (Rings s a (16 * (i / 8) + 8 + i % 8) = true → domOf a ≠ ownerOf i → domOf a ≠ serviceDom →
      exec (.headDoorbell a i w) s = .next (Answered a (s.put TEN_CQ_STATUS.DOMAIN_ERR 1 i))) ∧
    (Rings s a (16 * (i / 8) + 8 + i % 8) = true → domOf a = ownerOf i ∨ domOf a = serviceDom →
      (sub32 (s.get TEN_CQ_TAIL.COUNT i) w.toNat ≤ 2 ^ s.get TEN_CQ_CFG.LOG2_SIZE i →
        ∃ t, exec (.headDoorbell a i w) s = .next (Answered a t) ∧ t.get TEN_CQ_HEAD.COUNT i = w.toNat ∧
          t.get TEN_CQ_STATUS.FULL i = b2n (ringFull t i) ∧
          Writes (offs [.TEN_CQ_HEAD, .TEN_CQ_STATUS] i ++ (tenRings (ownerOf i)).flatMap (fun q => offs [.TEN_SQ_STATUS] q)) s t) ∧
      (2 ^ s.get TEN_CQ_CFG.LOG2_SIZE i < sub32 (s.get TEN_CQ_TAIL.COUNT i) w.toNat →
        exec (.headDoorbell a i w) s = .next (Answered a (s.put TEN_CQ_STATUS.DB_ERR 1 i))))

/-- From R120, R121, R139, R140, R154, R155, R161, R162: setting EN of a well-placed queue starts its counts and makes it ACTIVE (SUSPENDED while a ring of the tenant
is full); setting EN of a well-placed ring starts its counts; an ill-placed one sets CFG_ERR and stays off. Clearing EN of a queue stops its fetch and leaves it
DRAINING until its commands have completed; an abort also ends every command of it with ABORTED; clearing EN of a ring empties its due records. -/
def Obligations.QueuesEnableAndStop : Prop :=
  (∀ (s : State) (a : Acc) (i : Nat) (v w : W32),
     (w = forceFlds v [(TEN_SQ_CFG.EN, 1)] → Lands s a .TEN_SQ_CFG i 0 w = true → s.get TEN_SQ_CFG.EN i = 0 →
       ∃ t, exec (.sqEnable a i v) s = .next (Answered a t) ∧ t.get TEN_SQ_CFG.LOG2_SIZE i = bits w.toNat 0 5 ∧ t.get TEN_SQ_CFG.CTX i = bits w.toNat 5 10 ∧
         t.get TEN_SQ_CFG.ERR_RING i = bits w.toNat 15 3 ∧
         Writes (offs [.TEN_SQ_CFG, .TEN_SQ_HEAD, .TEN_SQ_DONE] i ++ offs [.TEN_CQ_STATUS] (8 * (i / 8)) ++
           (tenRings (ownerOf i)).flatMap (fun q => offs [.TEN_SQ_STATUS] q)) s { t with prog := s.prog } ∧
         (placeOk s (s.get TEN_SQ_BASE_HI.SPACE i) (sqBase s i) (bits w.toNat 0 5) 64 = true → ctxExists s (bits w.toNat 5 10) = true →
           t.get TEN_SQ_CFG.EN i = 1 ∧ t.get TEN_SQ_HEAD.COUNT i = 0 ∧ t.get TEN_SQ_DONE.SEQ i = (s.get TEN_SQ_SEQ.NEXT i + (2 ^ 32 - 1)) % 2 ^ 32 ∧
           sqPending t i = 0 ∧ t.get TEN_SQ_STATUS.STATE i = if (tenRings (ownerOf i)).any (ringFull s) then 3 else 1) ∧
         (placeOk s (s.get TEN_SQ_BASE_HI.SPACE i) (sqBase s i) (bits w.toNat 0 5) 64 = false ∨ ctxExists s (bits w.toNat 5 10) = false →
           t.get TEN_SQ_CFG.EN i = 0 ∧ t.get TEN_SQ_STATUS.CFG_ERR i = 1 ∧ t.get TEN_SQ_STATUS.STATE i = s.get TEN_SQ_STATUS.STATE i)) ∧
     (w = forceFlds v [(TEN_CQ_CFG.EN, 1)] → Lands s a .TEN_CQ_CFG i 0 w = true → s.get TEN_CQ_CFG.EN i = 0 →
       ∃ t, exec (.cqEnable a i v) s = .next (Answered a t) ∧ t.get TEN_CQ_CFG.LOG2_SIZE i = bits w.toNat 0 5 ∧
         (placeOk s (s.get TEN_CQ_BASE_HI.SPACE i) (cqBase s i) (bits w.toNat 0 5) 32 = true →
           t.get TEN_CQ_CFG.EN i = 1 ∧ t.get TEN_CQ_TAIL.COUNT i = 0 ∧ t.get TEN_CQ_HEAD.COUNT i = 0 ∧ t.get TEN_CQ_STATUS.FULL i = 0) ∧
         (placeOk s (s.get TEN_CQ_BASE_HI.SPACE i) (cqBase s i) (bits w.toNat 0 5) 32 = false →
           t.get TEN_CQ_CFG.EN i = 0 ∧ t.get TEN_CQ_STATUS.CFG_ERR i = 1))) ∧
  (∀ (s : State) (a : Acc) (i : Nat) (v w : W32),
     (w = forceFlds v [(TEN_SQ_CFG.EN, 0)] → Lands s a .TEN_SQ_CFG i 0 w = true → s.get TEN_SQ_CFG.EN i = 1 →
       ∃ t, exec (.sqDisable a i v) s = .next (Answered a t) ∧ t.get TEN_SQ_CFG.EN i = 0 ∧ sqPending t i = 0 ∧
         t.get TEN_SQ_STATUS.STATE i = if queueBusy t i then 2 else 0) ∧
     (w = forceFlds v [(TEN_SQ_CTL.ABORT, 1)] → Lands s a .TEN_SQ_CTL i 0 w = true →
       ∃ t, exec (.sqAbort a i v) s = .next (Answered a t) ∧ t.get TEN_SQ_CFG.EN i = 0 ∧
         ∀ c m, cmdOf s c m.id = some m → m.q = i → m.ended = false →
           ∃ m' n, cmdOf t c m.id = some m' ∧ m'.ended = true ∧ m'.stats = m.stats ++ [⟨0x0B, n⟩]) ∧
     (w = forceFlds v [(TEN_CQ_CFG.EN, 0)] → Lands s a .TEN_CQ_CFG i 0 w = true → s.get TEN_CQ_CFG.EN i = 1 →
       ∃ t, exec (.cqDisable a i v) s = .next (Answered a t) ∧ t.get TEN_CQ_CFG.EN i = 0 ∧ tabGet [] i t.prog.rings = []))

/-- From R112, R259, R348, R434, R513, R550: a write of a lease register holds its value there until the next boundary judges the unit; hods of a memory device stay
with the service domain; the contexts of the service cores are bound for good. -/
def Obligations.LeaseWritesWait : Prop :=
  ∀ (s : State) (a : Acc) (i : Nat) (w : W32),
    (∀ x, LeaseRow x → Lands s a x.2.1 i 0 w = true → (x.2.2.1 = 6 → i < 512) → (x.2.2.1 = 4 → isMem s = false) →
      exec (x.1 a i w) s = .next (Answered a { s.setRg x.2.1 (merged s x.2.1 i 0 w) i with sec := { s.sec with due := s.sec.due ++ [unitKey x.2.2.1 i] } }) ∧
      bits (merged s x.2.1 i 0 w).toNat 0 10 = bits w.toNat 0 10 ∧ (merged s x.2.1 i 0 w).getLsbD x.2.2.2 = w.getLsbD x.2.2.2 ∧
      bits (merged s x.2.1 i 0 w).toNat 16 8 = bits (s.rg x.2.1 i).toNat 16 8) ∧
    (Lands s a .HOD_CFG i 0 w = true → isMem s = true →
      ∃ t, exec (.hodCfgWrite a i w) s = .next (Answered a t) ∧ t.get HOD_CFG.TENANT i = 0x200 ∧ t.get HOD_CFG.EN i = bits w.toNat 31 1) ∧
    (Lands s a .TRW_CTX_CFG i 0 w = true → 512 ≤ i → bits w.toNat 0 10 = 0x200 → w.getLsbD 24 = true →
      exec (.ctxCfgWrite a i w) s = .next (Answered a s)) ∧
    (Lands s a .TRW_CTX_CFG i 0 w = true → 512 ≤ i → bits w.toNat 0 10 ≠ 0x200 ∨ w.getLsbD 24 = false →
      ∃ t, exec (.ctxCfgWrite a i w) s = .next (Answered a t) ∧ RefusedWith s t GLB_ACCESS_ERR.RSVD_ENC)

/-- From R49 to R52, R215, R547, R572: writes of a tenant's view, its entries, windows, enable and code region are checked. -/
def Obligations.TenantTablesAreChecked : Prop :=
  ∀ (s : State) (a : Acc) (i j : Nat) (w : W32),
    (Lands s a .TEN_VIEW_CFG i 0 w = true → i < 512 → (s.rg .TEN_VIEW_CFG i).toNat &&& 0x7C00F800 = 0 →
      (w.getLsbD 31 = true → bits w.toNat 16 10 = 0 ∨ 512 < bits w.toNat 16 10 ∨ 2048 < bits w.toNat 0 11 + bits w.toNat 16 10 →
        exec (.tenViewCfgWrite a i w) s = .next (Answered a (s.put TEN_VIEW_ERR.RANGE 1))) ∧
      (w.getLsbD 31 = true → 0 < bits w.toNat 16 10 → bits w.toNat 16 10 ≤ 512 → bits w.toNat 0 11 + bits w.toNat 16 10 ≤ 2048 →
        (∃ u, u < 512 ∧ u ≠ i ∧ s.get TEN_VIEW_CFG.EN u = 1 ∧ bits w.toNat 0 11 < bits (s.rg .TEN_VIEW_CFG u).toNat 0 11 + bits (s.rg .TEN_VIEW_CFG u).toNat 16 10 ∧
          bits (s.rg .TEN_VIEW_CFG u).toNat 0 11 < bits w.toNat 0 11 + bits w.toNat 16 10) →
        exec (.tenViewCfgWrite a i w) s = .next (Answered a (s.put TEN_VIEW_ERR.OVERLAP 1))) ∧
      (w.getLsbD 31 = false → exec (.tenViewCfgWrite a i w) s = .next (Answered a { s.setRg .TEN_VIEW_CFG w i with viewDue := s.viewDue ++ [i] }))) ∧
    (Lands s a .TEN_VIEW_ENTRY i 0 w = true → (s.rg .TEN_VIEW_ENTRY i).toNat < 2 ^ 22 →
      (w.getLsbD 21 = decide (0xC000 ≤ w.toNat % 65536 ∧ w.toNat % 65536 ≠ 0xFFFF) → (w.getLsbD 16 = true → w.toNat % 65536 ≠ 0xFFFF) →
        exec (.viewEntryWrite a i w) s = .next (Answered a (s.setRg .TEN_VIEW_ENTRY w i))) ∧
      ((w.getLsbD 16 = true ∧ w.toNat % 65536 = 0xFFFF) ∨ w.getLsbD 21 ≠ decide (0xC000 ≤ w.toNat % 65536 ∧ w.toNat % 65536 ≠ 0xFFFF) →
        ∃ t, exec (.viewEntryWrite a i w) s = .next (Answered a t) ∧ RefusedWith s t GLB_ACCESS_ERR.RSVD_ENC)) ∧
    (∀ r ∈ [RegName.TEN_WIN_BASE_LO, .TEN_WIN_BASE_HI, .TEN_WIN_LIMIT_LO, .TEN_WIN_LIMIT_HI], Lands s a r i j w = true →
      ∀ u, u = s.setRg r (merged s r i j w) i j →
        (u.get TEN_WIN_LIMIT_HI.EN i j = 0 ∨ (u.get TEN_WIN_BASE_HI.SPACE i j ≤ 1 ∧
            u.get TEN_WIN_BASE_LO.BASE i j + 2 ^ 20 * u.get TEN_WIN_BASE_HI.BASE i j ≤
              u.get TEN_WIN_LIMIT_LO.LIMIT i j + 2 ^ 20 * u.get TEN_WIN_LIMIT_HI.LIMIT i j) →
          exec (.tenWinWrite a r i j w) s = .next (Answered a u)) ∧
        (u.get TEN_WIN_LIMIT_HI.EN i j = 1 → 1 < u.get TEN_WIN_BASE_HI.SPACE i j →
          ∃ t, exec (.tenWinWrite a r i j w) s = .next (Answered a t) ∧ RefusedWith s t GLB_ACCESS_ERR.RSVD_ENC)) ∧
    (Lands s a .SEC_TEN_CFG i 0 w = true →
      ∃ t, exec (.secTenCfgWrite a i w) s = .next (Answered a t) ∧ t.get SEC_TEN_CFG.EN i = bits w.toNat 0 1 ∧
        Writes (offs [.SEC_STATUS] ++ offs [.SEC_TEN_CFG] i) s t ∧
        (s.get SEC_TEN_CFG.ACTIVE i = 0 → s.get SEC_TEN_CFG.EN i = 0 → s.get GLB_LOCK.TEST = 1 → t.get SEC_TEN_CFG.CONF i = bits w.toNat 1 1) ∧
        (bits w.toNat 1 1 ≠ s.get SEC_TEN_CFG.CONF i → s.get SEC_TEN_CFG.ACTIVE i = 1 ∨ s.get SEC_TEN_CFG.EN i = 1 →
          t.get SEC_TEN_CFG.CONF i = s.get SEC_TEN_CFG.CONF i ∧ t.get SEC_STATUS.CONF_ERR = 1)) ∧
    (Lands s a .TRW_CODE i 0 w = true →
      (w.getLsbD 31 = false ∨ (bits w.toNat 0 14 + bits w.toNat 16 6 + 1) * 4096 ≤ spwSize →
        exec (.trwCodeWrite a i w) s = .next (Answered a (s.setRg .TRW_CODE (merged s .TRW_CODE i 0 w) i))) ∧
      (w.getLsbD 31 = true → spwSize < (bits w.toNat 0 14 + bits w.toNat 16 6 + 1) * 4096 →
        ∃ t, exec (.trwCodeWrite a i w) s = .next (Answered a t) ∧ RefusedWith s t GLB_ACCESS_ERR.RSVD_ENC))

/-- From R279, R292, R294, R333, R343, R344, R350: configuration of transfers and bonds. -/
def Obligations.TransferAndBondRegisters : Prop :=
  ∀ (s : State) (a : Acc) (i j : Nat) (v w : W32),
    (w = forceFlds v [(HOD_FLOW_RESET.GO, 1)] → Lands s a .HOD_FLOW_RESET 0 0 w = true → s.get HOD_FLOW_RESET.BUSY = 0 →
      ∃ t, exec (.hodFlowReset a v) s = .next (Answered a t) ∧ t.get HOD_FLOW_RESET.BUSY = 1 ∧ t.xf = { s.xf with resetPeer := some (w.toNat % 65536) } ∧
        Writes (offs [.HOD_FLOW_RESET]) s { t with xf := s.xf }) ∧
    (Lands s a .HOD_RX_RELEASE 0 0 w = true →
      (tabFind (w.toNat % 65536) s.xf.handles = none →
        exec (.hodRxRelease a w) s = .next (Answered a (s.put HOD_RX_STATUS.BAD_RELEASE 1))) ∧
      ∀ x, tabFind (w.toNat % 65536) s.xf.handles = some x →
        (domOf a ≠ serviceDom → domOf a ≠ x.ten → exec (.hodRxRelease a w) s = .next (Answered a (s.put HOD_RX_STATUS.DOMAIN_ERR 1))) ∧
        (domOf a = serviceDom ∨ domOf a = x.ten →
          ∃ t, exec (.hodRxRelease a w) s = .next (Answered a t) ∧ { t with xf := s.xf } = s ∧
            (2 ≤ x.refs → tabFind (w.toNat % 65536) t.xf.handles = some { x with refs := x.refs - 1 } ∧ t.xf.bpmRel = s.xf.bpmRel) ∧
            (x.refs ≤ 1 → tabFind (w.toNat % 65536) t.xf.handles = none ∧ t.xf.bpmRel = s.xf.bpmRel ++ [(x.pool, x.ten, x.addr)]))) ∧
    ((∀ r ∈ [RegName.HOD_MBOX_ADDR, .HOD_MBOX_RING_LO, .HOD_MBOX_RING_HI], Lands s a r i 0 w = true →
        (s.get HOD_MBOX_CFG.EN i = 0 → exec (.mailboxCfgWrite a r i 0 w) s = .next (Answered a (s.setRg r (merged s r i 0 w) i))) ∧
        (s.get HOD_MBOX_CFG.EN i = 1 → ∃ t, exec (.mailboxCfgWrite a r i 0 w) s = .next (Answered a t) ∧ RefusedWith s t GLB_ACCESS_ERR.BUSY)) ∧
      (Lands s a .HOD_MBOX_CFG i 0 w = true → s.get HOD_MBOX_CFG.EN i = 0 → w.getLsbD 31 = true →
        ∃ t, exec (.mailboxCfgWrite a .HOD_MBOX_CFG i 0 w) s = .next (Answered a t) ∧ t.get HOD_MBOX_CFG.EN i = 1 ∧
          t.get HOD_MBOX_CFG.LOG2_SIZE i = bits w.toNat 0 5 ∧ t.get HOD_MBOX_TAIL.COUNT i = 0 ∧ t.get HOD_MBOX_HEAD.COUNT i = 0 ∧
          Writes (offs [.HOD_MBOX_CFG, .HOD_MBOX_TAIL, .HOD_MBOX_HEAD] i) s t)) ∧
    (Lands s a .HOD_RCB_CFG 0 0 w = true → ∃ t, exec (.rcbCfgWrite a w) s = .next (Answered a t) ∧ t.rg .HOD_RCB_CFG = merged s .HOD_RCB_CFG 0 0 w ∧
      (∀ e ∈ t.xf.rcb, e.busy = true ∧ e.keep = false ∧ ∃ x ∈ s.xf.rcb, x.busy = true ∧ e = { x with keep := false }) ∧
      Writes (offs [.HOD_RCB_CFG]) s { t with xf := s.xf }) ∧
    (w = forceFlds v [(BND_BOND_CFG.VALID, 1)] → Lands s a .BND_BOND_CFG i 0 w = true → s.get BND_BOND_STATUS.RUNNING i = 0 → s.get BND_BOND_CFG.VALID i = 0 →
      ∀ u, u = s.setRg .BND_BOND_CFG (merged s .BND_BOND_CFG i 0 w) i →
        ∃ t, exec (.bondCfgValid a i v) s = .next (Answered a t) ∧
          (bondCfgBad u i = true → t.get BND_BOND_CFG.VALID i = 0 ∧ t.get BND_BOND_STATUS.CFG_ERR i = 1) ∧
          (bondCfgBad u i = false → t.get BND_BOND_CFG.VALID i = 1 ∧
            (∀ k, ((bondMembers s i).map (fun x => x.1)).idxOf? (ownFlat s) = some k → t.get BND_BOND_STATUS.MEMBER i = 1 ∧ t.get BND_BOND_STATUS.SELF i = k % 4096) ∧
            (ownFlat s ∉ (bondMembers s i).map (fun x => x.1) → t.get BND_BOND_STATUS.MEMBER i = 0)) ∧
          Writes (offs [.BND_BOND_CFG, .BND_BOND_STATUS] i) s { t with bnd := s.bnd }) ∧
    (∀ r ∈ [RegName.BND_BOND_MEM, .BND_BOND_EPOCH, .BND_BOND_BOX, .BND_BOND_TREE], Lands s a r i 0 w = true →
      (s.get BND_BOND_STATUS.RUNNING i = 0 → exec (.bondEntryWrite a r i 0 w) s = .next (Answered a (s.setRg r (merged s r i 0 w) i))) ∧
      (s.get BND_BOND_STATUS.RUNNING i = 1 → ∃ t, exec (.bondEntryWrite a r i 0 w) s = .next (Answered a t) ∧ RefusedWith s t GLB_ACCESS_ERR.BUSY)) ∧
    (Lands s a .BND_MEMBER i j w = true →
      (memberBusy s i = false → exec (.bondEntryWrite a .BND_MEMBER i j w) s = .next (Answered a (s.setRg .BND_MEMBER (merged s .BND_MEMBER i j w) i j))) ∧
      (memberBusy s i = true → ∃ t, exec (.bondEntryWrite a .BND_MEMBER i j w) s = .next (Answered a t) ∧ RefusedWith s t GLB_ACCESS_ERR.BUSY)) ∧
    (Lands s a .BND_SLOT_STORE i 0 w = true → i < 32 → ∀ sum, sum = ((List.range 32).map (fun k => if k = i then w.toNat % 256 else s.get BND_SLOT_STORE.STORE_64K k)).sum →
      (s.get BND_SLOT_CFG.EN i = 1 → ∃ t, exec (.bndSlotStoreWrite a i w) s = .next (Answered a t) ∧ RefusedWith s t GLB_ACCESS_ERR.BUSY) ∧
      (s.get BND_SLOT_CFG.EN i = 0 → s.get BND_STORE_STATUS.AVAIL < sum →
        exec (.bndSlotStoreWrite a i w) s = .next (Answered a (s.put BND_STORE_STATUS.OVER 1))) ∧
      (s.get BND_SLOT_CFG.EN i = 0 → sum ≤ s.get BND_STORE_STATUS.AVAIL →
        ∃ t, exec (.bndSlotStoreWrite a i w) s = .next (Answered a t) ∧ t.get BND_SLOT_STORE.STORE_64K i = w.toNat % 256 ∧
          t.get BND_STORE_STATUS.LEASED = sum ∧ Writes (offs [.BND_SLOT_STORE] i ++ offs [.BND_STORE_STATUS]) s t))

/-- From R490, R504, R507, R522, R523, R525: a commit of a route entry changes the shadow bank alone; multicast entries, circuit shadows, notices, restores
and throttle thresholds are checked. -/
def Obligations.RoutingRegisters : Prop :=
  ∀ (s : State) (a : Acc) (i p k : Nat) (v w : W32),
    (Lands s a .RTE_TBL_DATA 3 0 w = true →
      (s.get RTE_STATUS.ROUTE_PEND = 1 → ∃ t, exec (.routeCommit a w) s = .next (Answered a t) ∧ RefusedWith s t GLB_ACCESS_ERR.BUSY) ∧
      (s.get RTE_STATUS.ROUTE_PEND = 0 → routeOk s (s.net.rtHold.set 3 w) = false →
        exec (.routeCommit a w) s = .next (Answered a (s.put RTE_STATUS.ENTRY_ERR 1))) ∧
      (s.get RTE_STATUS.ROUTE_PEND = 0 → routeOk s (s.net.rtHold.set 3 w) = true →
        ∃ t, exec (.routeCommit a w) s = .next (Answered a t) ∧ Writes (offs [.RTE_TBL_IDX]) s { t with net := s.net } ∧
          t.get RTE_TBL_IDX.INDEX = (s.get RTE_TBL_IDX.INDEX + s.get RTE_TBL_IDX.AUTOINC) % 65536 ∧
          (∀ f, routeEntry t f false = routeEntry s f false) ∧
          ∀ f, routeEntry t f true = if f = s.get RTE_TBL_IDX.INDEX then s.net.rtHold.set 3 w else routeEntry s f true)) ∧
    (Lands s a .RTE_MC_DATA 10 0 w = true → ∀ u l, u = s.setRg .RTE_MC_DATA w 10 → l = (List.range 11).map (fun j => u.rg .RTE_MC_DATA j) →
      (mcOk u l = false → exec (.mcCommit a w) s = .next (Answered a (u.put RTE_STATUS.MC_ERR 1))) ∧
      (mcOk u l = true → ∃ t, exec (.mcCommit a w) s = .next (Answered a t) ∧ tabGet mcZero (s.get RTE_MC_IDX.GROUP) t.net.mc = l ∧
        (∀ g, g ≠ s.get RTE_MC_IDX.GROUP → tabGet mcZero g t.net.mc = tabGet mcZero g s.net.mc) ∧
        Writes (offs [.RTE_MC_IDX] ++ offs [.RTE_MC_DATA] 10) s { t with net := s.net })) ∧
    (∀ o r, r = (if o then RegName.CIR_OUT_SHADOW else RegName.CIR_IN_SHADOW) → Lands s a r p k w = true →
      (s.get CIR_STATUS.SCHED_PEND = 1 → ∃ t, exec (.cirShadowWrite a o p k w) s = .next (Answered a t) ∧ RefusedWith s t GLB_ACCESS_ERR.BUSY) ∧
      (s.get CIR_STATUS.SCHED_PEND = 0 → (s.rg r p k).toNat &&& (0xFFFFFFFF - regDefined r) = 0 → w.getLsbD 12 = false → w.getLsbD 13 = false →
        exec (.cirShadowWrite a o p k w) s = .next (Answered a (s.setRg r w p k))) ∧
      (s.get CIR_STATUS.SCHED_PEND = 0 → o = false → w.getLsbD 12 = true → w.getLsbD 13 = false → bits w.toNat 19 4 = 0 →
        exec (.cirShadowWrite a o p k w) s = .next (Answered a (s.put CIR_STATUS.ENTRY_ERR 1)))) ∧
    (w = forceFlds v [(CIR_PALLET_PORTS.RESTORE, 1)] → Lands s a .CIR_PALLET_PORTS i 0 w = true →
      ∃ t, exec (.restore a i v) s = .next (Answered a t) ∧ t.get CIR_PALLET_PORTS.RESTORE i = 1 ∧ t.get CIR_PALLET_PORTS.PORT i = bits w.toNat 0 5 ∧
        t.get CIR_PALLET_PORTS.STATE i = s.get CIR_PALLET_PORTS.STATE i ∧ Writes (offs [.CIR_PALLET_PORTS] i) s t) ∧
    (Lands s a .CIR_NOTICE 0 0 w = true → 1 ≤ bits w.toNat 12 4 → bits w.toNat 12 4 ≤ 3 →
      ((unitOf s 5 (w.toNat % 4096)).en = false → exec (.cirNotice a w) s = .next (Answered a (s.put CIR_STATUS.NOTICE_ERR 1))) ∧
      ((unitOf s 5 (w.toNat % 4096)).en = true → ∃ t, exec (.cirNotice a w) s = .next (Answered a t) ∧
        t.net = { s.net with notices := s.net.notices ++ [(w.toNat % 4096, bits w.toNat 12 4)] } ∧
        t.get CIR_PALLET_CNT.NOTICES (w.toNat % 4096) = min 65535 (s.get CIR_PALLET_CNT.NOTICES (w.toNat % 4096) + 1) ∧
        Writes (offs [.CIR_PALLET_CNT] (w.toNat % 4096)) s { t with net := s.net })) ∧
    (Lands s a .RTE_THROTTLE 0 0 w = true →
      (bits w.toNat 10 10 < bits w.toNat 0 10 → exec (.rteThrottleWrite a w) s = .next (Answered a (s.setRg .RTE_THROTTLE (merged s .RTE_THROTTLE 0 0 w)))) ∧
      (bits w.toNat 0 10 ≤ bits w.toNat 10 10 →
        ∃ t, exec (.rteThrottleWrite a w) s = .next (Answered a t) ∧ RefusedWith s t GLB_ACCESS_ERR.RSVD_ENC))

/-- From R461, R465, R466, R468, R471, R474, R475, R480, R528, R625: the commands of a port's link and its configuration. -/
def Obligations.LinkRegisters : Prop :=
  ∀ (s : State) (a : Acc) (p j : Nat) (v w : W32), p < 32 →
    (w = forceFlds v [(LNK_CTL.EN, 1)] → w.toNat = 1 → Lands s a .LNK_CTL p 0 w = true → s.get LNK_CTL.EN p = 0 → portRole s p ≠ 0 →
      s.get GLB_LOCK.TOPO = 1 → linkState s p = 0 →
      ∃ t, exec (.linkEnable a p v) s = .next (Answered a t) ∧ t.get LNK_CTL.EN p = 1 ∧ linkState t p = 1 ∧ t.get LNK_STATUS.DOWN_REASON p = 0 ∧
        Writes (offs [.LNK_CTL, .LNK_STATUS] p) s { t with net := s.net }) ∧
    (w = forceFlds v [(LNK_CTL.EN, 0)] → w.toNat = 0 → Lands s a .LNK_CTL p 0 w = true → s.get LNK_CTL.EN p = 1 →
      ∃ t, exec (.linkDisable a p v) s = .next (Answered a t) ∧ t.get LNK_CTL.EN p = 0 ∧ linkState t p = 0 ∧ ∀ q, q < 32 → q ≠ p → linkState t q = linkState s q) ∧
    (∀ e, s.get LNK_CTL.EN p = e →
      (w = forceFlds v [(LNK_CTL.RETRAIN, 1)] → w.toNat = e + 2 → Lands s a .LNK_CTL p 0 w = true → linkState s p = 8 → (portOf s p).retrain = none →
        ∃ t, exec (.lnkRetrain a p v) s = .next (Answered a t) ∧ (portOf t p).retrain = some (portGen s p) ∧ linkState t p = 8) ∧
      (w = forceFlds v [(LNK_CTL.WIDEN, 1)] → w.toNat = e + 4 → Lands s a .LNK_CTL p 0 w = true → linkState s p = 8 → (portOf s p).retrain = none →
        (portOf s p).width = none → ∀ c, widthFor (healthy s p).length (s.get LNK_CFG.MAX_WIDTH p) = some c →
        ∃ t x, exec (.lnkWiden a p v) s = .next (Answered a t) ∧ (portOf t p).width = some x ∧ x.code = c ∧ x.own = true ∧ x.agreed = false) ∧
      (w = forceFlds v [(LNK_CTL.RESYNC, 1)] → w.toNat = e + 8 → Lands s a .LNK_CTL p 0 w = true → linkState s p = 8 → (portOf s p).resync = none →
        ∃ t, exec (.lnkResync a p v) s = .next (Answered a t) ∧ (portOf t p).resync.isSome = true ∧ t.get LNK_STATUS.RESYNC p = 1) ∧
      (w = forceFlds v [(LNK_CTL.RETRY, 1)] → w.toNat = e + 16 → Lands s a .LNK_CTL p 0 w = true → linkState s p = 4 →
        ∃ t, exec (.lnkRetry a p v) s = .next (Answered a t) ∧ linkState t p = 3 ∧ t.get LNK_STATUS.GEN_EXCL p = 0) ∧
      (w = forceFlds v [(LNK_CTL.FORCE_DOWN, 1)] → w.toNat = e + 32 → Lands s a .LNK_CTL p 0 w = true → linkState s p ≠ 0 → linkState s p ≠ 9 →
        ∃ t, exec (.lnkForceDown a p v) s = .next (Answered a t) ∧ linkState t p = 9 ∧ t.get LNK_STATUS.DOWN_REASON p = 9 ∧ Pends t (16 + p) ∧
          ∀ q, q < 32 → q ≠ p → linkState t q = linkState s q)) ∧
    (w = forceFlds v [(LNK_SPARE_CTL.GO, 1)] → Lands s a .LNK_SPARE_CTL p 0 w = true → linkState s p = 8 → s.get LNK_STATUS.SPARING p = 0 →
      (portOf s p).spare = none →
      ∃ t, exec (.lnkSpareGo a p v) s = .next (Answered a t) ∧
        (∀ l, readySpare s p = some l → (portOf t p).spare = some ⟨w.toNat % 16, l, none⟩ ∧ t.get LNK_STATUS.SPARING p = 1) ∧
        (readySpare s p = none → t.get LNK_SPARE_CNT.NONE p = min (2 ^ LNK_SPARE_CNT.NONE.w - 1) (s.get LNK_SPARE_CNT.NONE p + 1))) ∧
    (Lands s a .LNK_CFG p 0 w = true → ∃ t, exec (.lnkCfgWrite a p w) s = .next (Answered a t) ∧
      t.get LNK_CFG.GEN_EN p = (w.toNat % 8) &&& (if s.get OPT_PORT_CFG.MEDIUM p = 1 then 6 else 3) ∧ Writes (offs [.LNK_CFG] p) s t) ∧
    (Lands s a .OPT_PORT_CFG p 0 w = true → s.get GLB_LOCK.TOPO = 0 → ∃ t, exec (.optPortCfgWrite a p w) s = .next (Answered a t) ∧
      t.get OPT_PORT_CFG.MEDIUM p = fldOf OPT_PORT_CFG.MEDIUM w.toNat ∧
      t.get LNK_CFG.GEN_EN p = s.get LNK_CFG.GEN_EN p &&& (if t.get OPT_PORT_CFG.MEDIUM p = 1 then 6 else 3) ∧
      Writes (offs [.LNK_CFG, .OPT_PORT_CFG] p) s t) ∧
    (Lands s a .LNK_CREDIT_CFG p j w = true → j < 8 → ∀ d h : Nat → Nat, d = (fun k => if k = j then w.toNat % 1024 else s.get LNK_CREDIT_CFG.DATA p k) →
      h = (fun k => if k = j then bits w.toNat 16 8 else s.get LNK_CREDIT_CFG.HDR p k) →
      (linkState s p ≠ 0 → ∃ t, exec (.lnkCreditCfgWrite a p j w) s = .next (Answered a t) ∧ RefusedWith s t GLB_ACCESS_ERR.BUSY) ∧
      (linkState s p = 0 → 18 ≤ d j → 2 ≤ h j → ((List.range 8).map d).sum ≤ 512 → ((List.range 8).map h).sum ≤ 128 →
        exec (.lnkCreditCfgWrite a p j w) s = .next (Answered a (s.setRg .LNK_CREDIT_CFG (merged s .LNK_CREDIT_CFG p j w) p j))) ∧
      (linkState s p = 0 → d j < 18 ∨ h j < 2 ∨ 512 < ((List.range 8).map d).sum ∨ 128 < ((List.range 8).map h).sum →
        ∃ t, exec (.lnkCreditCfgWrite a p j w) s = .next (Answered a t) ∧ RefusedWith s t GLB_ACCESS_ERR.RSVD_ENC))

/-- From R533, R534, R541, R559, R568, R614, R616, R626: commands to laser modules, to the key exchange, to the sweep and to the staging slots. -/
def Obligations.ModuleAndKeyRegisters : Prop :=
  ∀ (s : State) (a : Acc) (i : Nat) (v w : W32),
    (w = forceFlds v [(OPT_LM_CFG.EN, 0)] → Lands s a .OPT_LM_CFG i 0 w = true → s.get OPT_LM_CFG.EN i = 1 →
      ∃ t, exec (.lmDisable a i v) s = .next (Answered a t) ∧ t.get OPT_LM_CFG.EN i = 0 ∧ lmState t i = 0 ∧ t.get OPT_LM_CMD.BUSY i = 0 ∧
        (lmState s i ≠ 0 → Pends t (48 + i) ∧ ∀ k, k < 4 → t.get OPT_PORT_STATUS.TX_DARK (4 * i + k) = 1) ∧
        Writes (offs [.OPT_LM_CFG, .OPT_LM_STATUS, .OPT_LM_CMD] i ++ (List.range 4).flatMap (fun k => offs [.OPT_PORT_STATUS] (4 * i + k))) s t) ∧
    (w = forceFlds v [(OPT_LM_CMD.GO, 1)] → Lands s a .OPT_LM_CMD i 0 w = true → s.get OPT_LM_CMD.BUSY i = 0 →
      ∃ t, exec (.lmCmd a i v) s = .next (Answered a t) ∧ t.get OPT_LM_CMD.BUSY i = (if lmState s i = 0 then 0 else 1) ∧
        (lmState s i = 0 → t.get OPT_LM_CMD_RD.ERR i = 1) ∧ t.get OPT_LM_CMD.ADDR i = bits w.toNat 0 8 ∧
        Writes (offs [.OPT_LM_CMD, .OPT_LM_CMD_RD] i) s t) ∧
    (∀ x ∈ [((1 : Nat), (exec (.report a v) s)), (2, exec (.exchange a v) s), (3, exec (.install a v) s), (4, exec (.clear a v) s)],
      w = forceFlds v [(SEC_KX_CTL.GO, 1), (SEC_KX_CTL.OP, x.1)] → Lands s a .SEC_KX_CTL 0 0 w = true → s.get SEC_KX_CTL.BUSY = 0 →
      ∃ t, x.2 = .next (Answered a t) ∧ t.get SEC_KX_CTL.BUSY = 1 ∧ t.sec = { s.sec with kx := some (x.1, bits w.toNat 0 10, bits w.toNat 13 1, kxBytes s) } ∧
        Writes (offs [.SEC_KX_CTL]) s { t with sec := s.sec }) ∧
    (w = forceFlds v [(SEC_SWEEP_CMD.GO, 1)] → Lands s a .SEC_SWEEP_CMD 0 0 w = true → s.get SEC_SWEEP_CMD.BUSY = 0 →
      ∃ t, exec (.sweepCmd a v) s = .next (Answered a t) ∧ t.get SEC_SWEEP_CMD.BUSY = 1 ∧
        t.sec = { s.sec with sweep := some ⟨bits w.toNat 0 26, bits w.toNat 26 1, 0, false⟩ } ∧
        Accesses t .rd 0 (tagAddr s (bits w.toNat 0 26)) 16 [] .sweepTag ∧ Writes (offs [.SEC_SWEEP_CMD]) s { t with sec := s.sec, xf := s.xf }) ∧
    (w = forceFlds v [(TRW_STAGE0.GO, 1)] → Lands s a .TRW_STAGE0 i 0 w = true → s.get TRW_STAGE1.STATE i = 0 ∨ s.get TRW_STAGE1.STATE i = 3 →
      ∃ t, exec (.stageGo a i v) s = .next (Answered a t) ∧ t.get TRW_STAGE1.STATE i = 1 ∧ t.get TRW_STAGE1.ERR i = 0 ∧
        t.get TRW_STAGE0.OFF_4K i = bits w.toNat 0 14 ∧ Writes (offs [.TRW_STAGE0, .TRW_STAGE1] i) s t) ∧
    (w = forceFlds v [(TRW_STAGE1.DISCARD, 1)] → Lands s a .TRW_STAGE1 i 0 w = true →
      (stagePending s i = true → ∃ t, exec (.stageDiscard a i v) s = .next (Answered a t) ∧ t.get GLB_ACCESS_ERR.BUSY = 1 ∧ Pends t 11 ∧
        WritesErr (offs [.TRW_STAGE1] i) s t) ∧
      (∀ x, stagePending s i = false → tabFind i s.boot.stage = some x →
        ∃ t, exec (.stageDiscard a i v) s = .next (Answered a t) ∧ t.get TRW_STAGE1.STATE i = 0 ∧ tabFind i t.boot.stage = none ∧
          (∀ n, tabGet 0 n t.xf.spw = if x.base * 4096 ≤ n ∧ n < (x.base + x.size) * 4096 then 0 else tabGet 0 n s.xf.spw) ∧
          Writes (offs [.TRW_STAGE1] i) s { t with xf := s.xf, boot := s.boot }))

/-- From R634, R642, R653, R660, R661, R664: writes that configure counters, sample channels and trace units, and those of the fault registers.
The refusal of an ill-formed ring and the indices that raise no source are the model's readings (logs 24 and 132). -/
def Obligations.ObservationRegisters : Prop :=
  ∀ (s : State) (a : Acc) (i : Nat) (v w : W32),
    (∀ r ∈ [RegName.OBS_CTR_SEL0, .OBS_CTR_SEL1, .OBS_CTR_SEL2, .OBS_CTR_SEL3], Lands s a r i 0 w = true →
      ∃ t, exec (.ctrSelectWrite a r i 0 w) s = .next (Answered a t) ∧ t.rg r i = merged s r i 0 w ∧ t.get64 .OBS_CTR i = 0 ∧
        (∀ k, k ≠ regOff r i 0 → k ≠ regOff .OBS_CTR i 0 → k ≠ regOff .OBS_CTR i 1 → ∀ d, tabGet d k t.regs = tabGet d k s.regs) ∧
        { t with regs := s.regs } = s) ∧
    (Lands s a .OBS_SMP_CFG i 0 w = true → s.get OBS_SMP_CFG.EN i = 0 → w.getLsbD 31 = true → ∀ u, u = s.setRg .OBS_SMP_CFG (merged s .OBS_SMP_CFG i 0 w) i →
      (smpEnableOk u i = true → exec (.sampleChannelWrite a .OBS_SMP_CFG i 0 w) s = .next (Answered a u)) ∧
      (smpEnableOk u i = false → ∃ t, exec (.sampleChannelWrite a .OBS_SMP_CFG i 0 w) s = .next (Answered a t) ∧ t.get OBS_SMP_CFG.EN i = 0 ∧
        t.get OBS_STATUS.CFG_ERR = 1)) ∧
    (∀ r ∈ [RegName.OBS_SMP_BASE_LO, .OBS_SMP_BASE_HI], Lands s a r i 0 w = true →
      (s.get OBS_SMP_CFG.EN i = 0 → exec (.sampleChannelWrite a r i 0 w) s = .next (Answered a (s.setRg r (merged s r i 0 w) i))) ∧
      (s.get OBS_SMP_CFG.EN i = 1 → ∃ t, exec (.sampleChannelWrite a r i 0 w) s = .next (Answered a t) ∧ RefusedWith s t GLB_ACCESS_ERR.BUSY)) ∧
    (Lands s a .OBS_TRC_CFG i 0 w = true →
      (w.getLsbD 11 = true → conf s (bits w.toNat 13 10) = true → exec (.traceCfgWrite a .OBS_TRC_CFG i 0 w) s = .next (Answered a (s.put OBS_STATUS.CONF_REFUSED 1))) ∧
      (w.getLsbD 11 = false ∨ conf s (bits w.toNat 13 10) = false →
        exec (.traceCfgWrite a .OBS_TRC_CFG i 0 w) s = .next (Answered a (s.setRg .OBS_TRC_CFG (merged s .OBS_TRC_CFG i 0 w) i)))) ∧
    (i < 128 → w = forceFlds v [(⟨.FLT_PEND, i % 32, 1⟩, 1)] → Lands s a .FLT_PEND (i / 32) 0 w = true →
      ∃ t, exec (.fltPendClear a i v) s = .next (Answered a t) ∧ fltPending t i = false ∧
        (∀ k, k < 128 → fltPending t k = (fltPending s k && !(k / 32 == i / 32 && w.getLsbD (k % 32)))) ∧
        (∀ k, k ≠ regOff .FLT_PEND (i / 32) 0 → ∀ d, tabGet d k t.regs = tabGet d k s.regs) ∧ { t with regs := s.regs } = s) ∧
    (w = forceFlds v [(FLT_FIRST.VALID, 1)] → Lands s a .FLT_FIRST 0 0 w = true →
      exec (.fltFirstClear a v) s = .next (Answered a ((s.put FLT_FIRST.VALID 0).put FLT_FIRST.OVERFLOW 0))) ∧
    (Lands s a .FLT_SW_RAISE 0 0 w = true →
      (w.toNat < 16 → ∃ t, exec (.fltSwRaise a w) s = .next (Answered a t) ∧ Pends t (112 + w.toNat) ∧
        t.get FLT_SEV.COUNT (112 + w.toNat) = min 255 (s.get FLT_SEV.COUNT (112 + w.toNat) + 1) ∧ Writes [] s t ∧
        (s.get FLT_SEV.SEV (112 + w.toNat) ≠ 0 → s.get FLT_FIRST.VALID = 0 → t.get FLT_FIRST.VALID = 1 ∧ t.get FLT_FIRST.SRC = 112 + w.toNat ∧
          t.getPair .FLT_FIRST_TIME = now s % 2 ^ 64)) ∧
      (16 ≤ w.toNat → exec (.fltSwRaise a w) s = .next (Answered a s)))

/-- From R648, R650, R651, R655, R657 to R659: commands to trace units and to the debug port. -/
def Obligations.TraceAndDebugCommands : Prop :=
  ∀ (s : State) (a : Acc) (i : Nat) (v w : W32),
    (Lands s a .OBS_TRC_CTL i 0 w = true →
      (w = forceFlds v [(⟨.OBS_TRC_CTL, 0, 1⟩, 1)] → w.toNat = 1 → ∃ t, exec (.arm a i v) s = .next (Answered a t) ∧ t.get OBS_TRC_STATUS.STATE i = 1 ∧
        t.get OBS_TRC_STATUS.HELD i = 0 ∧ (trcOf t i).recs = [] ∧ (trcOf t i).trig = false ∧ ∀ k, k ≠ i → trcOf t k = trcOf s k) ∧
      (w = forceFlds v [(⟨.OBS_TRC_CTL, 1, 1⟩, 1)] → w.toNat = 2 → exec (.disarm a i v) s = .next (Answered a (s.put OBS_TRC_STATUS.STATE 0 i))) ∧
      (w = forceFlds v [(⟨.OBS_TRC_CTL, 2, 1⟩, 1)] → w.toNat = 4 → trcLive s i = true → (trcOf s i).trig = false → s.get OBS_TRC_CFG.POLICY i ≠ 2 →
        ∃ t, exec (.trig a i v) s = .next (Answered a t) ∧ t.get OBS_TRC_STATUS.STATE i = 2 ∧ (trcOf t i).trig = true ∧
          (trcOf t i).left = 8192 - s.get OBS_TRC_CFG.PRE i * 512 ∧ (trcOf t i).recs = (trcOf s i).recs) ∧
      (w = forceFlds v [(⟨.OBS_TRC_CTL, 3, 1⟩, 1)] → w.toNat = 8 → trcLive s i = true → s.get OBS_TRC_CFG.POLICY i = 2 →
        ((trcOf s i).half = 0 → s.get OBS_TRC_STATUS.FROZEN_B i = 0 → ∃ t, exec (.snap a i v) s = .next (Answered a t) ∧
          (trcOf t i).frozenA = (trcOf s i).recs ∧ (trcOf t i).recs = [] ∧ t.get OBS_TRC_STATUS.FROZEN_A i = 1 ∧ (trcOf t i).half = 1) ∧
        ((trcOf s i).half ≠ 0 → s.get OBS_TRC_STATUS.FROZEN_A i = 0 → ∃ t, exec (.snap a i v) s = .next (Answered a t) ∧
          (trcOf t i).frozenB = (trcOf s i).recs ∧ (trcOf t i).recs = [] ∧ t.get OBS_TRC_STATUS.FROZEN_B i = 1 ∧ (trcOf t i).half = 0)) ∧
      (w = forceFlds v [(⟨.OBS_TRC_CTL, 4, 1⟩, 1)] → w.toNat = 16 → ∃ t, exec (.trcRelease a i v) s = .next (Answered a t) ∧
        (trcOf t i).frozenA = [] ∧ (trcOf t i).frozenB = [] ∧ (trcOf t i).recs = (trcOf s i).recs ∧ t.get OBS_TRC_STATUS.FROZEN_A i = 0 ∧
        t.get OBS_TRC_STATUS.FROZEN_B i = 0)) ∧
    (Lands s a .OBS_DBG_CTL 0 0 w = true → ∀ c, c = w.toNat % 1024 → ctxExists s c = true → ctxConf s c = false →
      (w = forceFlds v [(OBS_DBG_CTL.CMD, 1)] → (ctxOf s c).halt = none → ∃ t, exec (.halt a v) s = .next (Answered a t) ∧ t.get OBS_DBG_CTL.CONTEXT = c ∧
        FilesKept (ctxOf s c) (ctxOf t c) ∧ (if (ctxOf s c).wait.isNone then (ctxOf t c).halt = some (0, 0) else (ctxOf t c).haltReq = some (0, 0)) ∧
        ∀ d, d ≠ c → ctxOf t d = ctxOf s d) ∧
      (w = forceFlds v [(OBS_DBG_CTL.CMD, 2)] → ∃ t, exec (.resume a v) s = .next (Answered a t) ∧
        ctxOf t c = { ctxOf s c with halt := none, haltReq := none, stepOne := false } ∧ ∀ d, d ≠ c → ctxOf t d = ctxOf s d) ∧
      (w = forceFlds v [(OBS_DBG_CTL.CMD, 3)] → (ctxOf s c).halt ≠ none → ∃ t, exec (.step a v) s = .next (Answered a t) ∧
        ctxOf t c = { ctxOf s c with halt := none, haltReq := none, stepOne := true } ∧ ∀ d, d ≠ c → ctxOf t d = ctxOf s d)) ∧
    (Lands s a .OBS_DBG_REG i 0 w = true → ∀ c, c = s.get OBS_DBG_CTL.CONTEXT →
      (ctxConf s c = true → exec (.dbgRegWrite a i w) s = .next (Answered a (s.put OBS_STATUS.CONF_REFUSED 1))) ∧
      (ctxConf s c = false → drained s c = false → exec (.dbgRegWrite a i w) s = .next (Answered a (s.put OBS_STATUS.BUSY 1))) ∧
      (ctxConf s c = false → drained s c = true → ∃ t, exec (.dbgRegWrite a i w) s = .next (Answered a t) ∧ (∀ d, d ≠ c → ctxOf t d = ctxOf s d) ∧
        (2 ≤ i → i < 64 → bits (gReg (ctxOf t c) (i / 2)).toNat (32 * (i % 2)) 32 = w.toNat ∧
          bits (gReg (ctxOf t c) (i / 2)).toNat (32 * (1 - i % 2)) 32 = bits (gReg (ctxOf s c) (i / 2)).toNat (32 * (1 - i % 2)) 32 ∧
          (ctxOf t c).pc = (ctxOf s c).pc) ∧
        (i = 64 → ∀ k, 1 ≤ k → k < 8 → pReg (ctxOf t c) k = w.getLsbD k) ∧
        (i = 65 → (ctxOf t c).pc = ⟨w.getLsbD 15, w.toNat % 0x8000⟩ ∧ FilesKept (ctxOf s c) (ctxOf t c)) ∧
        (128 ≤ i → i < 384 → bits (dReg (ctxOf t c) ((i - 128) / 16)).toNat (32 * ((i - 128) % 16)) 32 = w.toNat)))

/-! ### Cores, encodings, invariants -/

/-- From R13, R14, R114, R170: a core issues for the first of its eligible contexts in the order of its arbiter, whose rotation is the course number;
with no eligible context nothing happens. Shown for the functions of the general registers.
A command whose event is not due leaves the state (the model's choice, log 5). -/
def Obligations.CoreIssuesInTurn : Prop :=
  ∀ (s : State) (n : Nat), n < 18 →
    ((∀ k, k < 32 → canIssue s (32 * n + k) = false) → exec (.coreIssue n) s = .next s) ∧
    (∀ k c, k < 32 → c = 32 * n + (course s + k) % 32 → canIssue s c = true →
      (∀ j, j < k → canIssue s (32 * n + (course s + j) % 32) = false) → bpHit s c = none →
      ∀ f, f = fieldsOf (segWord s c (ctxOf s c).pc.word) (segWord s c ((ctxOf s c).pc.word + 1)) →
      (∀ x ∈ aluTable, flougDecode c (segWord s c (ctxOf s c).pc.word) f.ext = some (x.1 c f) → Issues s c f ⟨.gw, .gr, x.2.1, 0, false⟩ = true →
        exec (.coreIssue n) s = exec (x.1 c f) s ∧
        ∃ t, exec (.coreIssue n) s = .next t ∧ WroteG s t c f.rd (x.2.2 (gReg (ctxOf s c) f.ra) (gReg (ctxOf s c) f.rb))) ∧
      (∀ x ∈ aluiTable, flougDecode c (segWord s c (ctxOf s c).pc.word) f.ext = some (x.1 c f) → Issues s c f ⟨.gw, .gr, .z, 32, true⟩ = true →
        exec (.coreIssue n) s = exec (x.1 c f) s ∧
        ∃ t, exec (.coreIssue n) s = .next t ∧ WroteG s t c f.rd (x.2 (gReg (ctxOf s c) f.ra) (immOf f))))

/-- From R171 to R173, R213: an instruction with a bad field fails its command with BAD_COMMAND, reason 2, at its word; one whose guard is off goes on
at the next word without its effect. Shown for the functions of the general registers. -/
def Obligations.GuardsAndFields : Prop :=
  ∀ x ∈ aluTable, ∀ (s : State) (c : Nat) (f : IFields) (m : Form), m = ⟨.gw, .gr, x.2.1, 0, false⟩ → canIssue s c = true →
    regPending (ctxOf s c) f m = false → f.x = false →
    ((f.pg == 0 && f.pn) = true ∨ formBad f m = true →
      ∃ t, exec (x.1 c f) s = .next t ∧ Kept s t c ∧ Raised s t c ⟨0x0F, ptIndex (ctxOf s c).pc + 2 * 65536⟩) ∧
    ((f.pg == 0 && f.pn) = false → formBad f m = false → guardOn (ctxOf s c) f = false →
      ∃ t, exec (x.1 c f) s = .next t ∧ Kept s t c ∧
        ((ctxOf s c).pc.word + 1 < segLen s c → (ctxOf t c).pc = ⟨(ctxOf s c).pc.code, (ctxOf s c).pc.word + 1⟩))

/-- From R168, R181: a word and its extension word spell at most one instruction of Floug, and every well-formed instruction is spelled by the word that
its fields make: decoding and encoding undo each other. -/
def Obligations.FlougEncoding : Prop :=
  (∀ (i : Instr) (maj fn : Nat) (f : IFields), i.wf = true → flougEnc i = some (maj, fn, f) →
    (∀ x ∈ schedTable, ∀ c, i = x.1 c f → f.imm.toNat % 64 = x.2) → ∃ c, flougDecode c (encodeWord maj fn f) f.ext = some i) ∧
  (∀ (c : Nat) (w ext : W64) (i : Instr), flougDecode c w ext = some i → flougWord i = some w)

/-- From R2, R598 and the order of the scratchpad's listing: what is listed stays listed in rising order with no zero byte, whatever command acts.
That an unlisted byte reads zero is the model's reading (log 16). -/
def Obligations.ScratchpadCanonical : Prop :=
  ∀ (s t : State), Memory.wf s.xf.spw = true → step s = .next t → Memory.wf t.xf.spw = true

/-- From R87, R598, R666: the state at power-on reset, and words of the register window at the offsets of the worked example.
That reset leaves queues and listings empty is the model's choice (log 17). -/
def Obligations.ResetAndWindow : Prop :=
  State.reset.pending = [] ∧ Memory.wf State.reset.xf.spw = true ∧ coreRuns State.reset = false ∧ exec .porAssert State.reset = .next State.reset ∧
  State.reset.get TIM_LOOP.KP_SHIFT = 2 ∧ State.reset.get TIM_LOOP.KI_SHIFT = 6 ∧ timState State.reset = 0 ∧ State.reset.get GLB_LOCK.TOPO = 0 ∧
  (∀ i, i < 4104 → State.reset.get TEN_SQ_STATUS.STATE i = 0 ∧ State.reset.get TEN_SQ_CFG.EN i = 0) ∧
  (∀ t, t < 512 → State.reset.get SEC_TEN_CFG.ACTIVE t = 0) ∧ (∀ p, p < 32 → linkState State.reset p = 0) ∧
  regOff .LNK_CREDIT_CFG 2 2 = 0x108038 ∧ State.reset.rg .LNK_CREDIT_CFG 2 2 = 0x00100030 ∧ regOff .TEN_CQ_HEAD 297 0 = 0x642534 ∧
  regAt 0x642534 = some (.TEN_CQ_HEAD, 297, 0) ∧ regOff .FLT_SEV 16 0 = 0x780040 ∧ regAt 0x780040 = some (.FLT_SEV, 16, 0) ∧
  State.reset.get FLT_SEV.SEV 16 = 2 ∧ regAt 0x300900 = none

/-- Every command has an effect: none of them stops the block.
That a command without a due event leaves the state is the model's choice (log 5). -/
def Obligations.EveryCommandAnswers : Prop := ∀ (i : Instr) (s : State), ∃ t, exec i s = .next t

/-! ### Queues and time -/

/-- From R118, R127, R143, R153, R156, R162 to R164, R724: a context fetches the first entry of the queue that its arbiter chooses; a command completes
and its record goes to its ring, to its error ring, or nowhere; a record is written at the place of its count. -/
def Obligations.CommandsRun : Prop :=
  ∀ (s : State) (c k : Nat),
    (∀ n q i, q = (course s + n) % 8 → n < 8 → i = 8 * tenIdx ((ctxOf s c).ten.getD 0) + q → mayFetch s c = true → sqReady s c i = true →
      (∀ j, j < n → sqReady s c (8 * tenIdx ((ctxOf s c).ten.getD 0) + (course s + j) % 8) = false) → tabFind i s.prog.park = none →
      ∃ t, exec (.commandFetch c) s = .next t ∧ (ctxOf t c).fetch = some ⟨i, [], 0, none⟩ ∧ FilesKept (ctxOf s c) (ctxOf t c) ∧ t.regs = s.regs ∧
        (∀ d, d ≠ c → ctxOf t d = ctxOf s d) ∧
        Accesses t .rd (s.get TEN_SQ_BASE_HI.SPACE i) (sqBase s i + 64 * (s.get TEN_SQ_HEAD.COUNT i % 2 ^ s.get TEN_SQ_CFG.LOG2_SIZE i)) 64 [] (.fetch c 0)) ∧
    (∀ m, cmdOf s c k = some m → m.id = k → cmdReady s c m = true → m.q < 4104 →
      (hdrCpl m = 1 → (topStat m.stats).code = 0 → tabGet [] m.q s.prog.sqDone = [] →
        m.seq = (s.get TEN_SQ_DONE.SEQ m.q + 1) % 2 ^ 32 →
        ∃ t, exec (.commandComplete c k) s = .next t ∧ t.prog.rings = s.prog.rings ∧ cmdOf t c k = none ∧ t.get TEN_SQ_DONE.SEQ m.q = m.seq) ∧
      (¬ (hdrCpl m = 1 ∧ (topStat m.stats).code = 0) → ∀ j e, j = 8 * (m.q / 8) + m.ring → e = 8 * (m.q / 8) + s.get TEN_SQ_CFG.ERR_RING m.q →
        (s.get TEN_CQ_CFG.EN j = 1 → ∃ t m', exec (.commandComplete c k) s = .next t ∧ tabGet [] j t.prog.rings = tabGet [] j s.prog.rings ++ [(c, k)] ∧
          cmdOf t c k = some m' ∧ m'.time = now s ∧ m'.stats = m.stats ∧ m'.phase = .due ∧ OnlyCtx s { t with prog := { t.prog with rings := s.prog.rings } } c) ∧
        (s.get TEN_CQ_CFG.EN j = 0 → s.get TEN_CQ_CFG.EN e = 1 → ∃ t m', exec (.commandComplete c k) s = .next t ∧
          tabGet [] e t.prog.rings = tabGet [] e s.prog.rings ++ [(c, k)] ∧ cmdOf t c k = some m' ∧ m'.stats = m.stats ++ [⟨0x0F, 4 * 65536⟩]) ∧
        (s.get TEN_CQ_CFG.EN j = 0 → s.get TEN_CQ_CFG.EN e = 0 → ∃ t, exec (.commandComplete c k) s = .next t ∧ t.prog.rings = s.prog.rings ∧
          cmdOf t c k = none ∧ t.get TEN_SQ_STATUS.LOST m.q = 1))) ∧
    (∀ j rest m, tabGet [] j s.prog.rings = (c, k) :: rest → cmdOf s c k = some m → coreRuns s = true → tabFind j s.prog.ringBusy = none →
      ringFull s j = false → s.get TEN_CQ_CFG.EN j = 1 → ∀ n, n = s.get TEN_CQ_TAIL.COUNT j →
      ∃ t d, exec (.completionRecordWrite j) s = .next t ∧ tabGet [] j t.prog.rings = rest ∧ tabFind j t.prog.ringBusy = some (c, k) ∧ t.regs = s.regs ∧
        Accesses t .wr (s.get TEN_CQ_BASE_HI.SPACE j) (cqBase s j + 32 * (n % 2 ^ s.get TEN_CQ_CFG.LOG2_SIZE j)) 32 d (.record c k j) ∧
        d.length = 32 ∧ leAt d 0 4 = m.seq % 2 ^ 32 ∧ leAt d 4 2 = (topStat m.stats).code % 65536 ∧ leAt d 6 1 = m.q % 8 ∧
        leAt d 7 1 % 2 = (n / 2 ^ s.get TEN_CQ_CFG.LOG2_SIZE j + 1) % 2 ∧ leAt d 8 4 = hdrTag m ∧ leAt d 12 2 = m.ten % 65536 ∧ leAt d 14 2 = 0 ∧
        leAt d 16 8 = m.time % 2 ^ 64)

/-- From R77, R96, R98, R99, R104, R106, R544, R552, R554, R720: a course boundary ages every port's exchange and fires each due action once; due samples
and waits fire between boundaries; a scrub ends, and with the last one the keys of the tenants that have left go; a frozen counter is cleared after
its courses.
A command whose event is not due leaves the state (the model's choice, log 5). -/
def Obligations.BoundariesAndScrubs : Prop :=
  ∀ (s : State),
    (course s = s.tim.course → exec .courseBoundary s = .next s) ∧
    (course s ≠ s.tim.course → ∃ a b t, exec .courseBoundary s = .next (settle t) ∧
      a = (List.range 32).foldl portCourse (timeEval { s with tim := { s.tim with course := course s } }) ∧ a.tim.course = course s ∧ a.acts = s.acts ∧
      (∀ p, p < 32 → (portT a p).since = (if (portT s p).fresh then 0 else min 255 ((portT s p).since + 1)) ∧
        a.get TIM_PEER_OFF.VALID p = (if (portT a p).since < 8 then 1 else 0)) ∧
      b = boundaryActs a ∧ (∀ x ∈ b.acts, x ∈ s.acts → x.kind < 7 → now s < x.t) ∧
      t = exchangesUsed (stepPass (boundaryEvals (rehold a b)) (discipline (boundaryEvals (rehold a b)))) ∧ ∀ p, p < 32 → (portT t p).fresh = false) ∧
    (∃ t, exec .atTimeFire s = .next (settle t) ∧ (course s = s.tim.course → ∀ x ∈ t.acts, x ∈ s.acts → x.kind = 0 → now s < x.t) ∧
      (course s ≠ s.tim.course → t.acts = s.acts) ∧
      ∀ c w n, (ctxOf s c).wait = some w → w.kind = .time n → (n ≤ now s → (ctxOf t c).wait = none) ∧ (now s < n → ctxOf t c = ctxOf s c)) ∧
    (∀ kind i l, tabFind (unitKey kind i) s.sec.units = some l → l.scrub = true →
      ∃ t, exec (.scrubDone kind i) s = .next t ∧ tabFind (unitKey kind i) t.sec.units = some { l with scrub := false } ∧
        (∀ k, k ≠ unitKey kind i → tabFind k t.sec.units = tabFind k s.sec.units) ∧
        (∀ c, ctxOf t c = if kind = 6 ∧ c = i then { ctxOf s i with scrub := false } else ctxOf s c) ∧
        (scrubsRun t = true → t.sec.kwk = s.sec.kwk ∧ t.sec.ek = s.sec.ek) ∧
        (scrubsRun t = false → t.sec.zeroDue = [] ∧ ∀ d ∈ s.sec.zeroDue, tabFind d t.sec.kwk = none ∧ tabFind (2 * d) t.sec.ek = none ∧
          tabFind (2 * d + 1) t.sec.ek = none)) ∧
    (∀ k v, k < 256 → tabFind k s.obs.frozenAt = some v →
      (course s < v + max 1 (s.get SEC_SCRUB_CFG.READOUT) → exec (.readoutExpire k) s = .next s) ∧
      (v + max 1 (s.get SEC_SCRUB_CFG.READOUT) ≤ course s → ∃ t, exec (.readoutExpire k) s = .next t ∧ t.get64 .OBS_CTR_FROZEN k = 0 ∧
        t.get OBS_CTR_FROZEN_TEN.TENANT k = 0 ∧ tabFind k t.obs.frozenAt = none ∧ ∀ d, d ≠ k → tabFind d t.obs.frozenAt = tabFind d s.obs.frozenAt))

/-- From R71 to R77: the requests and responses of time exchange, and what a valid exchange gives. -/
def Obligations.TimeTilesExchange : Prop :=
  ∀ (s : State) (p : Nat) (b : TimeBody), p < 32 → linkActive s p = true →
    (s.on TIM_CTL.EXCH_EN = true → slotNow s < 64 → (portT s p).sentCourse ≠ some (course s) → inReserved s p = false →
      ∃ x r t, exec (.timeRequestSend p) s = .next t ∧ t = sendTile (setPortT s p x) p 5 0 0 0 (timeBytes r) ∧ r.kind = 1 ∧
        r.seq = ((portT s p).seq + 1) % 65536 ∧ r.t1 = stamp s ∧ r.t2 = 0 ∧ r.t3 = 0 ∧ r.state = timState s ∧ r.sender = ownFlat s ∧ r.port = p ∧
        (portT t p).reqT1 = some (stamp s) ∧ (portT t p).seq = r.seq ∧ (portT t p).reqAt = now s ∧ (portT t p).sentCourse = some (course s) ∧
        (∀ q, q ≠ p → portT t q = portT s q)) ∧
    (∀ n t1 t2 rest, (portT s p).owed = (n, t1, t2) :: rest → inReserved s p = false →
      ∃ r t, exec (.timeResponseSend p) s = .next t ∧ t = sendTile (setPortT s p { portT s p with owed := rest }) p 5 0 0 0 (timeBytes r) ∧ r.kind = 2 ∧
        r.seq = n ∧ r.t1 = t1 ∧ r.t2 = t2 ∧ r.t3 = stamp s ∧ portT t p = { portT s p with owed := rest }) ∧
    (b.kind = 1 → exec (.timeRequestReceive p b) s = .next (setPortT s p { heard (portT s p) b with owed := (portT s p).owed ++ [(b.seq, b.t1, stamp s)] })) ∧
    (b.kind ≠ 1 → b.kind ≠ 2 → exec (.timeRequestReceive p b) s = .next (s.inc TIM_BAD_CNT.COUNT) ∧
      exec (.timeResponseReceive p b) s = .next (s.inc TIM_BAD_CNT.COUNT)) ∧
    (b.kind = 2 → ((portT s p).reqT1 = none ∨ b.seq ≠ (portT s p).seq ∨ (portT s p).reqAt + 65536 < now s) →
      exec (.timeResponseReceive p b) s = .next (s.inc TIM_BAD_CNT.COUNT)) ∧
    (∀ (t1 : Nat) (tx rx d x : Int), b.kind = 2 → (portT s p).reqT1 = some t1 → b.seq = (portT s p).seq → now s ≤ (portT s p).reqAt + 65536 →
      tx = Config.txLatency (portGen s p) (portWidth s p) → rx = Config.rxLatency (portGen s p) (portWidth s p) →
      d = ((b.t2 - rx - (t1 - tx)) + (stamp s - rx - (b.t3 - tx))) / 2 → x = b.t2 - rx - (t1 - tx) - d - sgn 16 (s.rg .TIM_ASYM p).toNat →
      ∃ t, exec (.timeResponseReceive p b) s = .next t ∧ portT t p = { heard (portT s p) b with reqT1 := none, fresh := true, offX := x } ∧ (∀ q, q ≠ p → portT t q = portT s q) ∧
        t.get TIM_PEER_OFF.VALID p = 1 ∧ t.get CIR_PORT_DELAY.D p = unsgn 24 d ∧
        (-(2 ^ 23) ≤ x → x < 2 ^ 23 → sgn 24 (t.get TIM_PEER_OFF.X p) = x) ∧
        (activeParent s = some p → t.rg .TIM_OFFSET = BitVec.ofNat 32 (unsgn 32 x) ∧ t.rg .TIM_DELAY = BitVec.ofNat 32 (unsgn 32 d)) ∧
        Writes (offs [.TIM_PEER_OFF, .CIR_PORT_DELAY] p ++ offs [.TIM_OFFSET, .TIM_DELAY]) s { t with tim := s.tim })

/-! ### Packets -/

/-- From R231, R232, R240, R242, R246, R267, R268, R281, R295, R548: a request that is next in its flow and passes the checks is performed on the target's
memory; one refused has no access; one ahead of its flow is held; a duplicate is counted. -/
def Obligations.RequestsArePerformed : Prop :=
  ∀ (s : State) (q : Nat) (p : Packet) (k : Nat), k = rxKey p → Arrives s p = true →
    (AtHead s p = true → Permits s p = true →
      (p.op = 0x10 → p.pay ≠ [] → ∃ t, exec (.putPacket q p) s = .next (settle t) ∧ (rxOf t k).expected = (p.seq + 1) % 2 ^ 32 ∧
        Accesses t .wr (spaceOf p.target) (offsetOf p.target) p.pay.length p.pay (.pktWr k p.seq)) ∧
      (p.op = 0x11 → ∃ t, exec (.getReq q p) s = .next (settle t) ∧ (rxOf t k).expected = (p.seq + 1) % 2 ^ 32 ∧
        Accesses t .rd (spaceOf p.target) (offsetOf p.target) p.e32 [] (.pktRd k p.seq 0 p)) ∧
      (p.op = 0x12 → s.xf.atomCache.length + atomsOut s < 1024 → ∀ n, n = (if bit (leAt p.pay 0 8) 4 then 16 else 8) →
        ∃ t, exec (.atomReq q p) s = .next (settle t) ∧ (rxOf t k).expected = (p.seq + 1) % 2 ^ 32 ∧
          Accesses t (.atom (leAt p.pay 0 8 % 16) (bit (leAt p.pay 0 8) 4) (leAt p.pay 8 n) (leAt p.pay (8 + n) n)) (spaceOf p.target) (offsetOf p.target) n []
            (if p.e32 = 0 then .pktRd k p.seq 0 p else .pktWr k p.seq)) ∧
      (p.op = 0x13 → ∃ t o, exec (.copyReq q p) s = .next (settle t) ∧ (rxOf t k).expected = (p.seq + 1) % 2 ^ 32 ∧ o ∈ t.xf.ops ∧ o.kind = .copyData ∧
        o.dests = [leAt p.pay 0 2] ∧ o.pieces = [⟨leAt p.pay 0 2, leAt p.pay 8 8, p.target, p.e32, 0⟩] ∧ o.org = some (origOf p, origSeq p, k)) ∧
      (p.op = 0x14 → ∃ t, exec (.measureReq q p) s = .next (settle t) ∧ (rxOf t k).expected = (p.seq + 1) % 2 ^ 32 ∧
        Accesses t .rd (spaceOf p.target) (offsetOf p.target) 8 [] (.pktRd k p.seq 0 p)) ∧
      (p.op = 0x15 → ∃ t, exec (.publishPacket q p) s = .next (settle t) ∧ (rxOf t k).expected = (p.seq + 1) % 2 ^ 32 ∧
        Accesses t .wr (spaceOf p.target) (offsetOf p.target) 8 (p.pay.take 8) (.pktWr k p.seq)) ∧
      (p.op = 0x16 → ∃ t, exec (.signal q p) s = .next (settle t) ∧ (rxOf t k).expected = (p.seq + 1) % 2 ^ 32 ∧
        Accesses t (.atom 0 false (leAt p.pay 0 8) 0) (spaceOf p.target) (offsetOf p.target) 8 [] (.pktWr k p.seq)) ∧
      (p.op = 0x20 → p.pay ≠ [] → ∃ t, exec (.copyData q p) s = .next (settle t) ∧ (rxOf t k).expected = (p.seq + 1) % 2 ^ 32 ∧
        (k, p.seq, p) ∈ t.xf.dones ∧ Accesses t .wr (spaceOf p.target) (offsetOf p.target) p.pay.length p.pay (.pktWr k p.seq))) ∧
    (AtHead s p = true → p.op = 0x17 → tenActive s p.ten = true → ∃ t, exec (.mmsg q p) s = .next (settle t) ∧
      (rxOf t k).expected = (p.seq + 1) % 2 ^ 32 ∧ t.xf.txns = s.xf.txns ∧ t.xf.spw = s.xf.spw) ∧
    (AtHead s p = true → p.op = 0x21 → innerOp p ≠ 0x12 → targetCheck s p = none → mboxAt s (offsetOf p.target) = none → isPage s p = true →
      pageOf p.target = pageOf (p.target + max 1 (reqLen s p) - 1) →
      ∃ t, exec (.pageFwd q p) s = .next (settle t) ∧ (rxOf t k).cur = some (p, q) ∧ (rxOf t k).expected = p.seq ∧
        Accesses t .rd 0 (tagAddr s (pageOf p.target)) 16 [] (.tag k p)) ∧
    (p.op = 0x10 → AtHead s p = true → targetCheck s p ≠ none → ∃ t, exec (.putPacket q p) s = .next (settle t) ∧
      (rxOf t k).expected = (p.seq + 1) % 2 ^ 32 ∧ t.xf.txns = s.xf.txns ∧ t.xf.spw = s.xf.spw) ∧
    (p.op = 0x10 → 0 < sub32 p.seq (rxOf s k).expected → sub32 p.seq (rxOf s k).expected < 4096 → (∀ h ∈ (rxOf s k).held, h.1.seq ≠ p.seq) →
      robUsed s + 48 + p.pay.length ≤ s.get HOD_ROB_CFG.SIZE_64K * 65536 →
      ∃ t, exec (.putPacket q p) s = .next (settle t) ∧ (rxOf t k).held = (rxOf s k).held ++ [(p, q)] ∧ (rxOf t k).expected = (rxOf s k).expected ∧
        t.xf.txns = s.xf.txns) ∧
    (p.op = 0x10 → 2 ^ 31 ≤ sub32 p.seq (rxOf s k).expected → p.vc ≠ 2 → ∃ t, exec (.putPacket q p) s = .next (settle t) ∧
      t.get HOD_CNT.COUNT 0 = (s.get HOD_CNT.COUNT 0 + 1) % 2 ^ HOD_CNT.COUNT.w ∧ t.xf.txns = s.xf.txns ∧ (rxOf t k).expected = (rxOf s k).expected)

/-- From R240, R242, R268, R269, R274, R276, R282, R308: a response closes its request and gives what it brings; an acknowledgement releases what it
covers; a refusal gives its status to the operation. -/
def Obligations.ResponsesClose : Prop :=
  ∀ (s : State) (q : Nat) (p : Packet),
    (∀ r o, Answers s p r o →
      (∀ d, p.op = 0x30 → d = p.pay.take r.len → d ≠ [] → dKilnOn o.desc = false → (∀ e ∈ s.xf.rcb, e.busy = false ∨ e.waiters.head? ≠ some o.id) →
        ∃ t o', exec (.getData q p) s = .next (settle t) ∧ Closed t r ∧ opById t r.op = some o' ∧ o'.bytes = o.bytes + d.length ∧
          Accesses t .wr (spaceOf r.laddr) (offsetOf r.laddr) d.length d (.local r.op)) ∧
      (∀ k w, p.op = 0x31 → o.kind = .atom k w → (ctxOf s o.ctx).pendG.testBit o.rd = true → (w = true → (ctxOf s o.ctx).pendG.testBit (o.rd + 1) = true) →
        ∃ t, exec (.atomRsp q p) s = .next (settle t) ∧ Closed t r ∧ (ctxOf t o.ctx).pendG.testBit o.rd = false ∧
          ∀ n, gReg (ctxOf t o.ctx) n = if n = o.rd ∧ o.rd ≠ 0 then BitVec.ofNat 64 (leAt p.pay 0 8)
            else if w = true ∧ n = o.rd + 1 then BitVec.ofNat 64 (leAt p.pay 8 8) else gReg (ctxOf s o.ctx) n) ∧
      (∀ n0, p.op = 0x32 → r.first = some n0 → (ctxOf s o.ctx).pendG.testBit o.rd = true → (ctxOf s o.ctx).pendG.testBit (o.rd + 1) = true →
        ∃ t, exec (.measureRsp q p) s = .next (settle t) ∧ Closed t r ∧ ∀ n, gReg (ctxOf t o.ctx) n =
          if n = o.rd ∧ o.rd ≠ 0 then BitVec.ofNat 64 (leAt p.pay 0 8)
          else if n = o.rd + 1 then BitVec.ofNat 64 ((now s - n0) % 2 ^ 48 + 2 ^ 48 * (leAt p.pay 8 1 % 256) + 2 ^ 56 * (p.hops % 256))
          else gReg (ctxOf s o.ctx) n) ∧
      (p.op = 0x35 → ∃ t o', exec (.done q p) s = .next (settle t) ∧ Closed t r ∧ opById t r.op = some o' ∧ o'.bytes = o.bytes + dLen o.desc)) ∧
    (Arrives s p = true → p.op = 0x33 → bit (leAt p.pay 8 1) 3 = false → ∀ f, f = flowKey p.src (leAt p.pay 8 1 % 8) false →
      ∃ t, exec (.ack q p) s = .next (settle t) ∧
        (∀ x ∈ allReplay t, x.flow = f → seqLe x.seq p.seq = true → x.rsp = true ∧ x.acked = true) ∧
        (∀ o ∈ t.xf.ops, ∀ z ∈ o.coh, z.1 = f → z.2.2 = 0 → seqLe z.2.1 (leAt p.pay 0 4) = false) ∧
        (∀ z ∈ t.xf.atomCache, z.1 = p.src * 16 + leAt p.pay 8 1 % 8 → seqLe z.2.1 (leAt p.pay 4 4) = false)) ∧
    (∀ r o, Arrives s p = true → p.op = 0x34 → nackEntry s p = some r → leAt p.pay 0 2 ≠ 0x0E → bit r.flow 3 = false → opById s r.op = some o →
      ∃ t o', exec (.nack q p) s = .next (settle t) ∧ Closed t r ∧ opById t r.op = some o' ∧
        ∃ x ∈ o'.stats, x.code = (nackStat o (leAt p.pay 0 2) (leAt p.pay 8 8)).code)

/-- From R269, R271, R277, R279, R287, R308, R333: the timers of flows and of the read-combining buffer.
A command whose event is not due leaves the state (the model's choice, log 5). -/
def Obligations.TransportTimers : Prop :=
  ∀ (s : State), coreRuns s = true →
    (∀ k n, (rxOf s k).oldest = some n → (rxOf s k).wmAt = none →
      (n + 512 ≤ now s → ackNext s k ≠ (rxOf s k).acked → ∃ u p, exec (.ackTimer k) s = .next (settle (sendFormed u p)) ∧ p.op = 0x33 ∧ p.dst = keySrc k ∧
        p.seq = (ackNext s k + (2 ^ 32 - 1)) % 2 ^ 32 ∧ leAt p.pay 0 4 = (wmNext s k + (2 ^ 32 - 1)) % 2 ^ 32 ∧ (rxOf u k).acked = ackNext s k ∧
        (rxOf u k).wm = wmNext s k ∧ (∀ j, j ≠ k → rxOf u j = rxOf s j) ∧ u.regs = s.regs) ∧
      (now s < n + 512 → exec (.ackTimer k) s = .next (settle s))) ∧
    (∀ h f q r n, (replayOf s h).find? (fun r => r.flow == f && r.seq == q) = some r → r.last = some n → r.busy = false → bit f 3 = false → f / 16 < 65536 →
      (now s < n + 64 * max 1 (s.get HOD_XPORT_CFG.RTO) → exec (.replayTimeout h f q) s = .next (settle s)) ∧
      (n + 64 * max 1 (s.get HOD_XPORT_CFG.RTO) ≤ now s → r.tries ≤ s.get HOD_XPORT_CFG.REPLAY_MAX → r.reread = true → ∀ o, opById s r.op = some o →
        ∃ t, exec (.replayTimeout h f q) s = .next (settle t) ∧ Accesses t .rd (spaceOf r.laddr) (readSpan o (offsetOf r.laddr) r.len).1
          (readSpan o (offsetOf r.laddr) r.len).2 [] (.replay h f q)) ∧
      (n + 64 * max 1 (s.get HOD_XPORT_CFG.RTO) ≤ now s → s.get HOD_XPORT_CFG.REPLAY_MAX < r.tries →
        ∃ t, exec (.replayTimeout h f q) s = .next (settle t) ∧ (txFlow t f).broken = true ∧ t.get HOD_BROKEN_PEER.PEER = f / 16 ∧ Pends t 5 ∧
          ∀ x ∈ allReplay t, x.flow ≠ f)) ∧
    (∀ d, s.xf.resetPeer = some d → ∃ t, exec .flowResetDone s = .next (settle t) ∧ t.xf.resetPeer = none ∧ t.get HOD_FLOW_RESET.BUSY = 0 ∧
      (∀ x ∈ t.xf.tx, x.1 / 16 = d → bit x.1 3 = true) ∧ (∀ x ∈ t.xf.rx, x.1 < 2 ^ 24 → x.1 / 16 ≠ d) ∧
      (∀ x ∈ allReplay t, x.flow / 16 = d → bit x.flow 3 = true) ∧ ∀ x ∈ t.xf.atomCache, x.1 / 16 ≠ d) ∧
    (∀ k n h, (rxOf s k).gapAt = some n → keyMc k = true →
      n + (s.get HOD_XPORT_CFG.REPLAY_MAX + 2) * s.get HOD_XPORT_CFG.RTO * 64 ≤ now s →
      h ∈ (rxOf s k).held → (∀ g ∈ (rxOf s k).held, g.1.seq < 2 ^ 32 ∧ (g ≠ h → sub32 h.1.seq (rxOf s k).expected < sub32 g.1.seq (rxOf s k).expected)) →
      sub32 h.1.seq (rxOf s k).expected < 4096 → (rxOf s k).expected < 2 ^ 32 →
      ∃ u, exec (.mcLeafSkip k) s = .next (settle (runHead 4096 u k h)) ∧ u.get HOD_CNT.COUNT 7 = (s.get HOD_CNT.COUNT 7 + 1) % 2 ^ HOD_CNT.COUNT.w ∧
        (rxOf u k).expected = h.1.seq ∧ (∀ g ∈ (rxOf u k).held, g.1.seq ≠ h.1.seq) ∧ ∀ j, j ≠ k → rxOf u j = rxOf s j) ∧
    (∀ ten k e, (s.xf.rcb.filter (fun e => e.ten == ten && e.keep))[k]? = some e → e.busy = false → e.filled + rcbLife s ≤ now s →
      ∃ t, exec (.rcbExpire ten k) s = .next t ∧ t.xf.rcb = s.xf.rcb.filter (fun x => x != e) ∧ { t with xf := { t.xf with rcb := s.xf.rcb } } = s)

/-! ### Bonds -/

/-- From R356, R358 to R361, R383, R384, R389, R391: step data and the control messages of a bond act on its collective; what names another epoch is
dropped and counted.
The unused bytes of CHECK, STOP and LATE are the model's reading (log 82). -/
def Obligations.BondMessagesAct : Prop :=
  ∀ (s : State) (q : Nat) (p : Packet) (b : Nat), b = p.e32 % 4096 →
    (Arrives s p = true → p.op = 0x40 → conf s p.ten = false → isSw s = false →
      ((bondValid s b = false ∨ p.e32 / 65536 ≠ bondEpoch s b % 65536 ∨ p.ten ≠ s.get BND_BOND_CFG.TENANT b) →
        ∃ t, exec (.stepData q p) s = .next (settle t) ∧ t.get BND_CNT.COUNT 0 = (s.get BND_CNT.COUNT 0 + 1) % 2 ^ BND_CNT.COUNT.w ∧ t.bnd = s.bnd) ∧
      (∀ (c : Coll) xi x, bondValid s b = true → p.e32 / 65536 = bondEpoch s b % 65536 → p.ten = s.get BND_BOND_CFG.TENANT b → c.bond = b → Runs s c →
        dataX c p = some (xi, x) →
        ((∃ n, (xi, p.e36, n) ∈ c.seen) → ∃ v, Watched obsOff s v ∧ exec (.stepData q p) s = .next (settle (consume (sendStepAck v b p) q p))) ∧
        (∀ l cs ck f, (∀ n, (xi, p.e36, n) ∉ c.seen) → x.mode ≠ 2 → f = leAt (p.pay.drop (p.pay.length - 16)) 10 1 → dataOk (f % 16 % 4) p.e36 p.pay = some (l, cs, ck) →
          f % 16 = cFmt c.desc → bit f 7 = false → bit f 5 = cMultEn c.desc → leAt (p.pay.drop (p.pay.length - 16)) 8 2 = cMult c.desc →
          ∃ u v c', Watched obsOff s v ∧ exec (.stepData q p) s = .next (settle (consume (collPump u c.slot) q p)) ∧ { u with bnd := v.bnd } = sendStepAck v b p ∧
            collAt u c.slot = some c' ∧ c'.pend = c.pend ++ [⟨xi, p.e36, l, ck⟩] ∧ c'.seen = c.seen ++ [(xi, p.e36, l.length)] ∧ c'.sent = c.sent))) ∧
    (∀ kind ep, Controls s p kind b ep → ep ≠ bondEpoch s b → kind = 1 ∨ kind = 2 ∨ kind = 3 ∨ kind = 6 →
      ∃ t, exec (if kind = 1 then .grant q p else if kind = 2 then .stepAck q p else if kind = 3 then .late q p else .check q p) s = .next (settle t) ∧
        t.get BND_CNT.COUNT 0 = (s.get BND_CNT.COUNT 0 + 1) % 2 ^ BND_CNT.COUNT.w ∧ t.bnd = s.bnd) ∧
    (∀ (c : Coll), c.bond = b → Runs s c →
      (∀ (x : BXfer) (xi n off : Nat), Controls s p 1 b (bondEpoch s b) → off = leAt p.pay 12 4 → c.xs[xi]? = some x → x.out = true → x.step = p.seq → x.peer = p.src → x.mode ≠ 2 →
        x.lo ≤ off → off < x.hi → (∀ w ∈ x.wins, w.1 ≠ off) → (∀ (j : Nat) (y : BXfer), j ≠ xi → c.xs[j]? = some y → ¬ (y.out = true ∧ y.step = p.seq ∧ y.peer = p.src)) →
        n = leAt p.pay 16 4 / blkBeta (cFmt c.desc) (xA64 c x) →
        ∃ u c', exec (.grant q p) s = .next (settle (consume (collPump u c.slot) q p)) ∧ collAt u c.slot = some c' ∧
          c'.xs[xi]? = some { x with wins := x.wins ++ [(off, off + n)] } ∧ ∀ j, j ≠ xi → c'.xs[j]? = c.xs[j]?) ∧
      (Controls s p 2 b (bondEpoch s b) → ∃ u c', exec (.stepAck q p) s = .next (settle (consume (collPump u c.slot) q p)) ∧ collAt u c.slot = some c' ∧
        ∀ e, e ∈ c'.sent ↔ e ∈ c.sent ∧ ¬ (e.off = leAt p.pay 12 4 ∧ e.pkt.seq = p.seq ∧ e.pkt.dst = p.src)) ∧
      (Controls s p 3 b (bondEpoch s b) → leAt p.pay 12 4 = 0xFFFF → ∃ u, exec (.late q p) s = .next (settle (consume u q p)) ∧
        collAt u c.slot = some { c with answered := true }) ∧
      (Controls s p 6 b (bondEpoch s b) → bit (leAt p.pay 16 4) 31 = false → ∃ t, exec (.check q p) s = .next (settle t) ∧ collAt t c.slot = none ∧
        t.get BND_CNT.COUNT 4 = (s.get BND_CNT.COUNT 4 + 1) % 2 ^ BND_CNT.COUNT.w ∧ t.get BND_BOND_STATUS.RUNNING b = 0 ∧
        ∀ o, opById s c.op = some o → ∃ o', opById t c.op = some o' ∧ ∃ x ∈ o'.stats, x.code = 4) ∧
      (∀ ep, Controls s p 5 b ep → ∃ t, exec (.stopCtl q p) s = .next (settle t) ∧ collAt t c.slot = none ∧ t.get BND_BOND_STATUS.RUNNING b = 0)) ∧
    (∀ i w, Controls s p 3 b (bondEpoch s b) → w = leAt p.pay 12 4 → i = leAt p.pay 20 2 → w ≠ 0xFFFF → s.get BND_BOND_STATUS.MEMBER b = 1 →
      leAt p.pay 16 4 = s.get BND_BOND_STATUS.SELF b → ∃ t x, exec (.late q p) s = .next (settle t) ∧ tabFind b t.bnd.coords = some x ∧
        (i ≠ 0xFFFF → i ∈ x.from?) ∧ (w % 65536 < 0xFFFE → w % 65536 ∈ x.named) ∧ (bit w 16 = true → w % 65536 ∈ x.fenced)) ∧
    (∀ ep, Controls s p 4 b ep → (ep ≠ (bondEpoch s b + 1) % 2 ^ 32 → ∃ t, exec (.reform q p) s = .next (settle t) ∧
        t.get BND_CNT.COUNT 0 = (s.get BND_CNT.COUNT 0 + 1) % 2 ^ BND_CNT.COUNT.w ∧ t.bnd = s.bnd) ∧
      (∀ ex keep, ep = (bondEpoch s b + 1) % 2 ^ 32 → collOfBond s b = none → ex = ((List.range 64).map (fun k => leAt p.pay (24 + 2 * k) 2)).filter (fun i => i != 0xFFFF) →
        keep = ((bondMembers s b).zipIdx.filter (fun x => !(ex.contains x.2))).map (fun x => x.1) → s.get BND_BOND_MEM.BASE b + bondCount s b ≤ 65536 →
        ∃ t, exec (.reform q p) s = .next (settle t) ∧ bondEpoch t b = ep ∧ bondMembers t b = keep ∧
          t.get BND_CNT.COUNT 3 = (s.get BND_CNT.COUNT 3 + 1) % 2 ^ BND_CNT.COUNT.w))

/-- From R355, R358, R386 to R390, R397: the timers of a bond, and the completion of a step.
A command whose event is not due leaves the state (the model's choice, log 5). The step timer is armed anew when it fires (log 88). -/
def Obligations.BondTimersAct : Prop :=
  ∀ (s : State), coreRuns s = true →
    (∀ (c : Coll), Runs s c →
      (∀ (k : Nat) (e : BSent) (n : Nat), c.sent[k]? = some e → e.last = some n →
        (n + s.get HOD_XPORT_CFG.RTO * 64 ≤ now s → ∃ t c' e', exec (.stepResendTimeout c.slot k) s = .next (settle t) ∧
          t.get BND_CNT.COUNT 1 = (s.get BND_CNT.COUNT 1 + 1) % 2 ^ BND_CNT.COUNT.w ∧ collAt t c.slot = some c' ∧ c'.sent[k]? = some e' ∧ e' = { e with last := some (now s) }) ∧
        (now s < n + s.get HOD_XPORT_CFG.RTO * 64 → exec (.stepResendTimeout c.slot k) s = .next (settle s))) ∧
      (∀ n, c.timer = some n → collHeld c = false → reformable s c = false →
        (n + stepTo s c.bond ≤ now s → ∃ t, exec (.bondStepTimeout c.slot) s = .next (settle t) ∧ collAt t c.slot = some { c with timer := some (now s) } ∧
          t.get BND_CNT.COUNT 2 = (s.get BND_CNT.COUNT 2 + 1) % 2 ^ BND_CNT.COUNT.w) ∧
        (now s < n + stepTo s c.bond → exec (.bondStepTimeout c.slot) s = .next (settle s))) ∧
      (∀ n w k, c.lateAt = some n → c.answered = false → reformable s c = true → awaited c = [w] → c.members.length ≠ 0 → k = (c.lateTo + 1) % c.members.length →
        (n + 2 * stepTo s c.bond ≤ now s → memFlat c k ≠ ownFlat s → ∃ t, exec (.lateRetryTimeout c.slot) s = .next (settle t) ∧
          collAt t c.slot = some { c with lateTo := k, lateAt := some (now s), answered := false }) ∧
        (now s < n + 2 * stepTo s c.bond → exec (.lateRetryTimeout c.slot) s = .next (settle s))) ∧
      (∀ n, n = lastDone s c → collFinished s c = false → c.total ≠ 0 →
        (n ≤ c.done → exec (.bondStepComplete c.slot) s = .next (settle s)) ∧
        (c.done < n → n < c.total → n < 2 ^ 32 → ∃ t c', exec (.bondStepComplete c.slot) s = .next (settle t) ∧ collAt t c.slot = some c' ∧ c'.done = n ∧
          c'.timer = some (now s) ∧ t.get BND_SLOT_STEP.STEP c.slot = n))) ∧
    (∀ b x, tabFind b s.bnd.coords = some x →
      (now s < x.at0 + 65536 → exec (.coordCollectEnd b) s = .next (settle s)) ∧
      (∀ ex, x.at0 + 65536 ≤ now s →
        ex = (List.range (bondCount s b)).filter (fun i => i != s.get BND_BOND_STATUS.SELF b && ((x.named.contains i && !(x.from?.contains i)) || x.fenced.contains i || i < s.get BND_BOND_STATUS.SELF b)) →
        (ex = [] → x.fenced.contains 0xFFFE = false → exec (.coordCollectEnd b) s = .next (settle { s with bnd := { s.bnd with coords := tabDel b s.bnd.coords } })) ∧
        (0 < ex.length → ex.length ≤ 64 → b < 4096 → collOfBond s b = none → ∃ t, exec (.coordCollectEnd b) s = .next (settle t) ∧
          bondEpoch t b = (bondEpoch s b + 1) % 2 ^ 32 ∧ tabFind b t.bnd.coords = none)))

/-! ### The kiln -/

/-- From R422, R427, R428, Table - Kiln operations: what each instruction does to the elements, masks and output of its lane; nothing else changes.
A word that no program holds is the model's choice (log 53), and no clause states it. -/
def Obligations.KilnInstructions : Prop :=
  ∀ (s : State) (cl ln i : Nat) (k : KFields) (l : Lane) (m : Nat), i = 8 * cl + ln → l = laneOf s i → m = lk l k.m →
    (∀ x, KilnElem x → LaneRuns s cl ln x.2.1 k → ∃ t, exec (x.1 cl ln k) s = .next t ∧ WroteV s t i k.vd k.w m (x.2.2 k (laneEnv s l) l)) ∧
    (∀ x, KilnMask x → LaneRuns s cl ln x.2.1 k → ∃ t, exec (x.1 cl ln k) s = .next t ∧ WroteK s t i k.vd k.w m (x.2.2 k (laneEnv s l) l)) ∧
    (∀ x, KilnEmit x → LaneRuns s cl ln x.2 k → ∃ t, exec (x.1 cl ln k) s = .next t ∧ Emitted s t i (kilnOut x.2 k (laneEnv s l) l)) ∧
    (LaneRuns s cl ln 0x01 k → exec (.kilnNop cl ln k) s = .next (setLane s i l)) ∧
    (LaneRuns s cl ln 0x1C k → ∃ t, exec (.kilnWiden cl ln k) s = .next t ∧
      WroteV s t i k.vd (k.w + 1) m (fun j v => sgn (elBits (k.w + 1)) v = kElS (lv l k.va) k.w (k.aux * elCount (k.w + 1) + j))) ∧
    (LaneRuns s cl ln 0x1F k → ∃ t, exec (.kilnPack4 cl ln k) s = .next t ∧ LaneOnly s t i ∧ { laneOf t i with v := l.v } = l ∧
      (∀ r, r ≠ k.vd → lv (laneOf t i) r = lv l r) ∧ ∀ j, j < 512 → if j / 256 = k.aux ∧ m.testBit (j % 256) = true
        then sgn 4 (kNib (lv (laneOf t i) k.vd) j) = satTo 4 (kElS (lv l k.va) 0 (j % 256)) else kNib (lv (laneOf t i) k.vd) j = kNib (lv l k.vd) j)

/-- From R422 to R425, R429, R430, R432: a unit and a drain begin with the registers the rules give; END writes the output and rests the lane for the cost of
the body; LDS reads side input or fails.
N_u and u of the drain are the model's choice (log 126), and no clause states them. -/
def Obligations.KilnUnits : Prop :=
  ∀ (s : State) (cl ln i : Nat) (k : KFields) (l : Lane), i = 8 * cl + ln → l = laneOf s i →
    (∀ (j : KJob) (u : KUnit), coreRuns s = true → cl < 20 → ln < 8 → l.job = 0 → l.free ≤ s.clk.cclk → j.pos < 16 →
      s.kiln.jobs.filter (fun (x : KJob) => x.cluster == some cl && x.stat.isNone && x.queue.any (fun u => u.u % 8 == ln)) = [j] →
      j.queue.find? (fun u => u.u % 8 == ln) = some u →
      ∃ v L, exec (.kilnUnit cl ln) s = .next (settle (runLane 65 (setLane v i L) i)) ∧
        v = updJob s j.id (fun x => cutUnits 64 { x with queue := x.queue.filter (fun y => y.u != u.u) }) ∧ L.job = j.id ∧ L.unit = u ∧ L.pc = 0 ∧ L.out = [] ∧
        L.drain = false ∧ L.wait = none ∧
        (∀ b, b < 256 → kEl (lv L 0) 0 b = ((u.data[b]?).getD 0).toNat ∧ kEl (lv L 1) 0 b = ((u.exps[b]?).getD 0).toNat) ∧
        (∀ r, 2 ≤ r → r < 12 → lv L r = 0) ∧ (∀ r, 12 ≤ r → r < 16 → lv L r = tabGet 0 r (tabGet [] ln j.carry)) ∧ (∀ r, 1 ≤ r → r < 7 → lk L r = 0) ∧
        ∀ e, e < elCount j.width → ((lk L 7).testBit e = true ↔ e < u.data.length / 2 ^ j.width)) ∧
    (∀ (j : KJob) (o : Nat), coreRuns s = true → s.kiln.jobs.find? (fun j => j.cluster == some cl && j.pos == o) = some j → jobById s j.id = some j →
      jobInDone s j = true → j.outs = [] → j.drain = 0 → j.stat = none → j.nextU ≠ 0 → kDrain j.prog ≠ [] → (∀ n, n < 8 → (laneOf s (8 * cl + n)).job = 0) →
      ∃ v L, exec (.kilnDrain cl o) s = .next (settle (runDrain 8 (runLane 65 (setLane v (8 * cl) L) (8 * cl)) cl j.id)) ∧ v.kiln = s.kiln ∧ v.regs = s.regs ∧
        v.xf = s.xf ∧ L.job = j.id ∧ L.drain = true ∧ L.pc = 0 ∧ L.out = [] ∧ L.wait = none ∧ (∀ r, r < 12 → lv L r = 0) ∧
        (∀ r, 12 ≤ r → r < 16 → lv L r = tabGet 0 r (tabGet [] 0 j.carry)) ∧ ∀ r, 1 ≤ r → r < 8 → lk L r = 0) ∧
    (∀ (j : KJob), LaneRuns s cl ln 0x00 k → jobById s l.job = some j → l.drain = false → ∃ u x, exec (.kilnEnd cl ln k) s = .next (settle u) ∧
      { laneOf u i with job := l.job, out := l.out, free := l.free } = l ∧ (laneOf u i).job = 0 ∧ (laneOf u i).out = [] ∧
      (laneOf u i).free = s.clk.cclk + kCost j.prog ∧ (∀ n, n ≠ i → laneOf u n = laneOf s n) ∧
      u.get KLN_UNIT_CNT.COUNT = (s.get KLN_UNIT_CNT.COUNT + 1) % 2 ^ KLN_UNIT_CNT.COUNT.w ∧ jobById u j.id = some x ∧
      (∀ r, 12 ≤ r → r < 16 → tabGet 0 r (tabGet [] ln x.carry) = lv l r) ∧
      (2 ≤ j.mode → ∃ o, x.outs = j.outs ++ [o] ∧ o.u = l.unit.u ∧
        o.data = if kInplace j.prog then (List.range l.unit.data.length).map (fun b => BitVec.ofNat 8 (kEl (lv l 0) 0 b)) else l.out)) ∧
    (∀ (j : KJob) a, LaneRuns s cl ln 0x34 k → jobById s l.job = some j → a = (bits j.param.toNat 64 64 + 256 * l.unit.u) % 2 ^ 64 →
      (ldsAddr s j l.unit.u = some a → ∃ t, exec (.kilnLds cl ln k) s = .next (settle t) ∧ Accesses t .rd (spaceOf a) (offsetOf a) 256 [] (.lds i) ∧
        { laneOf t i with wait := none, word := l.word } = l ∧ (laneOf t i).wait ≠ none ∧ ∀ n, n ≠ i → laneOf t n = laneOf s n) ∧
      (badSpace a = true ∨ 2 ≤ spaceOf a ∨ inSpace (spaceOf a) (offsetOf a) 256 = false ∨ winOk s j.ten (spaceOf a) (offsetOf a) 256 0 false = false →
        ∃ t x, exec (.kilnLds cl ln k) s = .next (settle t) ∧ (laneOf t i).job = 0 ∧ jobById t j.id = some x ∧ x.queue = [] ∧ ∃ e, x.stat = some e ∧ e.code = 7))

/-! ### Ports and routing -/

/-- From R439, R440, R444 to R448, R457, R462, R463: what a received tile does by its CRC, type, sequence number, credits and content. -/
def Obligations.TilesReceived : Prop :=
  ∀ (s : State) (p : Nat) (r : RxTile) (h : LinkHdr) (body : List Byte), h = parseLinkHdr r.bytes → body = (r.bytes.drop 8).take 240 →
    (p < 32 → rxState s p = true → laneRuns s p = true → r.uncorr = 0 → r.corr = [] → (portOf s p).uncorr ≤ s.get LNK_ERR_CFG.UNCORR_DOWN p →
      (portOf s p).crc + 1 ≤ s.get LNK_ERR_CFG.CRC_RETRAIN p * 16 → ∀ k, k = (if tileCrcOk r.bytes = true then 10 else 0) → (tileCrcOk r.bytes = true → 7 ≤ h.typ) →
      ∃ t, exec (.tileReceive p r) s = .next (settle t) ∧ PortOnly (offs [.LNK_CNT] p k) s t p ∧ portOf t p = { portOf s p with crc := (portOf s p).crc + 1 } ∧
        t.get LNK_CNT.COUNT p k = (s.get LNK_CNT.COUNT p k + 1) % 2 ^ LNK_CNT.COUNT.w) ∧
    (GoodTile s p r → h.typ = 6 → linkActive s p = false → ∃ u, exec (.tileReceive p r) s = .next (settle (lctlTile u p body)) ∧ PortOnly [] s u p ∧
      portOf u p = { portOf s p with good := now s } ∧ u.get64 .OBS_PORT_RX p = (s.get64 .OBS_PORT_RX p + 1) % 2 ^ 64) ∧
    (GoodTile s p r → h.typ = 4 → linkActive s p = true → h.crv = 0 → h.pal = 0 → tabFind h.vc (portOf s p).rx = none →
      (h.bad = 0 → leAt body 8 2 ≤ 192 → hchkOk body = true → rawBad body = false → screen (parsePacket body) = 0 → fenceDrops s (parsePacket body) = false →
        ∃ t, exec (.tileReceive p r) s = .next (settle t) ∧ t.net.rxq = s.net.rxq ++ [(p, parsePacket body)] ∧ t.xf = s.xf ∧ tabFind h.vc (portOf t p).rx = none) ∧
      (h.bad = 1 ∨ 192 < leAt body 8 2 % 4096 → ∃ t, exec (.tileReceive p r) s = .next (settle t) ∧ t.net.rxq = s.net.rxq ∧
        t.get LNK_CNT.COUNT p 4 = (s.get LNK_CNT.COUNT p 4 + 1) % 2 ^ LNK_CNT.COUNT.w ∧
        credGet (portOf t p).ret h.vc = (((credGet (portOf s p).ret h.vc).1 + 1) % 65536, ((credGet (portOf s p).ret h.vc).2 + 1) % 65536))) ∧
    (∀ e k, GoodTile s p r → h.typ = 0 → linkActive s p = true → h.crv = 1 → (portOf s p).expect = some e → k = (h.lseq + 4096 - e) % 4096 →
      (k ≠ 0 → ∃ t, exec (.tileReceive p r) s = .next (settle t) ∧ t.get LNK_CNT.COUNT p 3 = (s.get LNK_CNT.COUNT p 3 + 1) % 2 ^ LNK_CNT.COUNT.w ∧
        (portOf t p).expect = some ((h.lseq + 1) % 4096) ∧ (portOf t p).drops = ((portOf s p).drops + k) % 65536 ∧
        (portOf t p).dropDue = (portOf s p).dropDue ++ [0, 256, 512, 768].map (fun n => (portOf s p).tileNo + n) ∧
        ∀ c x, tabFind c (portOf t p).rx = some x → x.damaged = true) ∧
      (k = 0 → sub16 h.crhdr (credGet (portOf s p).credR h.crvc).1 ≤ sub16 (credGet (portOf s p).credS h.crvc).1 (credGet (portOf s p).credR h.crvc).1 →
        sub16 h.crdata (credGet (portOf s p).credR h.crvc).2 ≤ sub16 (credGet (portOf s p).credS h.crvc).2 (credGet (portOf s p).credR h.crvc).2 →
        ∃ t, exec (.tileReceive p r) s = .next (settle t) ∧ credGet (portOf t p).credR h.crvc = (h.crhdr, h.crdata) ∧ (portOf t p).credS = (portOf s p).credS ∧
          (portOf t p).expect = some ((h.lseq + 1) % 4096)))

/-- From R441, R443, R446, R460 to R462, R466, R501, R517, R582: which tile a port sends.
A command whose event is not due leaves the state (the model's choice, log 5). -/
def Obligations.TilesSent : Prop :=
  ∀ (s : State) (p : Nat), p < 32 → laneRuns s p = true →
    (linkState s p = 8 → coreRuns s = false → ∃ t, exec (.tileSend p) s = .next t ∧ SentTile s t p 0 0 0 0 []) ∧
    (linkState s p ∈ [3, 4, 6, 7] → (portOf s p).ctl = [] → ∃ t, exec (.tileSend p) s = .next t ∧ SentTile s t p 0 0 0 0 []) ∧
    (linkState s p ∈ [0, 1, 2, 5, 9] → exec (.tileSend p) s = .next s) ∧
    (∀ b r, linkState s p ∈ [3, 4, 6, 7] → (portOf s p).ctl = b :: r → b.headD 0 ≠ 2 → ∃ t, exec (.tileSend p) s = .next t ∧ SentTile s t p 6 0 0 0 b ∧ (portOf t p).ctl = r) ∧
    (∀ b r, linkState s p = 7 → (portOf s p).ctl = b :: r → b.headD 0 = 2 → (portOf s p).advGot.isSome = true →
      ∃ t, exec (.tileSend p) s = .next t ∧ SentTile s t p 6 0 0 0 b ∧ (portOf t p).ctl = r ∧ linkState t p = 8 ∧ (portOf t p).ret = []) ∧
    (linkState s p = 8 → coreRuns s = true → switchSlot s p (now s / 256) = false →
      (∀ b r, s.net.staged = [] → now s % 256 < 6 → (portOf s p).ctl = b :: r → b.headD 0 ≠ 2 →
        ∃ t, exec (.tileSend p) s = .next t ∧ SentTile s t p 6 0 0 0 b ∧ (portOf t p).ctl = r ∧ t.net.out = s.net.out) ∧
      (∀ (o : OutPkt), s.net.staged = [] → now s % 256 < 6 → (portOf s p).ctl = [] → (portOf s p).ctx = [] → s.net.out = [o] → choosePort s o = some (0, p) →
        isPallet o = false → o.src < 36 → o.pkt.vc < 8 → ∃ t, exec (.tileSend p) s = .next t ∧ t.net.out = [] ∧
          SentTile s t p (if tilesOf o.pkt = 1 then 4 else 1) o.pkt.vc 0 0 (tileBody o.pkt 0) ∧
          credGet (portOf t p).credS o.pkt.vc = (((credGet (portOf s p).credS o.pkt.vc).1 + 1) % 65536, ((credGet (portOf s p).credS o.pkt.vc).2 + tilesOf o.pkt) % 65536) ∧
          (1 < tilesOf o.pkt → ∃ x, tabFind o.pkt.vc (portOf t p).ctx = some x ∧ x.o = o ∧ x.sent = 1)) ∧
      (∀ (x : StagePkt), s.net.staged = [x] → x.port = p → x.course * 256 + x.slot = now s / 256 → 6 ≤ now s % 256 → (portOf s p).slot = now s / 256 →
        tabFind 8 (portOf s p).ctx = none → (portOf s p).slotSent + tilesOf x.pkt ≤ portUsable s p → timeUnsafe s p = false → fenced s (partnerOf s p) = false → x.pkt.vc < 8 →
        ∃ t, exec (.tileSend p) s = .next t ∧ t.net.staged = [] ∧ SentTile s t p (if tilesOf x.pkt = 1 then 4 else 1) x.pkt.vc 1 0 (tileBody x.pkt 0) ∧
          (portOf t p).slotSent = (portOf s p).slotSent + 1))

/-- From R484 to R486, R496, R506, R722: a packet to be forwarded waits for a port with one hop more, or is discarded and counted; one without a usable set is
discarded after HOLD.
A command whose event is not due leaves the state (the model's choice, log 5). A packet may come with the command or wait at its port (log 133). -/
def Obligations.PacketsAreForwarded : Prop :=
  ∀ (s : State) (q : Nat) (p : Packet), q < 32 →
    (s.net.rxq.contains (q, p) = false →
      (screen p = 1 → ∃ t, exec (.packetForward q p) s = .next t ∧ Counted s t LNK_CNT.COUNT q 5 ∧ Writes (offs [.LNK_CNT] q 5) s t) ∧
      (∀ x ∈ [(2, RTE_DROP_CNT.C0), (3, RTE_DROP_CNT.C1), (4, RTE_DROP_CNT.C2), (5, RTE_DROP_CNT.C3)], screen p = x.1 →
        ∃ t, exec (.packetForward q p) s = .next t ∧ Counted s t x.2 0 ∧ Writes (offs [.RTE_DROP_CNT] 0) s t) ∧
      (screen p = 0 → fenceDrops s p = true → ∃ t, exec (.packetForward q p) s = .next t ∧ Counted s t RTE_DROP_CNT.C0 1 ∧ Writes (offs [.RTE_DROP_CNT] 1) s t) ∧
      (screen p = 0 → fenceDrops s p = false → p.dst ≠ ownFlat s → portRole s q ≠ roleUp → s.get RTE_CFG.HOP_MAX ≤ p.hops →
        ∃ t, exec (.packetForward q p) s = .next t ∧ Counted s t RTE_DROP_CNT.C1 1 ∧ Writes (offs [.RTE_DROP_CNT] 1) s t) ∧
      (screen p = 0 → fenceDrops s p = false → p.dst ≠ ownFlat s → portRole s q = roleUp → isSw s = false → isGroup p.dst = false →
        ∃ t, exec (.packetForward q p) s = .next t ∧ Counted s t RTE_DROP_CNT.C3 1 ∧ Writes (offs [.RTE_DROP_CNT] 1) s t)) ∧
    (screen p = 0 → fenceDrops s p = false → p.dst ≠ ownFlat s → isGroup p.dst = false → (portRole s q ≠ roleUp ∨ isSw s = true) → p.hops < s.get RTE_CFG.HOP_MAX →
      noTurn s ⟨0, { p with hops := p.hops + 1 }, q, some q, none, 0, none, 0, none⟩ = false → p.hops < 255 →
      ∃ t o, exec (.packetForward q p) s = .next t ∧ t.net.out = s.net.out ++ [o] ∧ o.pkt = { p with hops := p.hops + 1 } ∧ o.src = q ∧ o.inPort = some q ∧
        o.since = now s ∧ t.xf = s.xf) ∧
    (∀ (o : OutPkt), s.net.out.find? (fun (x : OutPkt) => x.num == o.num) = some o →
      (now s < o.since + 64 * max 1 (s.get RTE_CFG.HOLD) ∨ usableSet s o ≠ none → exec (.noRouteTimeout o.num) s = .next s) ∧
      (usableSet s o = none → o.since + 64 * max 1 (s.get RTE_CFG.HOLD) ≤ now s → ∃ t, exec (.noRouteTimeout o.num) s = .next t ∧
        t.net.out = s.net.out.filter (fun x => x.num != o.num) ∧ Counted s t RTE_DROP_CNT.C2 1))

/-- From R457, R458, R462 to R465, R467 to R469, R472, R475 to R477, R480: what a received link control tile does, by its kind, to the port and its registers; a kind
that the state of the port does not make valid is counted.
A command whose event is not due leaves the state (the model's choice, log 5). A DROP settles a number once (log 59). -/
def Obligations.LinkControlActs : Prop :=
  ∀ (s : State) (p : Nat) (b : List Byte) (x : Port), p < 32 → x = portOf s p →
    (∀ (c : Nat → List Byte → Instr), c ∈ [Instr.drop, .resyncReq, .retrainReq, .widthReq, .widthAck, .spareReq, .spareAck, .spareDone] → linkState s p ∈ [3, 4, 6, 7] →
      exec (c p b) s = .next (s.inc LNK_CNT.COUNT p 9)) ∧
    (∀ c mine theirs, linkState s p = 3 → pairOk s p b = true → c = gensOffered s p &&& leAt b 3 1 → c ≠ 0 → mine = (healthy s p).length →
      theirs = popCount (leAt b 8 3) 18 → 4 ≤ min mine theirs → bit (leAt b 11 1) 0 = true → s.get LNK_CFG.MAX_WIDTH p < 3 → leAt b 6 1 % 4 < 3 →
      ∃ t, exec (.caps p b) s = .next t ∧ linkState t p = 5 ∧ t.get LNK_PARTNER.FLAT_ID p = leAt b 4 2 ∧ t.get LNK_PARTNER.ROLE p = bits (leAt b 1 1) 2 2 ∧
        c.testBit (portGen t p) = true ∧ (∀ g, portGen t p < g → g < 3 → c.testBit g = false) ∧ lanesOf (portWidth t p) ≤ min mine theirs ∧
        max (s.get LNK_CFG.MAX_WIDTH p) (leAt b 6 1 % 4) ≤ portWidth t p ∧
        (∀ w, max (s.get LNK_CFG.MAX_WIDTH p) (leAt b 6 1 % 4) ≤ w → w < portWidth t p → min mine theirs < lanesOf w) ∧
        (∀ k, k < lanesOf (portWidth t p) → (healthy s p)[k]? = some (laneMap t p k)) ∧ ∀ q, q ≠ p → portOf t q = portOf s q) ∧
    (linkState s p = 3 → gensOffered s p ≠ 0 → pairOk s p b = false → ∃ t, exec (.caps p b) s = .next t ∧ linkState t p = 4 ∧ t.get LNK_STATUS.ROLE_MISMATCH p = 1 ∧
      Pends t (16 + p)) ∧
    (linkState s p = 4 → x.partner.map (List.take 11) ≠ some (b.take 11) → ∃ t, exec (.caps p b) s = .next t ∧ linkState t p = 3 ∧ (portOf t p).partner = none) ∧
    (linkState s p = 6 → exec (.advert p b) s = .next (setPort s p { x with advGot := some b })) ∧
    (linkState s p = 7 → x.advSent = true → ∃ t, exec (.advert p b) s = .next t ∧ linkState t p = 8 ∧ (portOf t p).credS = [] ∧ (portOf t p).credR = [] ∧
      ∀ v, v < 8 → credGet (portOf t p).advA v = (leAt b (2 + 2 * v) 2, leAt b (18 + 2 * v) 2)) ∧
    (linkState s p = 8 →
      (∃ t, exec (.advert p b) s = .next t ∧ (portOf t p).resync = none ∧ t.get LNK_STATUS.RESYNC p = 0 ∧ (portOf t p).credS = [] ∧ (portOf t p).credR = [] ∧
        ∀ v, v < 8 → credGet (portOf t p).advA v = (leAt b (2 + 2 * v) 2, leAt b (18 + 2 * v) 2)) ∧
      (∀ l new n, l = (List.range (min 32 (leAt b 3 1))).map (fun k => leAt b (4 + 2 * k) 2) → l.Nodup → new = l.filter (fun q => !(x.seen.contains q)) →
        x.settled < 65536 → n = (x.settled + new.length) % 65536 → ∃ t, exec (.drop p b) s = .next t ∧ (portOf t p).settled = n ∧
          (∀ v, (credGet (portOf t p).credR v).1 % 65536 = ((credGet x.credR v).1 + (new.map (fun q => match x.hist.find? (fun z => z.1 == q) with
            | some z => if z.2.1 = v then z.2.2.1 else 0 | none => 0)).sum) % 65536 ∧
            (credGet (portOf t p).credR v).2 % 65536 = ((credGet x.credR v).2 + (new.map (fun q => match x.hist.find? (fun z => z.1 == q) with
            | some z => if z.2.1 = v then z.2.2.2 else 0 | none => 0)).sum) % 65536) ∧
          (n = leAt b 1 2 → (portOf t p).resync = x.resync ∧ t.regs = s.regs) ∧
          (n ≠ leAt b 1 2 → t.get LNK_STATUS.CREDIT_LOST p = 1 ∧ (portOf t p).resync.isSome = true)) ∧
      (∃ t, exec (.resyncReq p b) s = .next t ∧ (portOf t p).rx = x.rx.filter (fun c => c.1 == 8) ∧
        (if s.net.rxq.any (fun z => z.1 == p) || s.net.out.any (fun o => o.inPort == some p && o.bufVc.isSome) then (portOf t p).yResync = true ∧ (portOf t p).ctl = x.ctl
         else (portOf t p).yResync = false ∧ (portOf t p).ctl = x.ctl ++ [lctl (advertBody s p true)])) ∧
      (∀ g, g = (match x.retrain with | some g => if isLead s p then g else min 2 (leAt b 1 1) | none => min 2 (leAt b 1 1)) → g < 3 →
        ∃ t, exec (.retrainReq p b) s = .next t ∧ linkState t p = 5 ∧ portGen t p = g ∧ t.get LNK_STATUS.DOWN_REASON p = 10 ∧
          t.get LNK_CNT.COUNT p 8 = (s.get LNK_CNT.COUNT p 8 + 1) % 2 ^ LNK_CNT.COUNT.w ∧ (portOf t p).ctx = [] ∧ (portOf t p).rx = [] ∧
          (portOf t p).retrainAt = some s.clk.rcosc) ∧
      (x.retrain.isSome = true → exec (.widthReq p b) s = .next s) ∧
      (∀ c, x.retrain = none → x.width = none → c = max (leAt b 1 1) ((widthFor (healthy s p).length 0).getD 2) → ∃ t, exec (.widthReq p b) s = .next t ∧
        (portOf t p).width = some ⟨c, maskOf (laneSet s p c), leAt b 2 3, leAt b 5 8, leAt b 13 2, false, true⟩ ∧ t.get LNK_STATUS.SPARING p = 0 ∧
        (portOf t p).ctl = x.ctl ++ [lctl (widthBody 7 c (maskOf (laneSet s p c)) (leAt b 5 8) (leAt b 13 2))]) ∧
      (∀ (w : WidthChg), x.retrain = none → x.width = some w → w.own = true → isLead s p = true → exec (.widthReq p b) s =
        .next (setPort s p { x with width := some { w with code := max w.code (leAt b 1 1) } })) ∧
      (∀ (w : WidthChg) c, x.width = some w → w.own = true → c = max w.code (leAt b 1 1) → ∃ t, exec (.widthAck p b) s = .next t ∧
        (portOf t p).width = some { w with code := c, mine := maskOf (laneSet s p c), theirs := leAt b 2 3, agreed := true } ∧ t.get LNK_STATUS.SPARING p = 0 ∧
        ∀ a ∈ (portOf t p).again, a.1.headD 0 ≠ 6) ∧
      (∃ t, exec (.spareReq p b) s = .next t ∧ (portOf t p).spareX = some (leAt b 1 1, leAt b 2 1) ∧ t.get LNK_STATUS.SPARING p = 1 ∧
        (portOf t p).ctl = x.ctl ++ [lctl [9, BitVec.ofNat 8 (leAt b 1 1), BitVec.ofNat 8 (leAt b 2 1)]]) ∧
      (x.spare = some ⟨leAt b 1 1, leAt b 2 1, none⟩ → ∃ t, exec (.spareAck p b) s = .next t ∧ (portOf t p).spare = some ⟨leAt b 1 1, leAt b 2 1, some (now s)⟩ ∧
        ∀ a ∈ (portOf t p).again, a.1.headD 0 ≠ 8) ∧
      (∃ t, exec (.spareDone p b) s = .next t ∧ (portOf t p).spareX = none ∧ t.get LNK_STATUS.SPARING p = b2n x.spare.isSome)) ∧
    (linkState s p ∈ [3, 4, 6, 7, 8] → ∃ t, exec (.downNotice p b) s = .next t ∧ WentDown s t p 7) ∧
    (∀ k y n, x.again[k]? = some (y, n) → (x.tileNo < n → exec (.lctlRepeat p k) s = .next s) ∧ (n ≤ x.tileNo → ∃ t, exec (.lctlRepeat p k) s = .next t ∧
      PortOnly [] s t p ∧ (portOf t p).ctl = x.ctl ++ [y] ∧ (portOf t p).again[k]? = some (y, x.tileNo + 64) ∧ ∀ j, j ≠ k → (portOf t p).again[j]? = x.again[j]?)) ∧
    (∀ n, x.dropDue.find? (fun n => n ≤ x.tileNo) = some n → ∃ t, exec (.dropReport p) s = .next t ∧ PortOnly [] s t p ∧
      (portOf t p).dropDue = x.dropDue.filter (fun z => z != n) ∧
      (portOf t p).ctl = x.ctl ++ [lctl ([3] ++ leBytes 2 x.drops ++ [BitVec.ofNat 8 (min 32 x.recent.length)] ++ ((x.recent.take 32).map (leBytes 2)).flatten)]) ∧
    (∀ r, x.resync = some r → r.sent = true →
      (now s < r.at? + 8192 → exec (.resyncTimeout p) s = .next s) ∧
      (r.at? + 8192 ≤ now s → r.tries < 8 → ∃ t, exec (.resyncTimeout p) s = .next t ∧ PortOnly [] s t p ∧ (portOf t p).resync = some ⟨true, now s, r.tries + 1⟩ ∧
        (portOf t p).ctl = x.ctl ++ [lctl (4 :: leBytes 2 x.lastCred)]) ∧
      (r.at? + 8192 ≤ now s → 8 ≤ r.tries → Up s p → ∃ t, exec (.resyncTimeout p) s = .next t ∧ WentDown s t p 4))

/-- From R466 to R475, R478 to R481, R622: the steps of training, its limits, and what the loss of a lane, a spare, a width change and silence do.
A command whose event is not due leaves the state (the model's choice, log 5). -/
def Obligations.LinkTraining : Prop :=
  ∀ (s : State) (p : Nat) (x : Port), p < 32 → x = portOf s p →
    (∀ mask, laneRuns s p = true → mask < 2 ^ 18 → 4 ≤ popCount mask 18 →
      (linkState s p = 1 → ∃ t, exec (.detectDone p mask) s = .next t ∧ linkState t p = 2 ∧ (portOf t p).det = mask ∧ (portOf t p).since = s.clk.rcosc) ∧
      (linkState s p = 2 → ∃ t c, exec (.lockDone p mask) s = .next t ∧ linkState t p = 3 ∧ (portOf t p).partner = none ∧ (portOf t p).ctl = [c] ∧
        (∀ l, l < 18 → (l ∈ healthy t p ↔ mask.testBit l = true ∧ (s.get OPT_PORT_STATUS.DARK p).testBit l = false)) ∧ leAt c 0 1 = 1 ∧
        leAt c 8 3 = t.get LNK_LANE_STATUS.HEALTHY p ∧ leAt c 4 2 = ownFlat s)) ∧
    (linkState s p = 2 → (320000 ≤ s.clk.rcosc - x.since → ∃ t, exec (.lockTimeout p) s = .next t ∧ linkState t p = 1) ∧
      (s.clk.rcosc - x.since < 320000 → exec (.lockTimeout p) s = .next s)) ∧
    (linkState s p = 3 → (32000 ≤ s.clk.rcosc - x.capsAt → ∃ t, exec (.configTimeout p) s = .next t ∧ linkState t p = 1 ∧ (portOf t p).ctl = []) ∧
      (s.clk.rcosc - x.capsAt < 32000 → exec (.configTimeout p) s = .next s)) ∧
    (laneRuns s p = true → linkState s p = 5 → ∃ t, exec (.equalizeDone p) s = .next t ∧ linkState t p = 6) ∧
    (linkState s p = 5 → portGen s p < 3 →
      (s.clk.rcosc - x.since < 128000 → exec (.equalizeTimeout p) s = .next s) ∧
      (128000 ≤ s.clk.rcosc - x.since → ∀ left, left = gensOffered s p &&& (7 - 2 ^ portGen s p) → ∃ t, exec (.equalizeTimeout p) s = .next t ∧
        (left = 0 → WentDown s t p 6) ∧ (left ≠ 0 → linkState t p = 3 ∧ gensOffered t p = left ∧ (portOf t p).verifyFail = 0))) ∧
    (∀ bad n, laneRuns s p = true → linkState s p = 6 →
      (n = 0 → bad < 16 * s.get LNK_ERR_CFG.VERIFY_SER p → ∃ t, exec (.verifyDone p bad n) s = .next t ∧ linkState t p = 7 ∧ (portOf t p).advSent = false ∧
        (portOf t p).ctl = x.ctl ++ [lctl (advertBody s p false)] ∧ ∀ b, x.advGot = some b → ∀ v, v < 8 → credGet (portOf t p).advA v = (leAt b (2 + 2 * v) 2, leAt b (18 + 2 * v) 2)) ∧
      ((n ≠ 0 ∨ 16 * s.get LNK_ERR_CFG.VERIFY_SER p ≤ bad) → x.verifyFail = 0 → ∃ t, exec (.verifyDone p bad n) s = .next t ∧ linkState t p = 5 ∧ (portOf t p).verifyFail = 1) ∧
      ((n ≠ 0 ∨ 16 * s.get LNK_ERR_CFG.VERIFY_SER p ≤ bad) → x.verifyFail ≠ 0 → portGen s p < 3 → ∀ left, left = gensOffered s p &&& (7 - 2 ^ portGen s p) → left ≠ 0 →
        ∃ t, exec (.verifyDone p bad n) s = .next t ∧ linkState t p = 3 ∧ gensOffered t p = left)) ∧
    (linkState s p = 7 → (3200 ≤ s.clk.rcosc - x.since → ∃ t, exec (.creditTimeout p) s = .next t ∧ WentDown s t p 6) ∧
      (s.clk.rcosc - x.since < 3200 → exec (.creditTimeout p) s = .next s)) ∧
    (∀ n, x.retrainAt = some n → (n + 640000 ≤ s.clk.rcosc → Up s p → linkActive s p = false → ∃ t, exec (.retrainTimeout p) s = .next t ∧ WentDown s t p 6) ∧
      (s.clk.rcosc < n + 640000 → exec (.retrainTimeout p) s = .next s)) ∧
    (linkState s p = 9 → (2048 * max 1 (s.get LNK_CFG.BACKOFF p) ≤ s.clk.rcosc - x.since → ∃ t, exec (.backoffExpire p) s = .next t ∧ linkState t p = 1) ∧
      (s.clk.rcosc - x.since < 2048 * max 1 (s.get LNK_CFG.BACKOFF p) → exec (.backoffExpire p) s = .next s)) ∧
    (∀ l, l < 18 → linkActive s p = false → ∃ t, exec (.laneLockLoss p l) s = .next t ∧ (∀ k, k < 18 → (k ∈ healthy t p ↔ k ∈ healthy s p ∧ k ≠ l)) ∧
      (s.get LNK_SPARE_STATUS.READY p &&& (2 ^ 18 - 1 - 2 ^ l)) = t.get LNK_SPARE_STATUS.READY p ∧ Writes (offs [.LNK_LANE_STATUS, .LNK_SPARE_STATUS] p) s t) ∧
    (∀ l k d, l < 18 → linkActive s p = true → x.retrain = none → x.spare = none → 4 ≤ ((healthy s p).filter (fun j => j != l)).length →
      (List.range (lanesOf (portWidth s p))).find? (fun k => laneMap s p k == l) = some k →
      (bitsSet 18 (s.get LNK_SPARE_STATUS.READY p)).find? (fun j => j != l && !((mappedLanes s p).contains j)) = some d →
      ∃ t, exec (.laneLockLoss p l) s = .next t ∧ l ∉ healthy t p ∧ (portOf t p).spare = some ⟨k, d, none⟩ ∧ t.get LNK_STATUS.SPARING p = 1 ∧
        (portOf t p).ctl = x.ctl ++ [lctl [8, BitVec.ofNat 8 k, BitVec.ofNat 8 d]]) ∧
    (∀ l, l < 18 → linkActive s p = true → x.retrain = none → ((healthy s p).filter (fun j => j != l)).length < 4 →
      ∃ t, exec (.laneLockLoss p l) s = .next t ∧ WentDown s t p 3) ∧
    (∀ c n, x.spare = some c → c.ackAt = some n → c.lane < 16 → c.spare < 18 → linkActive s p = true →
      (∃ t, exec (.spareSwitch p) s = .next t ∧ laneMap t p c.lane = c.spare ∧ (∀ k, k < 16 → k ≠ c.lane → laneMap t p k = laneMap s p k) ∧ (portOf t p).spare = none ∧
        t.get LNK_SPARE_CNT.DONE p = (s.get LNK_SPARE_CNT.DONE p + 1) % 2 ^ LNK_SPARE_CNT.DONE.w ∧ tabFind (laneMap s p c.lane) (portOf t p).adapt = some (course s) ∧
        (portOf t p).ctl = x.ctl ++ [lctl [10, BitVec.ofNat 8 c.lane, BitVec.ofNat 8 (laneMap s p c.lane)]]) ∧
      (now s ≤ n + 4096 → exec (.spareTimeout p) s = .next s) ∧
      (n + 4096 < now s → ∃ t, exec (.spareTimeout p) s = .next t ∧ (portOf t p).spare = none ∧ Counted s t LNK_SPARE_CNT.FAIL p)) ∧
    (∀ l c, l < 18 → tabFind l x.adapt = some c →
      (∃ t, exec (.equaliserConverged p l true) s = .next t ∧ PortOnly [] s t p ∧ tabFind l (portOf t p).adapt = none ∧ tabFind l (portOf t p).lockC = some (course s)) ∧
      (course s < c + 4 → exec (.equaliserConverged p l false) s = .next s) ∧
      (c + 4 ≤ course s → ∃ t, exec (.equaliserConverged p l false) s = .next t ∧ tabFind l (portOf t p).adapt = none ∧ l ∉ healthy t p ∧ Counted s t LNK_SPARE_CNT.FAIL p)) ∧
    (∀ (w : WidthChg), x.width = some w → linkActive s p = true →
      (w.agreed = true → switchReached s p w = true → w.code < 3 → popCount w.mine 18 ≤ 16 → ∃ t, exec (.widthSwitch p) s = .next t ∧ portWidth t p = w.code ∧ (portOf t p).width = none ∧
        (∀ k, k < 16 → ∀ l, (bitsSet 18 w.mine)[k]? = some l → laneMap t p k = l) ∧
        t.get LNK_WIDTH_CNT.DONE p = (s.get LNK_WIDTH_CNT.DONE p + 1) % 2 ^ LNK_WIDTH_CNT.DONE.w) ∧
      (switchReached s p w = false → exec (.widthSwitch p) s = .next s) ∧
      (withdrawDue s p w = true → x.withdrawn < 7 → x.retrain = none → ∃ t v, exec (.widthWithdraw p) s = .next t ∧ (portOf t p).withdrawn = x.withdrawn + 1 ∧
        (portOf t p).width = some v ∧ v.code = w.code ∧ v.own = true ∧ v.agreed = false ∧
        t.get LNK_WIDTH_CNT.RETRY p = (s.get LNK_WIDTH_CNT.RETRY p + 1) % 2 ^ LNK_WIDTH_CNT.RETRY.w) ∧
      (withdrawDue s p w = true → 7 ≤ x.withdrawn → ∃ t, exec (.widthWithdraw p) s = .next t ∧ WentDown s t p 5)) ∧
    (linkActive s p = true → (x.good + 4096 ≤ now s → ∃ t, exec (.linkSilent p) s = .next t ∧ WentDown s t p 1) ∧
      (now s < x.good + 4096 → exec (.linkSilent p) s = .next s))

/-! ### Optics, keys and start-up -/

/-- From R530 to R541: light and darkness of a lane, and the states, polls, hours and commands of a laser module.
A command whose event is not due leaves the state (the model's choice, log 5). Presence and darkness keep the readings of logs 95 to 98. -/
def Obligations.OpticsActs : Prop :=
  (∀ (s : State) (p l : Nat) (b : Bool), p < 32 → l < 18 →
    (losOf s p l = b → exec (.lossOfLight p l b) s = .next s) ∧
    (losOf s p l ≠ b → ∃ t, exec (.lossOfLight p l b) s = .next t ∧ { t with opt := s.opt } = s ∧ losOf t p l = b ∧ losSince t p l = now s ∧
      ∀ q k, q ≠ p ∨ k ≠ l → losOf t q k = losOf s q k) ∧
    (optical s p = true → losOf s p l = true → (s.get OPT_PORT_STATUS.DARK p).testBit l = false →
      (losSince s p l + 64 ≤ now s → ∃ t, exec (.laneDark p l) s = .next t ∧ (∀ k, (t.get OPT_PORT_STATUS.DARK p).testBit k = (decide (k = l) || (s.get OPT_PORT_STATUS.DARK p).testBit k)) ∧
        l ∉ healthy t p ∧ ∀ f, f < 3 → ((t.get OPT_PORT_STATUS.FIBRE_DARK p).testBit f = true ↔ ∀ k, k < 6 → (t.get OPT_PORT_STATUS.DARK p).testBit (6 * f + k) = true)) ∧
      (now s < losSince s p l + 64 → exec (.laneDark p l) s = .next s)) ∧
    (losOf s p l = false → (s.get OPT_PORT_STATUS.DARK p).testBit l = true →
      (losSince s p l + 1024 ≤ now s → ∃ t, exec (.laneLit p l) s = .next t ∧ (∀ k, (t.get OPT_PORT_STATUS.DARK p).testBit k = (decide (k ≠ l) && (s.get OPT_PORT_STATUS.DARK p).testBit k)) ∧
        OptOnly (offs [.OPT_PORT_STATUS] p) s t) ∧
      (now s < losSince s p l + 1024 → exec (.laneLit p l) s = .next s)) ∧
    (∀ n, tabFind p s.opt.allDark = some n → optical s p = true → 2 ≤ linkState s p → linkState s p ≤ 8 →
      (n + 1024 ≤ now s → ∃ t, exec (.opticalDown p) s = .next t ∧ WentDown s t p 8) ∧ (now s < n + 1024 → exec (.opticalDown p) s = .next s))) ∧
  (∀ (s : State) (m : Nat), m < 8 →
    ((lmOf s m).present = false → ∃ t, exec (.lmPresenceChange m true) s = .next t ∧ t.get OPT_LM_STATUS.PRESENT m = 1 ∧ lmState t m = lmState s m ∧
      (lmOf t m).presAt = course s ∧ OptOnly (lmOffs m) s t) ∧
    ((lmOf s m).present = true → ∃ t, exec (.lmPresenceChange m false) s = .next t ∧ t.get OPT_LM_STATUS.PRESENT m = 0 ∧ t.get OPT_LM_CMD.BUSY m = 0 ∧ LmEnters s t m 0 ∧
      OptOnly (offs [.OPT_LM_CMD] m ++ lmOffs m) s t) ∧
    (lmState s m = 0 → s.on OPT_LM_CFG.EN m = true → (lmOf s m).present = true →
      ((lmOf s m).presAt + 16 ≤ course s → ∃ t, exec (.lmProbeStart m) s = .next t ∧ LmEnters s t m 1 ∧ OptOnly (lmOffs m) s t) ∧
      (course s < (lmOf s m).presAt + 16 → exec (.lmProbeStart m) s = .next s)) ∧
    (∀ ident, lmState s m = 1 → ∃ t, exec (.lmProbeDone m ident) s = .next t ∧ LmEnters s t m 2 ∧ (∀ k, k < 14 → t.rg .OPT_LM_ID m k = BitVec.ofNat 32 (leAt ident (4 * k) 4)) ∧
      ((∀ k, 8 ≤ k → k < 12 → s.rg .OPT_LM_ID m k = BitVec.ofNat 32 (leAt ident (4 * k) 4)) → t.get OPT_LM_HOURS.COUNT m = s.get OPT_LM_HOURS.COUNT m ∧
        ∀ w, w < 6 → t.get OPT_LM_BIAS.REF m w = s.get OPT_LM_BIAS.REF m w) ∧
      ((∃ k, 8 ≤ k ∧ k < 12 ∧ s.rg .OPT_LM_ID m k ≠ BitVec.ofNat 32 (leAt ident (4 * k) 4)) → t.get OPT_LM_HOURS.COUNT m = 0 ∧ t.get OPT_LM_STATUS.NEW m = 1 ∧
        ∀ w, w < 6 → t.get OPT_LM_BIAS.REF m w = 0)) ∧
    (∀ bias fail, 2 ≤ lmState s m → lmState s m ≤ 4 →
      (course s < (lmOf s m).pollAt + max 1 (s.get OPT_LM_CFG.POLL m) → exec (.lmPoll m bias fail) s = .next s) ∧
      ((lmOf s m).pollAt + max 1 (s.get OPT_LM_CFG.POLL m) ≤ course s → ∃ t n, exec (.lmPoll m bias fail) s = .next t ∧ LmEnters s t m n ∧
        t.get OPT_LM_STATUS.CH_FAIL m = fail % 64 ∧ t.get OPT_LM_HOURS.COUNT m = s.get OPT_LM_HOURS.COUNT m ∧
        (∀ w, w < 6 → t.get OPT_LM_BIAS.CUR m w = bias.getD w 0 % 65536 ∧ t.get OPT_LM_BIAS.REF m w =
          if s.get OPT_LM_BIAS.REF m w = 0 ∧ (lmOf s m).hours0 + 16 ≤ s.get OPT_LM_HOURS.COUNT m then bias.getD w 0 % 65536 else s.get OPT_LM_BIAS.REF m w) ∧
        (lmState s m ≠ 4 → (fail % 64 ≠ 0 ∨ LmBeyond t m (s.get OPT_LM_HOURS_LIM.EOL m) (s.get OPT_LM_CFG.DRIFT_EOL m)) → n = 4) ∧
        (lmState s m = 2 → fail % 64 = 0 → ¬ LmBeyond t m (s.get OPT_LM_HOURS_LIM.EOL m) (s.get OPT_LM_CFG.DRIFT_EOL m) →
          LmBeyond t m (s.get OPT_LM_HOURS_LIM.WARN m) (s.get OPT_LM_CFG.DRIFT_WARN m) → n = 3) ∧
        (fail % 64 = 0 → ¬ LmBeyond t m (s.get OPT_LM_HOURS_LIM.EOL m) (s.get OPT_LM_CFG.DRIFT_EOL m) →
          lmState s m ≠ 2 ∨ ¬ LmBeyond t m (s.get OPT_LM_HOURS_LIM.WARN m) (s.get OPT_LM_CFG.DRIFT_WARN m) → n = lmState s m))) ∧
    (lmState s m ≠ 0 → (lmOf s m).present = true → ∃ t, exec (.lmXactFail m) s = .next t ∧ t.get OPT_LM_STATUS.COMM_ERR m = 1 ∧ (lmOf t m).fails = (lmOf s m).fails + 1 ∧
      OptOnly (lmOffs m) s t ∧ LmEnters s t m (if 2 ≤ (lmOf s m).fails ∧ lmState s m ≤ 4 then 5 else lmState s m)) ∧
    (2 ≤ lmState s m → lmState s m ≤ 4 →
      ((lmOf s m).hoursAt + 900000000000 ≤ now s → ∃ t, exec (.lmHoursTick m) s = .next t ∧ Counted s t OPT_LM_HOURS.COUNT m ∧
        (lmOf t m).hoursAt = (lmOf s m).hoursAt + 900000000000 ∧ OptOnly (offs [.OPT_LM_HOURS] m) s t) ∧
      (now s < (lmOf s m).hoursAt + 900000000000 → exec (.lmHoursTick m) s = .next s)) ∧
    (∀ d, s.on OPT_LM_CMD.BUSY m = true →
      (∃ t, exec (.lmCmdDone m d false) s = .next t ∧ t.get OPT_LM_CMD.BUSY m = 0 ∧ (lmOf t m).fails = 0 ∧ OptOnly (offs [.OPT_LM_CMD, .OPT_LM_CMD_RD] m) s t ∧
        t.get OPT_LM_CMD_RD.DATA m = if s.on OPT_LM_CMD.WRITE m then s.get OPT_LM_CMD_RD.DATA m else d % 256) ∧
      ∃ t, exec (.lmCmdDone m d true) s = .next t ∧ t.get OPT_LM_CMD.BUSY m = 0 ∧ t.get OPT_LM_CMD_RD.ERR m = 1 ∧ t.get OPT_LM_STATUS.COMM_ERR m = 1))

/-- From R297, R559 to R561, R567, R568, R575: what each key exchange operation leaves; the end of a retiring epoch and of a sweep.
A command whose event is not due leaves the state (the model's choice, log 5). The order of the errors is the model's reading (logs 68 and 69); the algorithms are uninterpreted (log 75). -/
def Obligations.KeysAct : Prop :=
  ∀ (s : State),
    (∀ h op t e d, s.sec.kx = some (op, t, e, d) →
      (s.sec.cs = none → ∃ u, exec (.kxDone h) s = .next u ∧ KxEnded u 1 ∧ u.sec.kwk = s.sec.kwk ∧ u.sec.ek = s.sec.ek) ∧
      (∀ cs, s.sec.cs = some cs →
        (op = 0 ∨ 4 < op ∨ 0x200 < t ∨ (t = 0x200 ∧ op ≠ 1) → ∃ u, exec (.kxDone h) s = .next u ∧ KxEnded u 8 ∧ u.sec.kwk = s.sec.kwk ∧ u.sec.ek = s.sec.ek) ∧
        (op = 1 → t ≤ 0x200 → leAt d 96 32 = 0 → (∀ r ∈ weightRanges d, rangeBad s t r = false) → ∃ u, exec (.kxDone h) s = .next u ∧ KxEnded u 0 ∧
          tabFind t u.sec.nonce = some (d.take 32) ∧ (∀ k, k < 192 → u.rg .SEC_REPORT k = BitVec.ofNat 32 (leAt (reportBody s t cs d h) (4 * k) 4)) ∧
          (u.rg .SEC_REPORT 1).toNat = ownFlat s + 2 ^ 16 * t ∧
          ∀ k, k < 24 → u.rg .SEC_REPORT (192 + k) = BitVec.ofNat 32 (leAt (fitBytes 96 (Config.ecdsaSign (akOf s cs) (reportBody s t cs d h))) (4 * k) 4)) ∧
        (op = 1 → t ≤ 0x200 → leAt d 96 32 = 0 → (∃ r ∈ weightRanges d, rangeBad s t r = true) → ∃ u, exec (.kxDone h) s = .next u ∧ KxEnded u 7) ∧
        (op = 2 → t < 0x200 → leAt d 96 32 = 0 →
          (∀ x n, Config.ecdh (xkOf s cs) (d.take 96) = some x → tabFind t s.sec.nonce = some n → ∃ u, exec (.kxDone h) s = .next u ∧ KxEnded u 0 ∧
            kwkOf u t = fitBytes 32 (Config.kdf (fitBytes 48 x) n ([0x4B, 0x57, 0x4B] ++ leBytes 2 (ownFlat s) ++ leBytes 2 t) 32) ∧ (∀ j, j ≠ t → kwkOf u j = kwkOf s j) ∧
            tabFind t u.sec.nonce = none) ∧
          (Config.ecdh (xkOf s cs) (d.take 96) = none → ∃ u, exec (.kxDone h) s = .next u ∧ KxEnded u 2 ∧ u.sec.kwk = s.sec.kwk) ∧
          (Config.ecdh (xkOf s cs) (d.take 96) ≠ none → tabFind t s.sec.nonce = none → ∃ u, exec (.kxDone h) s = .next u ∧ KxEnded u 3 ∧ u.sec.kwk = s.sec.kwk)) ∧
        (op = 3 → t < 0x200 → e < 2 → leAt d 44 84 = 0 →
          (kwkOf s t = [] → ∃ u, exec (.kxDone h) s = .next u ∧ KxEnded u 4 ∧ u.sec.ek = s.sec.ek) ∧
          (kwkOf s t ≠ [] → Config.keyUnwrap (kwkOf s t) (d.take 40) = none → ∃ u, exec (.kxDone h) s = .next u ∧ KxEnded u 5 ∧ u.sec.ek = s.sec.ek) ∧
          (∀ k, kwkOf s t ≠ [] → Config.keyUnwrap (kwkOf s t) (d.take 40) = some k →
            (epochLive s t e = true ∨ epochRetiring s t e = true → ∃ u, exec (.kxDone h) s = .next u ∧ KxEnded u 6 ∧ u.sec.ek = s.sec.ek) ∧
            (epochLive s t e = false → epochRetiring s t e = false → leAt d 40 4 = 0 → ∃ u, exec (.kxDone h) s = .next u ∧ KxEnded u 8 ∧ u.sec.ek = s.sec.ek) ∧
            (epochLive s t e = false → epochRetiring s t e = false → leAt d 40 4 ≠ 0 → ∃ u, exec (.kxDone h) s = .next u ∧ KxEnded u 0 ∧ ekOf u t e = fitBytes 32 k ∧
              (∀ j, j ≠ 2 * t + e → tabFind j u.sec.ek = tabFind j s.sec.ek) ∧ epochLive u t e = true ∧ u.get SEC_KEY_NUM.NUM t e = leAt d 40 4 ∧ u.get SEC_TEN_CFG.KEYED t = 1 ∧
              tabGet 0 (2 * t + e) u.sec.send = 0))) ∧
        (op = 4 → t < 0x200 → ∃ u, exec (.kxDone h) s = .next u ∧ KxEnded u 0 ∧ tabFind t u.sec.kwk = none ∧ ∀ j, j ≠ t → tabFind j u.sec.kwk = tabFind j s.sec.kwk))) ∧
    (∀ t e, t < 512 → e < 2 →
      (epochRetiring s t e = false ∨ epochUsed s t e = true → exec (.epochZeroise t e) s = .next s) ∧
      (epochRetiring s t e = true → epochUsed s t e = false → ∃ u, exec (.epochZeroise t e) s = .next u ∧ tabFind (2 * t + e) u.sec.ek = none ∧ epochRetiring u t e = false ∧
        u.get SEC_KEY_NUM.NUM t e = 0 ∧ (∀ j, j ≠ 2 * t + e → tabFind j u.sec.ek = tabFind j s.sec.ek) ∧
        Writes (offs [.SEC_KEY_NUM] t e ++ offs [.SEC_TEN_CFG] t) s { u with sec := s.sec })) ∧
    (∀ w, s.sec.sweep = some w → (w.done = false → exec .sweepDone s = .next s) ∧
      (w.done = true → ∃ v, exec .sweepDone s = .next (tagRetry v) ∧ v.sec.sweep = none ∧ v.get SEC_SWEEP_CMD.BUSY = 0 ∧ { v with regs := s.regs, sec := s.sec } = s))

/-- From R609 to R614, R618, R619: the ends of VERIFY, IDENTITY, staging and of an old range.
A command whose event is not due leaves the state (the model's choice, log 5). The algorithms are uninterpreted (log 75); the first contexts start as log 76 says. -/
def Obligations.StartUpAndModules : Prop :=
  ∀ (s : State),
    (bootPhase s ≠ 4 → exec .bootVerifyDone s = .next s) ∧
    (bootPhase s = 4 → ∀ (r : Nat × State × List ModDesc), r = verifyBundle s 0 →
      (layoutOk s 0 = false → r.1 = 1) ∧ (layoutOk s 0 = true → chainOk s 0 = false → r.1 = 2) ∧
      (layoutOk s 0 = true → chainOk s 0 = true → manifestOk s 0 = false → r.1 = 3) ∧
      (layoutOk s 0 = true → chainOk s 0 = true → manifestOk s 0 = true → (r.1 = 0 ↔ r.2.2 = bundleMods s 0) ∧ (r.1 ≠ 0 → r.1 = 4)) ∧
      (r.1 ≠ 0 → ∃ t, exec .bootVerifyDone s = .next t ∧ t.get CLK_BOOT_STATUS.ERR = r.1 ∧ bootPhase t = 3 ∧ Pends t 1 ∧ Zeroed t 0 0x800000 ∧
        (∀ m ∈ r.2.2, Zeroed t m.load m.len) ∧ t.boot = s.boot) ∧
      (r.1 = 0 → ∃ t, exec .bootVerifyDone s = .next t ∧ t.get CLK_BOOT_STATUS.ERR = 0 ∧ bootPhase t = 5 ∧ t.boot.swaps = 0 ∧ t.boot.fwNow = t.boot.fwBoot ∧
        t.xf.spw = r.2.1.xf.spw ∧ (r.2.2.length ≤ 16 → ∀ (k : Nat) (m : ModDesc), r.2.2[k]? = some m → t.get TRW_MOD0.VALID k = 1 ∧ t.get TRW_MOD0.MOD_ID k = m.modId % 2 ^ TRW_MOD0.MOD_ID.w ∧
          t.get TRW_MOD1.SIZE_4K k = modUnits m % 2 ^ TRW_MOD1.SIZE_4K.w) ∧
        (∀ m, r.2.2.find? (fun m => m.flags == 1) = some m → t.boot.entry = (m.load, m.len / 8)))) ∧
    (bootPhase s ≠ 5 → exec .identityDone s = .next s) ∧
    (bootPhase s = 5 → ∃ t, exec .identityDone s = .next t ∧ bootPhase t = 6 ∧ Zeroed t 0 0x800000 ∧
      (∀ c, c = 512 ∨ c = 544 → (ctxOf t c).pc = ⟨true, 0⟩ ∧ (ctxOf t c).region = some s.boot.entry ∧ ((ctxOf t c).cmds.map (fun m => m.ten)) = [0x200]) ∧
      (∀ c, c ≠ 512 → c ≠ 544 → ctxOf t c = ctxOf s c) ∧
      (s.tap.opened = false → Config.cornerstone (s.boot.idrec.take 4096) = none → t.get SEC_STATUS.CS_FAIL = 1 ∧ Pends t 4 ∧ t.sec.cs = s.sec.cs) ∧
      (∀ cs, s.tap.opened = false → Config.cornerstone (s.boot.idrec.take 4096) = some cs → t.sec.cs = some cs ∧
        ∀ k, k < 96 → t.rg .SEC_ALIAS k = BitVec.ofNat 32 (leAt (aliasRecord s cs) (4 * k) 4))) ∧
    (∀ k b, k < 2 → b = s.get TRW_STAGE0.OFF_4K k * 4096 →
      (s.get TRW_STAGE1.STATE k ≠ 1 → exec (.stageDone k) s = .next s) ∧
      (s.get TRW_STAGE1.STATE k = 1 →
        (∀ e, (e = 1 ∧ (spwSize < b + 0x800000 ∨ layoutOk s b = false)) ∨ (e = 2 ∧ b + 0x800000 ≤ spwSize ∧ layoutOk s b = true ∧ chainOk s b = false) ∨
            (e = 3 ∧ b + 0x800000 ≤ spwSize ∧ layoutOk s b = true ∧ chainOk s b = true ∧ manifestOk s b = false) →
          ∃ t, exec (.stageDone k) s = .next t ∧ t.get TRW_STAGE1.STATE k = 3 ∧ t.get TRW_STAGE1.ERR k = e ∧ Writes (offs [.TRW_STAGE1] k) s t) ∧
        (∀ (m : ModDesc), b + 0x800000 ≤ spwSize → layoutOk s b = true → chainOk s b = true → manifestOk s b = true → bundleMods s b = [m] →
          Config.sha384 (spwRead s (b + m.off) m.len) = m.digest →
          (stageCheck s b = false → ∃ t, exec (.stageDone k) s = .next t ∧ t.get TRW_STAGE1.STATE k = 3 ∧ t.get TRW_STAGE1.ERR k = 5 ∧ Writes (offs [.TRW_STAGE1] k) s t) ∧
          (stageCheck s b = true → ∃ t, exec (.stageDone k) s = .next t ∧ t.get TRW_STAGE1.STATE k = 2 ∧ spwRead t m.load m.len = spwRead s (b + m.off) m.len ∧
            (∀ a, a < m.load ∨ m.load + m.len ≤ a → spwGet t a = spwGet s a) ∧ tabFind k t.boot.stage = some ⟨m.load / 4096, modUnits m, m.modId, m.digest⟩)))) ∧
    (∀ k b n c, s.boot.old[k]? = some (b, n, c) → (course s < c → exec (.oldRangeExpire k) s = .next s) ∧
      (c ≤ course s → ∃ t, exec (.oldRangeExpire k) s = .next t ∧ Zeroed t (b * 4096) (n * 4096) ∧ t.boot.old = s.boot.old.eraseIdx k ∧
        (∀ a, a < b * 4096 ∨ (b + n) * 4096 ≤ a → spwGet t a = spwGet s a) ∧ t.regs = s.regs))

/-! ### Observation and the ports of the block -/

/-- From R644, R651, R652, R662, R680, R681: program-counter samples, the end and the drain of a trace, the fault port, and temperature.
A command whose event is not due leaves the state (the model's choice, log 5). -/
def Obligations.ObservationEvents : Prop :=
  ∀ (s : State),
    (∀ n c d, n < 18 → s.on OBS_PCS_CFG.EN = true → coreRuns s = true → d = s.clk.cclk / 2 ^ s.get OBS_PCS_SHIFT.SHIFT → tabGet 0 (1000 + n) s.obs.pcs ≠ d → pcsNext s n = some c →
      (sub32 ((s.get OBS_PCS_TAIL.TAIL + s.obs.pcsBusy) % 2 ^ 32) (s.get OBS_PCS_HEAD.HEAD) < 2 ^ s.get OBS_PCS_CFG.LOG2_SIZE →
        ∃ t r, exec (.pcSample n) s = .next t ∧ r.length = 32 ∧ leAt r 0 8 = now s % 2 ^ 64 ∧ leAt r 8 2 = c ∧ leAt r 12 2 = ((ctxOf s c).ten.getD 0) % 65536 ∧
          (conf s ((ctxOf s c).ten.getD 0) = false → leAt r 14 2 = here s c % 65536 ∧ leAt r 16 4 = curTag s c % 2 ^ 32) ∧ leAt r 24 4 = s.obs.pcsMissed % 2 ^ 32 ∧
          Accesses t .wr (s.get OBS_PCS_BASE_HI.SPACE) (s.get OBS_PCS_BASE_LO.BASE * 32 + 2 ^ 32 * s.get OBS_PCS_BASE_HI.BASE +
            32 * ((s.get OBS_PCS_TAIL.TAIL + s.obs.pcsBusy) % 2 ^ 32 % 2 ^ s.get OBS_PCS_CFG.LOG2_SIZE)) 32 r .pcs ∧
          t.obs.pcsBusy = s.obs.pcsBusy + 1 ∧ t.obs.pcsMissed = 0 ∧ tabGet 0 (1000 + n) t.obs.pcs = d ∧ tabGet 0 n t.obs.pcs = (c + 1) % 32 ∧ t.regs = s.regs) ∧
      (2 ^ s.get OBS_PCS_CFG.LOG2_SIZE ≤ sub32 ((s.get OBS_PCS_TAIL.TAIL + s.obs.pcsBusy) % 2 ^ 32) (s.get OBS_PCS_HEAD.HEAD) →
        ∃ t, exec (.pcSample n) s = .next t ∧ t.obs.pcsMissed = s.obs.pcsMissed + 1 ∧ { t with obs := s.obs } = s)) ∧
    (∀ u, u < 4 →
      (s.get OBS_TRC_STATUS.STATE u = 2 → (trcOf s u).trig = true → (trcOf s u).left = 0 → ∃ t, exec (.traceStopped u) s = .next t ∧ t.get OBS_TRC_STATUS.STATE u = 3 ∧
        { t with regs := s.regs } = s) ∧
      (s.get OBS_TRC_STATUS.STATE u ≠ 2 ∨ (trcOf s u).trig = false ∨ (trcOf s u).left ≠ 0 → exec (.traceStopped u) s = .next s) ∧
      (∀ r l n, s.on OBS_DRN_CFG.DRAIN_EN u = true → coreRuns s = true → (trcOf s u).draining = none → (trcOf s u).drainAt ≤ s.clk.cclk → l = s.get OBS_DRN_CFG.LOG2_SIZE u →
        n = s.get OBS_DRN_TAIL.TAIL u → drainNext s u = some r → sub32 n (s.get OBS_DRN_HEAD.HEAD u) < 2 ^ l → ∃ t, exec (.traceDrain u) s = .next t ∧
          Accesses t .wr (s.get OBS_DRN_BASE_HI.SPACE u) (s.get OBS_DRN_BASE_LO.BASE u * 32 + 2 ^ 32 * s.get OBS_DRN_BASE_HI.BASE u + 32 * (n % 2 ^ l)) 32
            (trcBytes r ((n / 2 ^ l + 1) % 2)) (.drain u) ∧ (trcOf t u).draining ≠ none ∧ (trcOf t u).drainAt = s.clk.cclk + 8 ∧ (trcOf t u).recs = (trcOf s u).recs ∧ t.regs = s.regs)) ∧
    (s.clk.aon = true → ∀ f, f = s.obs.flt →
      (∀ i, FltNext s i → f.shown = none → f.lowAt = none → exec .faultPresent s =
        .next { s with obs := { s.obs with flt := { f with lowAt := some s.clk.rcosc, shown := some (i, s.get FLT_SEV.SEV i) } } }) ∧
      (∀ i v, f.shown = some (i, v) → f.lowAt = none → FltNext s i → s.get FLT_SEV.SEV i = v → exec .faultPresent s = .next s) ∧
      (∀ n i v, f.lowAt = some n → f.shown = some (i, v) → ∃ g, exec .faultPresent s = .next { s with obs := { s.obs with flt := g } } ∧ g.shown = f.shown ∧ g.firstAt = f.firstAt ∧
        (s.clk.rcosc ≤ n → g = f) ∧ (s.clk.rcosc = n + 1 → g.valid = false ∧ g.src = f.src) ∧ (s.clk.rcosc = n + 2 → g.valid = false ∧ g.src = i ∧ g.sev = v) ∧
        (n + 3 ≤ s.clk.rcosc → g.valid = true ∧ g.src = i ∧ g.sev = v ∧ g.lowAt = none))) ∧
    (∀ k (v : BitVec 12), k < 8 → s.clk.por = false → s.clk.core = false → ∃ t, exec (.tempMeasure k v) s = .next t ∧ t.get GLB_TEMP.TEMP k = v.toNat ∧ t.get GLB_TEMP.VALID k = 1 ∧
      (∀ j, j < 8 → (t.get GLB_TEMP_STATUS.HOT).testBit j = if j = k then decide (sgn 12 (s.get GLB_TEMP_CFG.HIGH) ≤ v.toInt) else (s.get GLB_TEMP_STATUS.HOT).testBit j) ∧
      (∀ j, j < 8 → (t.get GLB_TEMP_STATUS.OVER).testBit j = ((s.get GLB_TEMP_STATUS.OVER).testBit j || (decide (j = k) && decide (sgn 12 (s.get GLB_TEMP_CFG.HIGH) ≤ v.toInt)))) ∧
      Writes (offs [.GLB_TEMP] k ++ offs [.GLB_TEMP_STATUS]) s t)

/-- From R290, R291, R337, R338, R685 to R695, R700 to R702: handshakes of the Turulut port, its inbound channel, the scratchpad controller and the buffer pool
port.
A command whose event is not due leaves the state (the model's choice, log 5). Reserved operations, late answers and the quiet interval follow the readings of logs 114, 115, 117 and 118. -/
def Obligations.MemoryPorts : Prop :=
  ∀ (s : State), coreRuns s = true →
    (∀ ch id k p g, isSw s = false → s.clk.quiesce = none → ch < 32 → channelNext s ch = some (id, k, p) → freeTag s ch = some g →
      exec (.tuRequestAccept ch) s = .next (settle (updTxn s id (fun t => setPart t k (fun x => { x with st := if tuGen2 s || p.st = .beat then .sent ch g else .beat })))) ∧ g < 256 ∧
        ∀ x ∈ s.xf.txns, ∀ z ∈ x.parts, z.st ≠ .sent ch g) ∧
    (∀ ch tag kind d, isSw s = false → s.clk.quiesce = none →
      (tuHolder s ch tag = none → ∃ t, exec (.tuResponse ch tag kind d) s = .next t ∧ Pends t 9 ∧ RegsKept obsOff s t ∧ t.xf = s.xf) ∧
      (∀ x k p, tuHolder s ch tag = some (x, k, p) → x.parts[k]? = some p →
        (kind = 0 → x.op = .rd → p.addr % 128 + p.len ≤ d.length → ∃ u y, exec (.tuResponse ch tag kind d) s = .next (partThen u y) ∧
          y = { x with parts := y.parts } ∧ (∀ j, y.parts[j]? = if j = k then some { p with st := .done, data := (d.drop (p.addr % 128)).take p.len } else x.parts[j]?) ∧
          u.xf.txns = s.xf.txns.map (fun z => if z.id == x.id then y else z)) ∧
        (kind = 1 → x.op = .wr → ∃ u y, exec (.tuResponse ch tag kind d) s = .next (partThen u y) ∧
          y = { x with parts := y.parts } ∧ (∀ j, y.parts[j]? = if j = k then some { p with st := .done } else x.parts[j]?) ∧
          u.xf.txns = s.xf.txns.map (fun z => if z.id == x.id then y else z)) ∧
        (∀ o w a c, kind = 2 → x.op = .atom o w a c → p.len ≤ d.length → ∃ u y, exec (.tuResponse ch tag kind d) s = .next (partThen u y) ∧
          y.parts[k]? = some { p with st := .done, data := d.take p.len } ∧ u.xf.txns = s.xf.txns.map (fun z => if z.id == x.id then y else z)) ∧
        (kind = 3 → ∃ u y, exec (.tuResponse ch tag kind d) s = .next (partThen u y) ∧ (∃ z, y.parts[k]? = some z ∧ z.st = .refused) ∧ u.regs = s.regs) ∧
        (kind ≠ 3 → kind ≠ (match x.op with | .rd => 0 | .wr => 1 | _ => 2) → ∃ t, exec (.tuResponse ch tag kind d) s = .next t ∧ Pends t 9 ∧ t.xf = s.xf))) ∧
    (∀ ch tag kind d n, isSw s = false → s.clk.quiesce = some n → exec (.tuResponse ch tag kind d) s = .next { s with clk := { s.clk with quiesce := some s.clk.cclk } }) ∧
    (∀ n, s.clk.quiesce = some n → (s.clk.cclk < n + 64 → exec .tuResetQuiesce s = .next s) ∧
      (n + 64 ≤ s.clk.cclk → exec .tuResetQuiesce s = .next (settle { s with clk := { s.clk with quiesce := none } }))) ∧
    (∀ op tag dom brick mask d, isSw s = false →
      (inboundOp op d = none ∨ 0x200 < dom ∨ spwSize ≤ brick * 128 ∨ (bootPhase s ≠ 6 ∧ bootPhase s ≠ 3) →
        exec (.tuInboundRequest op tag dom brick mask d) s = .next { s with xf := { s.xf with inbound := s.xf.inbound ++ [(tag, 3, [])] } }) ∧
      (bootPhase s = 6 → brick * 128 < spwSize → mask % 2 ^ 128 ≠ 0 → (dom = 0x200 ∨ (dom < 512 ∧ ∀ r ∈ maskRuns mask 128 0, winOk s dom 1 (brick * 128 + r.1) r.2 (if op = 1 then 0 else 1) false = true)) →
        (op = 1 → ∃ t x, exec (.tuInboundRequest op tag dom brick mask d) s = .next (settle t) ∧ x ∈ t.xf.txns ∧ x.op = .rd ∧ x.space = 1 ∧ x.why = .inbound tag ∧
          ∀ b, b < 128 → (mask.testBit b = true ↔ ∃ z ∈ x.parts, z.addr ≤ brick * 128 + b ∧ brick * 128 + b < z.addr + z.len)) ∧
        (op = 2 → (∀ r ∈ maskRuns mask 128 0, spwProtected s (brick * 128 + r.1) r.2 = false) → ∃ t x, exec (.tuInboundRequest op tag dom brick mask d) s = .next (settle t) ∧
          x ∈ t.xf.txns ∧ x.op = .wr ∧ x.space = 1 ∧ x.why = .inbound tag ∧ ∀ z ∈ x.parts, brick * 128 ≤ z.addr ∧ z.data = (d.drop (z.addr - brick * 128)).take z.len) ∧
        (op = 2 → (∃ r ∈ maskRuns mask 128 0, spwProtected s (brick * 128 + r.1) r.2 = true) → ∃ t, exec (.tuInboundRequest op tag dom brick mask d) s = .next t ∧
          t.get TRW_STAGE1.WR_ERR 0 = 1 ∧ t.xf.spw = s.xf.spw ∧ t.xf.inbound = s.xf.inbound ++ [(tag, 1, [])]))) ∧
    (exec .inboundResponseHandshake s = .next { s with xf := { s.xf with inbound := s.xf.inbound.drop 1 } }) ∧
    (∀ b x k p, b < 64 → bankWaits s b = [(x, k, p)] → x.req < 4 → x.parts[k]? = some p →
      (x.op = .wr → p.data.length = p.len → ∃ u y, exec (.scratchpadGrant b) s = .next (partThen u y) ∧ y.parts[k]? = some { p with st := .done } ∧ spwRead u p.addr p.len = p.data ∧
        ∀ a, a < p.addr ∨ p.addr + p.len ≤ a → spwGet u a = spwGet s a) ∧
      (x.op = .rd → ∃ u y, exec (.scratchpadGrant b) s = .next (partThen u y) ∧ y.parts[k]? = some { p with st := .done, data := spwRead s p.addr p.len } ∧ u.xf.spw = s.xf.spw) ∧
      (∀ o w a c, x.op = .atom o w a c → ∃ u y, exec (.scratchpadGrant b) s = .next (partThen u y) ∧ y.parts[k]? = some { p with st := .done, data := spwRead s p.addr p.len } ∧
        spwRead u p.addr p.len = leBytes p.len (atomNew o (if w then 128 else 64) (ofLe (spwRead s p.addr p.len)) a c) ∧
        ∀ z, z < p.addr ∨ p.addr + p.len ≤ z → spwGet u z = spwGet s z)) ∧
    (isSw s = false →
      (∀ r i, s.xf.bpm.find? (fun r => r.at?.isNone) = some r → (List.range 256).find? (fun i => !(s.xf.bpm.any (fun r => r.at?.isSome && r.id == i))) = some i →
        exec .bpmRequestHandshake s = .next { s with xf := { s.xf with bpm := s.xf.bpm.map (fun x => if x == r then { r with id := i, at? := some s.clk.cclk } else x) } }) ∧
      (exec .bpmReleaseHandshake s = .next { s with xf := { s.xf with bpmRel := s.xf.bpmRel.drop 1 } }) ∧
      (∀ id g a, s.xf.bpm.find? (fun r => r.at?.isSome && r.id == id) = none → ∃ t, exec (.bpmAnswer id g a) s = .next t ∧ Pends t 6 ∧ t.xf = s.xf) ∧
      (∀ (r : BpmReq) g a, s.xf.bpm.find? (fun x => x.at?.isSome && x.id == r.id) = some r →
        (r.late = false → msgById s r.msg ≠ none → a % poolSize r.pool = 0 → ∃ u, exec (.bpmAnswer r.id g a) s = .next (settle (bpmResult u r.msg r.pool (if g then some a else none))) ∧
          u.xf.bpm = s.xf.bpm.filter (fun x => !(x.id == r.id && x.at?.isSome)) ∧ { u with xf := { u.xf with bpm := s.xf.bpm } } = s) ∧
        (r.late = true → g = true → a % poolSize r.pool = 0 → ∃ t, exec (.bpmAnswer r.id g a) s = .next t ∧ t.xf.bpmRel = s.xf.bpmRel ++ [(r.pool, r.ten, a)] ∧ t.xf.msgs = s.xf.msgs) ∧
        (∀ n, r.at? = some n → r.late = false → (s.clk.cclk < n + 4096 → exec (.bpmTimeout r.id) s = .next s) ∧
          (n + 4096 ≤ s.clk.cclk → ∃ u, exec (.bpmTimeout r.id) s = .next (settle (bpmResult u r.msg r.pool none)) ∧ Pends u 6 ∧ u.xf.msgs = s.xf.msgs ∧
            ∀ z ∈ u.xf.bpm, z.id = r.id → z.at?.isSome = true → z.late = true))))

/-- From R597, R606, R677, R678, R712 to R715: the I3C target and the test access port.
ENTDAA with an address, the pin order of the provisional ID and the state after TRST are the model's (logs 119 to 121), as are the operands of the boundary-scan commands (log 123). -/
def Obligations.SidePorts : Prop :=
  ∀ (s : State),
    (s.clk.por = false →
      (∀ a, s.i3c.addr = none → ∃ t, exec (.entdaa a) s = .next t ∧ t.i3c.addr = some (a % 128) ∧ t.i3c.last = i3cPid s ++ [0, 0] ∧ { t with i3c := s.i3c } = s) ∧
      (∀ a b, s.i3c.addr = some b → exec (.entdaa a) s = .next s) ∧
      (exec .rstdaa s = .next { s with i3c := { s.i3c with addr := none } }) ∧
      (∀ b, s.i3c.addr = some b →
        exec .getpid s = .next (i3cSays s (i3cPid s)) ∧ exec .getbcr s = .next (i3cSays s [0]) ∧ exec .getdcr s = .next (i3cSays s [0]) ∧
        exec .getmwl s = .next (i3cSays s [4, 4]) ∧ exec .getmrl s = .next (i3cSays s [4, 4]) ∧
        (∃ t, exec .getstatus s = .next t ∧ t.i3c.last.length = 2 ∧ { t with i3c := s.i3c, free := s.free } = s) ∧
        (∀ w d n off, w < 2 ^ 31 → off = w / 4 % 2 ^ 22 * 4 → d.length = 4 * n → n ≤ 256 → ∃ u t, exec (.i3cPrivateWrite (leBytes 4 w ++ d)) s = .next t ∧
          u = (List.range n).foldl (fun v k => settle (regWrite v ⟨3, 0x200⟩ ((off + 4 * k) % regSize) (BitVec.ofNat 32 (leAt d (4 * k) 4)))) s ∧
          t = { u with i3c := { u.i3c with off := (if n = 0 then off else (off + 4 * n) % regSize), boot := false } }) ∧
        (∀ w d n off, 2 ^ 31 ≤ w → w < 2 ^ 32 → off = w / 4 % 2 ^ 22 * 4 → d.length = 4 * n → n ≤ 256 → off + 4 * n ≤ 0x800000 → bootPhase s = 3 →
          ∃ t, exec (.i3cPrivateWrite (leBytes 4 w ++ d)) s = .next t ∧ spwRead t off (4 * n) = d ∧ (∀ a, a < off ∨ off + 4 * n ≤ a → spwGet t a = spwGet s a) ∧ t.i3c.boot = true ∧
            t.regs = s.regs) ∧
        (∀ n, ∃ t, exec (.i3cPrivateRead n) s = .next t ∧ t.i3c.last.length = min n 1028 ∧
          (4 ≤ n → s.i3c.boot = false → t.i3c.last.take 4 = leBytes 4 (regRead s ⟨3, 0x200⟩ s.i3c.off).2.toNat)))) ∧
    (leAt (i3cPid s).reverse 0 2 = (match s.tie with | some t => t.i3cInst | none => 0) % 16 * 4096 + 3 ∧ leAt (i3cPid s).reverse 2 2 = 0x4E32) ∧
    (exec .enec s = .next s ∧ exec .disec s = .next s) ∧
    (∃ t, exec .jtagTrst s = .next t ∧ t.tap.ir = 1 ∧ t.tap.drive = 0 ∧ t.tap.idr = tapIdcode s ∧ t.tap.opened = s.tap.opened ∧ { t with tap := s.tap } = s) ∧
    (exec .bypass s = .next { s with tap := { s.tap with ir := 0xFF, drive := 0 } } ∧
      exec .idcode s = .next { s with tap := { s.tap with ir := 1, drive := 0, idr := tapIdcode s } } ∧ exec .clamp s = .next { s with tap := { s.tap with ir := 4, drive := 2 } } ∧
      exec .highz s = .next { s with tap := { s.tap with ir := 5, drive := 3 } }) ∧
    (∀ b, exec (.samplePreload b) s = .next { s with tap := { s.tap with ir := 2, drive := 0, bsr := b } } ∧ exec (.extest b) s = .next { s with tap := { s.tap with ir := 3, drive := 1, bsr := b } }) ∧
    (s.on GLB_LOCK.TEST = true → ∀ w b, exec (.wir w) s = .next { s with tap := { s.tap with ir := 0xFF, drive := 0 } } ∧ exec (.wdr b) s = .next { s with tap := { s.tap with ir := 0xFF, drive := 0 } }) ∧
    (s.on GLB_LOCK.TEST = false → ∀ w b,
      (s.tap.opened = true → exec (.wir w) s = .next { s with tap := { s.tap with ir := 0x10, drive := 0, wir := w } } ∧ exec (.wdr b) s = .next { s with tap := { s.tap with ir := 0x11, drive := 0, wdr := b } }) ∧
      (s.tap.opened = false → (∃ t, exec (.wir w) s = .next t ∧ t.tap.opened = true ∧ t.tap.wir = w ∧ t.sec.cs = none ∧ t.sec.kwk = [] ∧ t.sec.ek = [] ∧ Pends t 4) ∧
        ∃ t, exec (.wdr b) s = .next t ∧ t.tap.opened = true ∧ t.tap.wdr = b ∧ t.sec.cs = none ∧ t.sec.kwk = [] ∧ t.sec.ek = [] ∧ Pends t 4))
end

