-- ==== Sys2Proof/Laws/Tab.lean ====
section
/-! SUPPORT. Reading after writing a table, and the canonical form that every operation of the scratchpad keeps. -/

namespace Sys2Proof.Laws

open Sys2Proof Sys2Proof.Machine

variable {α : Type}

theorem tabGet_tabPut_same (d v : α) (k : Nat) (t : Tab α) : tabGet d k (tabPut k v t) = v := by
  induction t with
  | nil => simp [tabPut, tabGet]
  | cons p r ih =>
    obtain ⟨j, w⟩ := p
    simp only [tabPut]
    split
    · simp [tabGet]
    · split
      · simp [tabGet]
      · have h : j ≠ k := fun e => ‹¬k = j› e.symm
        simp [tabGet, h, ih]

theorem tabGet_tabPut_other (d v : α) {k i : Nat} (h : i ≠ k) (t : Tab α) : tabGet d i (tabPut k v t) = tabGet d i t := by
  induction t with
  | nil => simp [tabPut, tabGet, h.symm]
  | cons p r ih =>
    obtain ⟨j, w⟩ := p
    simp only [tabPut]
    split
    · simp [tabGet, h.symm]
    · split
      · rename_i e
        subst e
        simp [tabGet, h.symm]
      · simp [tabGet, ih]

theorem tabGet_tabDel_same (d : α) (k : Nat) (t : Tab α) : tabGet d k (tabDel k t) = d := by
  induction t with
  | nil => rfl
  | cons p r ih =>
    obtain ⟨j, w⟩ := p
    simp only [tabDel]
    split
    · exact ih
    · simp [tabGet, *]

theorem tabGet_tabDel_other (d : α) {k i : Nat} (h : i ≠ k) (t : Tab α) : tabGet d i (tabDel k t) = tabGet d i t := by
  induction t with
  | nil => rfl
  | cons p r ih =>
    obtain ⟨j, w⟩ := p
    simp only [tabDel]
    split
    · rename_i e
      simp [tabGet, ih, e, h.symm]
    · simp [tabGet, ih]

/-- What was written is read. -/
@[simp] theorem tabGet_tabSet_same [DecidableEq α] (d v : α) (k : Nat) (t : Tab α) : tabGet d k (tabSet d k v t) = v := by
  unfold tabSet
  split
  · simp [tabGet_tabDel_same, *]
  · exact tabGet_tabPut_same d v k t

/-- Every other index is left alone. -/
theorem tabGet_tabSet_other [DecidableEq α] (d e v : α) {k i : Nat} (h : i ≠ k) (t : Tab α) : tabGet d i (tabSet e k v t) = tabGet d i t := by
  unfold tabSet
  split
  · exact tabGet_tabDel_other d h t
  · exact tabGet_tabPut_other d v h t

theorem tabFind_tabPut_same (v : α) (k : Nat) (t : Tab α) : tabFind k (tabPut k v t) = some v := by
  induction t with
  | nil => simp [tabPut, tabFind]
  | cons p r ih =>
    obtain ⟨j, w⟩ := p
    simp only [tabPut]
    split
    · simp [tabFind]
    · split
      · simp [tabFind]
      · have h : j ≠ k := fun e => ‹¬k = j› e.symm
        simp [tabFind, h, ih]

/-! ### The canonical form -/

theorem tabAbove_mono {b c : Nat} (h : b ≤ c) (t : Tab α) (w : tabAbove c t = true) : tabAbove b t = true := by
  cases t with
  | nil => rfl
  | cons p r =>
    obtain ⟨j, v⟩ := p
    simp only [tabAbove, Bool.and_eq_true, decide_eq_true_eq] at w ⊢
    exact ⟨Nat.le_trans h w.1, w.2⟩

theorem tabAbove_tabPut (k : Nat) (v : α) (t : Tab α) : ∀ b, b ≤ k → tabAbove b t = true → tabAbove b (tabPut k v t) = true := by
  induction t with
  | nil => intro b h _; simp [tabPut, tabAbove, h]
  | cons p r ih =>
    obtain ⟨j, w⟩ := p
    intro b h a
    simp only [tabAbove, Bool.and_eq_true, decide_eq_true_eq] at a
    simp only [tabPut]
    split
    · rename_i e
      simp only [tabAbove, Bool.and_eq_true, decide_eq_true_eq]
      exact ⟨h, by omega, a.2⟩
    · split
      · rename_i e
        subst e
        simp only [tabAbove, Bool.and_eq_true, decide_eq_true_eq]
        exact ⟨h, a.2⟩
      · simp only [tabAbove, Bool.and_eq_true, decide_eq_true_eq]
        exact ⟨a.1, ih (j + 1) (by omega) a.2⟩

theorem tabAbove_filter (f : Nat × α → Bool) (t : Tab α) : ∀ b, tabAbove b t = true → tabAbove b (t.filter f) = true := by
  induction t with
  | nil => intro b _; rfl
  | cons p r ih =>
    obtain ⟨j, w⟩ := p
    intro b a
    simp only [tabAbove, Bool.and_eq_true, decide_eq_true_eq] at a
    by_cases e : f (j, w) = true
    · simp only [List.filter_cons, e, ite_true, tabAbove, Bool.and_eq_true, decide_eq_true_eq]
      exact ⟨a.1, ih _ a.2⟩
    · simp only [List.filter_cons, e]
      exact tabAbove_mono (by omega) _ (ih _ a.2)

theorem tabDel_eq_filter (k : Nat) (t : Tab α) : tabDel k t = t.filter (fun p => p.1 ≠ k) := by
  induction t with
  | nil => rfl
  | cons p r ih =>
    obtain ⟨j, w⟩ := p
    simp only [tabDel]
    split <;> simp [*]

theorem mem_tabPut {k : Nat} {v : α} {t : Tab α} {q : Nat × α} (h : q ∈ tabPut k v t) : q = (k, v) ∨ q ∈ t := by
  induction t with
  | nil => simpa [tabPut] using h
  | cons p r ih =>
    obtain ⟨j, w⟩ := p
    simp only [tabPut] at h
    split at h
    · simpa using h
    · split at h
      · rcases List.mem_cons.1 h with e | e
        · exact .inl e
        · exact .inr (List.mem_cons_of_mem _ e)
      · rcases List.mem_cons.1 h with e | e
        · exact .inr (by simp [e])
        · rcases ih e with e | e
          · exact .inl e
          · exact .inr (List.mem_cons_of_mem _ e)

/-- Writing a table keeps its canonical form. -/
theorem tabWf_tabSet [DecidableEq α] (d v : α) (k : Nat) (t : Tab α) (h : tabWf d t = true) : tabWf d (tabSet d k v t) = true := by
  simp only [tabWf, Bool.and_eq_true, List.all_eq_true, decide_eq_true_eq] at h ⊢
  unfold tabSet
  split
  · rw [tabDel_eq_filter]
    exact ⟨tabAbove_filter _ t 0 h.1, fun q m => h.2 q ((List.mem_filter.1 m).1)⟩
  · rename_i e
    refine ⟨tabAbove_tabPut k v t 0 (Nat.zero_le _) h.1, fun q m => ?_⟩
    rcases mem_tabPut m with rfl | m
    · exact e
    · exact h.2 q m

/-! ### The scratchpad -/

theorem spwPut_wf (d : List Byte) : ∀ (m : List Host.Cell) (a : Nat), Memory.wf m = true → Memory.wf (spwPut m a d) = true := by
  induction d with
  | nil => intro m a h; exact h
  | cons b r ih => intro m a h; exact ih _ _ (tabWf_tabSet 0 b a m h)

/-- A write of the scratchpad keeps its canonical form. -/
theorem spwWrite_wf (s : State) (a : Nat) (d : List Byte) (h : Memory.wf s.xf.spw = true) : Memory.wf (spwWrite s a d).xf.spw = true :=
  spwPut_wf d _ a h

/-- Zeroising a range of the scratchpad keeps its canonical form. -/
theorem spwZero_wf (s : State) (a n : Nat) (h : Memory.wf s.xf.spw = true) : Memory.wf (spwZero s a n).xf.spw = true := by
  simp only [Memory.wf, tabWf, Bool.and_eq_true, List.all_eq_true, spwZero] at h ⊢
  exact ⟨tabAbove_filter _ _ 0 h.1, fun q m => h.2 q ((List.mem_filter.1 m).1)⟩

/-- The scratchpad at reset is canonical. -/
theorem reset_spw_wf : Memory.wf State.reset.xf.spw = true := rfl

/-! ### Registers -/

/-- A register reads what was placed in it. -/
@[simp] theorem rg_setRg (s : State) (r : RegName) (v : W32) (i j : Nat) : (s.setRg r v i j).rg r i j = v := by
  simp [State.rg, State.setRg, persona]

/-- Placing a value in a register leaves the registers at other offsets alone. -/
theorem rg_setRg_other (s : State) (r q : RegName) (v : W32) (i j a b : Nat) (h : regOff q a b ≠ regOff r i j) :
    (s.setRg r v i j).rg q a b = s.rg q a b := by
  exact tabGet_tabSet_other _ _ _ h _

end Sys2Proof.Laws
end

