-- ==== Sys2Proof/Laws/Watch.lean ====
section
/-! SUPPORT. Tracing, counting, raising a fault source and capturing an access error change what watches the block and nothing else: one lemma
for each of these operations. -/

namespace Sys2Proof.Machine

open Sys2Proof Sys2Proof.Laws

variable {p q : Nat → Bool} {s t u : State}

theorem Watched.refl (p : Nat → Bool) (s : State) : Watched p s s := ⟨fun _ _ _ => rfl, rfl⟩

theorem Watched.trans (h : Watched p s t) (g : Watched p t u) : Watched p s u := by
  exact ⟨fun d k e => (g.1 d k e).trans (h.1 d k e), g.2.trans h.2⟩

theorem Watched.mono (h : Watched p s t) (i : ∀ k, p k = true → q k = true) : Watched q s t := by
  refine ⟨fun d k e => h.1 d k ?_, h.2⟩
  cases e2 : p k
  · rfl
  · rw [i k e2] at e; cases e

theorem Watched.foldl {α : Type} (f : State → α → State) (h : ∀ s x, Watched p s (f s x)) (l : List α) :
    ∀ s, Watched p s (l.foldl f s) := by
  induction l with
  | nil => intro s; exact Watched.refl p s
  | cons x r ih => intro s; exact (h s x).trans (ih (f s x))

theorem Watched.ite {c : Prop} [Decidable c] (h : Watched p s t) (g : Watched p s u) : Watched p s (if c then t else u) := by
  split <;> assumption

/-- What a watched state keeps. -/
theorem Watched.persona (h : Watched p s t) : persona t = persona s := by
  have e : t.tie = s.tie := by have e := congrArg State.tie h.2; exact e
  simp [Machine.persona, e]

theorem Watched.prog (h : Watched p s t) : t.prog = s.prog := by have e := congrArg State.prog h.2; exact e
theorem Watched.xf (h : Watched p s t) : t.xf = s.xf := by have e := congrArg State.xf h.2; exact e
theorem Watched.net (h : Watched p s t) : t.net = s.net := by have e := congrArg State.net h.2; exact e
theorem Watched.tim (h : Watched p s t) : t.tim = s.tim := by have e := congrArg State.tim h.2; exact e
theorem Watched.pending (h : Watched p s t) : t.pending = s.pending := by have e := congrArg State.pending h.2; exact e

/-- A register whose offset lies outside p is the same. -/
theorem Watched.rg (h : Watched p s t) (r : RegName) (i j : Nat) (e : p (regOff r i j) = false) : t.rg r i j = s.rg r i j := by
  unfold State.rg
  rw [h.persona]
  exact h.1 _ _ e

theorem Watched.get (h : Watched p s t) (f : Fld) (i j : Nat) (e : p (regOff f.reg i j) = false) : t.get f i j = s.get f i j := by
  unfold State.get
  rw [h.rg _ _ _ e]

theorem watched_setRg (s : State) (r : RegName) (v : W32) (i j : Nat) (e : p (regOff r i j) = true) : Watched p s (s.setRg r v i j) := by
  refine ⟨fun d k h => ?_, rfl⟩
  apply tabGet_tabSet_other
  intro c
  rw [c, e] at h
  cases h

theorem watched_put (s : State) (f : Fld) (v i j : Nat) (e : p (regOff f.reg i j) = true) : Watched p s (s.put f v i j) := watched_setRg s _ _ i j e

theorem watched_setTrc (s : State) (u : Nat) (t : Trc) : Watched p s (setTrc s u t) := ⟨fun _ _ _ => rfl, rfl⟩

theorem Watched.foldl_mem {α : Type} (f : State → α → State) (l : List α) : ∀ s, (∀ s x, x ∈ l → Watched p s (f s x)) →
    Watched p s (l.foldl f s) := by
  induction l with
  | nil => intro s _; exact Watched.refl p s
  | cons x r ih => intro s h; exact (h s x (by simp)).trans (ih (f s x) (fun s y m => h s y (by simp [m])))

/-- An offset of an observation register of a unit. -/
theorem obsOff_of (r : RegName) (i j : Nat) (a : 0x700000 ≤ regOff r i j) (b : regOff r i j < 0x780300) : obsOff (regOff r i j) = true := by
  simp [obsOff, a, b]

theorem watched_obs (s : State) (o : Obs) : Watched p s { s with obs := o } := ⟨fun _ _ _ => rfl, rfl⟩
theorem watched_gap (s : State) (b : Bool) : Watched p s { s with clk := { s.clk with gapCore := b } } := ⟨fun _ _ _ => rfl, rfl⟩

/-! ### Offsets -/

theorem off_trcLost {u : Nat} (h : u < 4) : obsOff (regOff .OBS_TRC_LOST u 0) = true := by
  have e : regOff .OBS_TRC_LOST u 0 = 0x70441C + 0x40 * u := rfl
  rw [e]; simp [obsOff]; omega

theorem off_trcStatus {u : Nat} (h : u < 4) : obsOff (regOff .OBS_TRC_STATUS u 0) = true := by
  have e : regOff .OBS_TRC_STATUS u 0 = 0x704418 + 0x40 * u := rfl
  rw [e]; simp [obsOff]; omega

theorem off_ctr {i j : Nat} (h : i < 256) (g : j < 2) : obsOff (regOff .OBS_CTR i j) = true := by
  have e : regOff .OBS_CTR i j = 0x702000 + 8 * i + 4 * j := rfl
  rw [e]; simp [obsOff]; omega

theorem off_pend {i : Nat} (h : i < 4) : obsOff (regOff .FLT_PEND i 0) = true := by
  have e : regOff .FLT_PEND i 0 = 0x780200 + 4 * i := rfl
  rw [e]; simp [obsOff]; omega

theorem off_sev {i : Nat} (h : i < 128) : obsOff (regOff .FLT_SEV i 0) = true := by
  have e : regOff .FLT_SEV i 0 = 0x780000 + 4 * i := rfl
  rw [e]; simp [obsOff]; omega

/-! ### Trace units -/

theorem watched_trcLose (s : State) (u : Nat) (h : u < 4) : Watched obsOff s (trcLose s u) :=
  (watched_setTrc s u _).trans (watched_put _ _ _ _ _ (off_trcLost h))

theorem watched_putHeld (s : State) (u : Nat) (h : u < 4) : Watched obsOff s (putHeld s u) :=
  watched_put _ _ _ _ _ (off_trcStatus h)

theorem watched_trcStore (s : State) (u : Nat) (r : TrcRec) (h : u < 4) : Watched obsOff s (trcStore s u r) := by
  have a := fun s x => watched_setTrc (p := obsOff) s u x
  have b := fun s => watched_trcLose s u h
  unfold trcStore
  dsimp only
  split
  · split
    · exact ((a _ _).trans (b _)).trans (a _ _)
    · exact a _ _
  · split
    · split
      · exact b _
      · exact a _ _
    · split
      · split
        · exact (a _ _).trans (b _)
        · exact ((a _ _).trans (b _)).trans (a _ _)
      · exact a _ _
  · split <;> exact a _ _

theorem watched_trcLostDue (s : State) (u : Nat) (b : Bool) (h : u < 4) : Watched obsOff s (trcLostDue s u b) := by
  unfold trcLostDue
  dsimp only
  split
  · exact Watched.refl _ _
  · split
    · exact (watched_setTrc s u _).trans (watched_trcStore _ u _ h)
    · exact Watched.refl _ _

theorem watched_trcSnap (s : State) (u : Nat) (h : u < 4) : Watched obsOff s (trcSnap s u) := by
  have a := fun s x => watched_setTrc (p := obsOff) s u x
  have b : ∀ s f v, f.reg = .OBS_TRC_STATUS → Watched obsOff s (s.put f v u) := fun s f v e =>
    watched_put s f v u 0 (by rw [e]; exact off_trcStatus h)
  unfold trcSnap
  dsimp only
  split
  · exact Watched.refl _ _
  · split <;> split
    · exact b _ _ _ rfl
    · exact ((a _ _).trans (b _ _ _ rfl)).trans (watched_putHeld _ u h)
    · exact b _ _ _ rfl
    · exact ((a _ _).trans (b _ _ _ rfl)).trans (watched_putHeld _ u h)

theorem watched_trcFireOne (s : State) (u : Nat) (h : u < 4) : Watched obsOff s (trcFireOne s u) := by
  unfold trcFireOne
  dsimp only
  split
  · exact Watched.refl _ _
  · split
    · exact (watched_setTrc s u _).trans (watched_trcSnap _ u h)
    · exact (watched_setTrc s u _).trans (watched_put _ _ _ _ _ (off_trcStatus h))

theorem watched_trcFire (n : Nat) : ∀ (s : State) (u : Nat), u < 4 → Watched obsOff s (trcFire n s u) := by
  induction n with
  | zero => intro s u _; exact Watched.refl _ _
  | succ n ih =>
    intro s u h
    unfold trcFire
    dsimp only
    split
    · exact Watched.refl _ _
    · refine (watched_trcFireOne s u h).trans (Watched.foldl_mem _ _ _ (fun s v m => ?_))
      split
      · exact ih s v (by simp at m; omega)
      · exact Watched.refl _ _

theorem watched_trcOffer (s : State) (a b : Nat) : Watched obsOff s (trcOffer s a b) := by
  unfold trcOffer
  refine Watched.foldl_mem _ _ _ (fun s v m => ?_)
  split
  · exact watched_trcFire 4 s v (by simp at m; omega)
  · exact Watched.refl _ _

theorem watched_trcTake (s : State) (u k : Nat) (r : TrcRec) (h : u < 4) : Watched obsOff s (trcTake s u k r) := by
  unfold trcTake
  dsimp only
  split
  · exact Watched.refl _ _
  · split
    · exact watched_trcLose s u h
    · refine Watched.trans ?_ (watched_putHeld _ u h)
      refine Watched.trans ?_ (watched_trcLostDue _ u false h)
      refine Watched.trans ?_ (watched_trcStore _ u _ h)
      refine Watched.trans ?_ (watched_setTrc _ u _)
      refine Watched.trans ?_ (watched_trcLostDue _ u true h)
      exact (watched_setTrc s u { trcOf s u with cycle := some s.clk.cclk }).trans (Watched.ite (watched_trcFire 4 _ u h) (Watched.refl _ _))

/-- An event of a trace source is recorded and nothing else. -/
theorem watched_traceEv (s : State) (src evt ten tag : Nat) (port : Option Nat) (d : List Byte) :
    Watched obsOff s (traceEv s src evt ten tag port d) := by
  unfold traceEv
  dsimp only
  have h : ∀ r, Watched obsOff s ([0, 1, 2, 3].foldl (fun acc u =>
      if trcLive acc u && trcPasses acc u src ten tag port then trcTake acc u (src + 16 * evt) r else acc) s) := by
    intro r
    refine Watched.foldl_mem _ _ _ (fun s v m => ?_)
    split
    · exact watched_trcTake s v _ _ (by simp at m; omega)
    · exact Watched.refl _ _
  split
  · exact (h _).trans (watched_gap _ _)
  · exact h _

/-! ### Counters -/

theorem watched_put64 (s : State) (r : RegName) (i v : Nat) (a : obsOff (regOff r i 0) = true) (b : obsOff (regOff r i 1) = true) :
    Watched obsOff s (s.put64 r i v) :=
  (watched_setRg s r _ i 0 a).trans (watched_setRg _ r _ i 1 b)

theorem watched_addPair (s : State) (r : RegName) (n : Nat) (a : obsOff (regOff r 0 0) = true) (b : obsOff (regOff r 1 0) = true) :
    Watched obsOff s (s.addPair r n) :=
  (watched_setRg s r _ 0 0 a).trans (watched_setRg _ r _ 1 0 b)

theorem ctrLive_lt (s : State) (i : Nat) (h : i ∈ ctrLive s) : i < 256 := by
  simp only [ctrLive, List.mem_filterMap] at h
  obtain ⟨q, _, e⟩ := h
  split at e
  · rename_i c
    simp only [regOff, regDesc, Option.some.injEq] at c e
    omega
  · cases e

/-- An event is counted and nothing else. -/
theorem watched_count (s : State) (ev pa pb : Nat) (ten tag : Option Nat) (unit : Nat × Nat) (n : Nat) :
    Watched obsOff s (count s ev pa pb ten tag unit n) := by
  unfold count
  have key : ∀ l : List Nat, (∀ i ∈ l, i < 256) → ∀ s, Watched obsOff s (l.foldl (fun acc i =>
      if ctrMatch acc i ev pa pb ten tag unit then acc.put64 .OBS_CTR i (acc.get64 .OBS_CTR i + n) else acc) s) := by
    intro l hl s
    refine Watched.foldl_mem _ _ _ (fun s v m => ?_)
    have := hl v m
    split
    · exact watched_put64 s _ v _ (off_ctr (by omega) (by omega)) (off_ctr (by omega) (by omega))
    · exact Watched.refl _ _
  exact key _ (fun i m => ctrLive_lt s i m) s

theorem watched_census (s : State) (k ten tag n : Nat) (h : k < 64) : Watched obsOff s (census s k ten tag n) := by
  unfold census
  dsimp only
  split
  · exact Watched.refl _ _
  · split
    · have b : s.get OBS_CENSUS_CFG.BASE < 4 := by
        have e : s.get OBS_CENSUS_CFG.BASE = bits (s.rg .OBS_CENSUS_CFG 0 0).toNat 0 2 := rfl
        rw [e, bits]
        exact Nat.mod_lt _ (by decide)
      exact watched_put64 s _ _ _ (off_ctr (by omega) (by omega)) (off_ctr (by omega) (by omega))
    · exact Watched.refl _ _

/-! ### Faults -/

theorem watched_fltCapture (s : State) (src : Nat) : Watched obsOff s (fltCapture s src) := by
  have b : ∀ s f v, f.reg = .FLT_FIRST → Watched obsOff s (s.put f v) := fun s f v e =>
    watched_put s f v 0 0 (by rw [e]; rfl)
  unfold fltCapture
  dsimp only
  exact ((((b _ _ _ rfl).trans (b _ _ _ rfl)).trans (b _ _ _ rfl)).trans (b _ _ _ rfl)).trans
    ((watched_setRg _ _ _ 0 0 rfl).trans (watched_setRg _ _ _ 1 0 rfl))

/-- Raising a source of the fault table is recorded in the fault registers and the trace and nowhere else. -/
theorem watched_raise (s : State) (src : Nat) (h : src < 128) : Watched obsOff s (raise s src) := by
  unfold raise
  dsimp only
  have one : Watched obsOff s ((s.setRg .FLT_PEND (BitVec.ofNat 32 (maskSet (s.rg .FLT_PEND (src / 32)).toNat (src % 32))) (src / 32)).incSat FLT_SEV.COUNT src) :=
    (watched_setRg s _ _ _ _ (off_pend (by omega))).trans
      (watched_put _ _ _ _ _ (off_sev h))
  have b : ∀ s f v, f.reg = .FLT_FIRST → Watched obsOff s (s.put f v) := fun s f v e =>
    watched_put s f v 0 0 (by rw [e]; rfl)
  refine Watched.trans ?_ (watched_trcOffer _ _ _)
  refine Watched.trans ?_ (watched_traceEv _ _ _ _ _ _ _)
  refine one.trans ?_
  split
  · exact Watched.refl _ _
  · split
    · exact (watched_fltCapture _ src).trans (watched_obs _ _)
    · split
      · exact (b _ _ _ rfl).trans (watched_fltCapture _ src)
      · exact b _ _ _ rfl

/-- Offsets of what an access error changes. -/
theorem obs_err {k : Nat} (h : obsOff k = true) : (fun k => obsOff k || errOff k) k = true := by simp [h]

/-- An access error is recorded in its registers, the fault registers and the trace and nowhere else. -/
theorem watched_accErr (s : State) (a : AccInfo) (f : Fld) (h : f.reg = .GLB_ACCESS_ERR) :
    Watched (fun k => obsOff k || errOff k) s (accErr s a f) := by
  have b : ∀ s f v, (f.reg = .GLB_ACCESS_ERR ∨ f.reg = .GLB_ACCESS_ERR_INFO ∨ f.reg = .GLB_ACCESS_ERR_DOM) →
      Watched (fun k => obsOff k || errOff k) s (s.put f v) := fun s f v e =>
    watched_put s f v 0 0 (by rcases e with e | e | e <;> (rw [e]; rfl))
  unfold accErr
  dsimp only
  refine Watched.trans ?_ ((watched_raise _ 11 (by omega)).mono (fun k e => obs_err e))
  refine (b s f 1 (.inl h)).trans ?_
  split
  · exact Watched.refl _ _
  · exact ((((((b _ _ _ (.inr (.inl rfl))).trans (b _ _ _ (.inr (.inl rfl)))).trans (b _ _ _ (.inr (.inl rfl)))).trans (b _ _ _ (.inr (.inl rfl)))).trans
      (b _ _ _ (.inr (.inl rfl)))).trans (b _ _ _ (.inr (.inr rfl))))

end Sys2Proof.Machine
end

