-- ==== Sys2Proof/Laws/Floug.lean ====
section
/-! SUPPORT. The issue of an instruction and the step to the next word: what each leaves alone, so that the meaning of an instruction is read
without unfolding them. -/

namespace Sys2Proof.Machine

open Sys2Proof Sys2Proof.Laws

variable {s t u : State} {c : Nat}

@[simp] theorem ctxOf_updCtx_same (s : State) (c : Nat) (f : Ctx → Ctx) : ctxOf (updCtx s c f) c = f (ctxOf s c) := by
  simp [ctxOf, updCtx, setCtx]

theorem ctxOf_updCtx_other (s : State) {c d : Nat} (f : Ctx → Ctx) (h : d ≠ c) : ctxOf (updCtx s c f) d = ctxOf s d :=
  tabGet_tabSet_other _ _ _ h _

theorem ctxOf_prog (h : t.prog = s.prog) (c : Nat) : ctxOf t c = ctxOf s c := by simp [ctxOf, h]

theorem OnlyCtx.refl (s : State) (c : Nat) : OnlyCtx s s c := ⟨fun _ _ _ => rfl, rfl, rfl, fun _ _ => rfl⟩

theorem OnlyCtx.trans (h : OnlyCtx s t c) (g : OnlyCtx t u c) : OnlyCtx s u c := by
  obtain ⟨h1, h2, h3, h4⟩ := h
  obtain ⟨g1, g2, g3, g4⟩ := g
  refine ⟨fun d k e => (g1 d k e).trans (h1 d k e), ?_, ?_, fun c' n => (g4 c' n).trans (h4 c' n)⟩
  · have a : unwatched { u with prog := s.prog, bnd := s.bnd } = { unwatched { u with prog := t.prog, bnd := t.bnd } with prog := s.prog, bnd := s.bnd } := rfl
    have b : unwatched { t with prog := s.prog, bnd := s.bnd } = { unwatched t with prog := s.prog, bnd := s.bnd } := rfl
    rw [a, g2, ← b, h2]
  · have a : ({ u.prog with ctx := s.prog.ctx } : Prog) = { ({ u.prog with ctx := t.prog.ctx } : Prog) with ctx := s.prog.ctx } := rfl
    rw [a, g3, h3]

theorem Watched.onlyCtx (h : Watched obsOff s t) (c : Nat) : OnlyCtx s t c := by
  refine ⟨h.1, ?_, by rw [h.prog], fun c' _ => ctxOf_prog h.prog c'⟩
  have a : unwatched { t with prog := s.prog, bnd := s.bnd } = { unwatched t with prog := s.prog, bnd := s.bnd } := rfl
  rw [a, h.2]
  rfl

theorem onlyCtx_updCtx (s : State) (c : Nat) (f : Ctx → Ctx) : OnlyCtx s (updCtx s c f) c :=
  ⟨fun _ _ _ => rfl, rfl, rfl, fun _ h => ctxOf_updCtx_other s f h⟩

theorem onlyCtx_updCmd (s : State) (c k : Nat) (f : Cmd → Cmd) : OnlyCtx s (updCmd s c k f) c := onlyCtx_updCtx s c _

theorem onlyCtx_bnd (s : State) (c : Nat) (b : Bnd) : OnlyCtx s { s with bnd := b } c := ⟨fun _ _ _ => rfl, rfl, rfl, fun _ _ => rfl⟩

/-! ### Register files and what else a context keeps -/

theorem FilesKept.refl (x : Ctx) : FilesKept x x := ⟨rfl, rfl, rfl⟩
theorem FilesKept.trans {x y z : Ctx} (h : FilesKept x y) (g : FilesKept y z) : FilesKept x z :=
  ⟨g.1.trans h.1, g.2.1.trans h.2.1, g.2.2.trans h.2.2⟩

theorem FilesKept.gReg {x y : Ctx} (h : FilesKept x y) (r : Nat) : gReg y r = gReg x r := by simp [Machine.gReg, h.1]
theorem FilesKept.dReg {x y : Ctx} (h : FilesKept x y) (r : Nat) : dReg y r = dReg x r := by simp [Machine.dReg, h.2.1]
theorem FilesKept.pReg {x y : Ctx} (h : FilesKept x y) (r : Nat) : pReg y r = pReg x r := by simp [Machine.pReg, h.2.2]

theorem filesKept_ctx (h : ctxOf t c = ctxOf s c) : FilesKept (ctxOf s c) (ctxOf t c) := by rw [h]; exact FilesKept.refl _

/-! ### Issue -/

/-- The context that an issue leaves: the cycle of its next issue, no stall, its command started. -/
theorem ctxOf_countIssue (s : State) (c : Nat) (w : W64) :
    (ctxOf (countIssue s c w) c).g = (ctxOf s c).g ∧ (ctxOf (countIssue s c w) c).d = (ctxOf s c).d ∧
    (ctxOf (countIssue s c w) c).p = (ctxOf s c).p ∧ (ctxOf (countIssue s c w) c).pc = (ctxOf s c).pc ∧
    (ctxOf (countIssue s c w) c).cur = (ctxOf s c).cur ∧ (ctxOf (countIssue s c w) c).wait = (ctxOf s c).wait ∧
    (ctxOf (countIssue s c w) c).region = (ctxOf s c).region ∧ (ctxOf (countIssue s c w) c).stack = (ctxOf s c).stack ∧
    (ctxOf (countIssue s c w) c).ten = (ctxOf s c).ten ∧ (ctxOf (countIssue s c w) c).pendG = (ctxOf s c).pendG ∧
    (ctxOf (countIssue s c w) c).pendD = (ctxOf s c).pendD := by
  have h : Watched obsOff s (traceEv (count (s.addPair .OBS_ISSUE 1) 3 (c / 32) 255 (some (ctxTen s c)) (some (curTag s c)) (6, c)) 3 0
      (ctxTen s c) (curTag s c) none (leBytes 2 c ++ leBytes 2
        (here s c) ++ leBytes 8 w.toNat)) :=
    ((watched_addPair s _ _ rfl rfl).trans (watched_count _ _ _ _ _ _ _ _)).trans (watched_traceEv _ _ _ _ _ _ _)
  have e := ctxOf_prog h.prog c
  unfold countIssue
  dsimp only
  rw [ctxOf_updCtx_same]
  dsimp only
  split
  · rw [updCmd, ctxOf_updCtx_same]
    dsimp only
    rw [e]
    simp
  · rw [e]
    simp

/-- An issue changes its context and what watches the block. -/
theorem onlyCtx_countIssue (s : State) (c : Nat) (w : W64) : OnlyCtx s (countIssue s c w) c := by
  unfold countIssue
  dsimp only
  refine OnlyCtx.trans ?_ (onlyCtx_updCtx _ c _)
  refine OnlyCtx.trans (t := traceEv (count (s.addPair .OBS_ISSUE 1) 3 (c / 32) 255 (some (ctxTen s c)) (some (curTag s c)) (6, c)) 3 0
      (ctxTen s c) (curTag s c) none (leBytes 2 c ++ leBytes 2
        (here s c) ++ leBytes 8 w.toNat)) ?_ ?_
  · exact (((watched_addPair s _ _ rfl rfl).trans (watched_count _ _ _ _ _ _ _ _)).trans (watched_traceEv _ _ _ _ _ _ _)).onlyCtx c
  · split
    · exact onlyCtx_updCmd _ _ _ _
    · exact OnlyCtx.refl _ _

/-- An instruction that issues does what its body does after the issue. -/
theorem issue_body (s : State) (c maj fn : Nat) (f : IFields) (m : Form) (body : State → State) (h : Issues s c f m = true) :
    issue s c maj fn f m false body = body (countIssue s c (encodeWord maj fn f)) := by
  simp only [Issues, Bool.and_eq_true, Bool.not_eq_true', Bool.or_eq_true, decide_eq_true_eq] at h
  obtain ⟨⟨⟨⟨⟨h1, h2⟩, h3⟩, h4⟩, h5⟩, h6⟩ := h
  unfold issue
  simp only [h1, h2, h3, h4, h5, Bool.not_true, Bool.false_eq_true, if_false, Bool.or_false]
  rw [if_neg]
  simp only [Bool.and_eq_true, decide_eq_true_eq, not_and, Nat.not_le]
  intro x
  rcases h6 with h6 | h6
  · rw [h6] at x; cases x
  · exact h6

/-! ### The next word -/

theorem onlyCtx_dropWait (s : State) (c : Nat) (h : (ctxOf s c).wait = none) : dropWait s c = s := by simp [dropWait, h]

theorem endExec_keeps (s : State) (c k : Nat) (h : (ctxOf s c).wait = none) :
    OnlyCtx s (endExec s c k) c ∧ FilesKept (ctxOf s c) (ctxOf (endExec s c k) c) := by
  unfold endExec
  dsimp only
  rw [onlyCtx_dropWait s c h, ite_self]
  have a : OnlyCtx s (dropLimits (updCmd s c k (fun m => { m with ended := true })) c k) c := (onlyCtx_updCmd s c k _).trans (onlyCtx_bnd _ c _)
  have b : FilesKept (ctxOf s c) (ctxOf (dropLimits (updCmd s c k (fun m => { m with ended := true })) c k) c) := by
    have e : ctxOf (dropLimits (updCmd s c k (fun m => { m with ended := true })) c k) c = ctxOf (updCmd s c k (fun m => { m with ended := true })) c := rfl
    rw [e, updCmd, ctxOf_updCtx_same]
    exact ⟨rfl, rfl, rfl⟩
  split
  · refine ⟨(a.trans (onlyCtx_updCtx _ c _)).trans (onlyCtx_updCtx _ c _), b.trans ?_⟩
    unfold beginNext
    rw [ctxOf_updCtx_same, ctxOf_updCtx_same]
    dsimp only
    split <;> exact ⟨rfl, rfl, rfl⟩
  · exact ⟨a, b⟩

theorem addStat_keeps (s : State) (c k : Nat) (st : Stat) (h : (ctxOf s c).wait = none) :
    OnlyCtx s (addStat s c k st) c ∧ FilesKept (ctxOf s c) (ctxOf (addStat s c k st) c) := by
  have a := onlyCtx_updCmd s c k (fun m => { m with stats := m.stats ++ [st] })
  have b : FilesKept (ctxOf s c) (ctxOf (updCmd s c k (fun m => { m with stats := m.stats ++ [st] })) c) := by
    rw [updCmd, ctxOf_updCtx_same]; exact ⟨rfl, rfl, rfl⟩
  have w : (ctxOf (updCmd s c k (fun m => { m with stats := m.stats ++ [st] })) c).wait = none := by
    rw [updCmd, ctxOf_updCtx_same]; exact h
  unfold addStat
  dsimp only
  split
  · split
    · split
      · exact ⟨a, b⟩
      · have e := endExec_keeps _ c k w
        exact ⟨a.trans e.1, b.trans e.2⟩
    · exact ⟨a, b⟩
  · exact ⟨a, b⟩

/-- The failure of the command that a context issues changes that context alone. -/
theorem failCur_keeps (s : State) (c : Nat) (st : Stat) (h : (ctxOf s c).wait = none) :
    OnlyCtx s (failCur s c st) c ∧ FilesKept (ctxOf s c) (ctxOf (failCur s c st) c) := by
  unfold failCur
  split
  · exact addStat_keeps s c _ st h
  · exact ⟨OnlyCtx.refl s c, FilesKept.refl _⟩

theorem lineDelay_keeps (s : State) (c : Nat) : OnlyCtx s (lineDelay s c) c ∧ FilesKept (ctxOf s c) (ctxOf (lineDelay s c) c) := by
  refine ⟨onlyCtx_updCtx s c _, ?_⟩
  unfold lineDelay
  rw [ctxOf_updCtx_same]
  split <;> exact ⟨rfl, rfl, rfl⟩

/-- Going on at the next word changes its context alone, and no register of its files. -/
theorem advance_keeps (s : State) (c : Nat) (ext : Bool) (h : (ctxOf s c).wait = none) :
    OnlyCtx s (advance s c ext) c ∧ FilesKept (ctxOf s c) (ctxOf (advance s c ext) c) := by
  unfold advance
  dsimp only
  split
  · exact ⟨OnlyCtx.refl s c, FilesKept.refl _⟩
  · split
    · split
      · exact failCur_keeps s c _ h
      · exact endExec_keeps s c _ h
    · rename_i k _ _
      have l := lineDelay_keeps (updCtx (updCmd s c k (fun m => { m with nextWord := ptIndex ⟨(ctxOf s c).pc.code, (ctxOf s c).pc.word + 1 + b2n ext⟩ })) c
        (fun y => { y with pc := ⟨y.pc.code, (ctxOf s c).pc.word + 1 + b2n ext⟩ })) c
      refine ⟨((onlyCtx_updCmd s c _ _).trans (onlyCtx_updCtx _ c _)).trans l.1, FilesKept.trans ?_ l.2⟩
      rw [ctxOf_updCtx_same, updCmd, ctxOf_updCtx_same]
      exact ⟨rfl, rfl, rfl⟩

end Sys2Proof.Machine
end

