-- ==== Sys2Proof/Laws/State.lean ====
section
/-! SUPPORT. What each named update of State leaves alone: one lemma for each other field, true by rfl, so that no later proof unfolds a record
update. -/

namespace Sys2Proof.Laws

open Sys2Proof Sys2Proof.Machine

variable (s : State)

@[simp] theorem setRg_tie (r : RegName) (v : W32) (i j : Nat) : (s.setRg r v i j).tie = s.tie := rfl
@[simp] theorem setRg_caps (r : RegName) (v : W32) (i j : Nat) : (s.setRg r v i j).caps = s.caps := rfl
@[simp] theorem setRg_clk (r : RegName) (v : W32) (i j : Nat) : (s.setRg r v i j).clk = s.clk := rfl
@[simp] theorem setRg_tim (r : RegName) (v : W32) (i j : Nat) : (s.setRg r v i j).tim = s.tim := rfl
@[simp] theorem setRg_acts (r : RegName) (v : W32) (i j : Nat) : (s.setRg r v i j).acts = s.acts := rfl
@[simp] theorem setRg_nextAct (r : RegName) (v : W32) (i j : Nat) : (s.setRg r v i j).nextAct = s.nextAct := rfl
@[simp] theorem setRg_views (r : RegName) (v : W32) (i j : Nat) : (s.setRg r v i j).views = s.views := rfl
@[simp] theorem setRg_viewDue (r : RegName) (v : W32) (i j : Nat) : (s.setRg r v i j).viewDue = s.viewDue := rfl
@[simp] theorem setRg_prog (r : RegName) (v : W32) (i j : Nat) : (s.setRg r v i j).prog = s.prog := rfl
@[simp] theorem setRg_xf (r : RegName) (v : W32) (i j : Nat) : (s.setRg r v i j).xf = s.xf := rfl
@[simp] theorem setRg_net (r : RegName) (v : W32) (i j : Nat) : (s.setRg r v i j).net = s.net := rfl
@[simp] theorem setRg_obs (r : RegName) (v : W32) (i j : Nat) : (s.setRg r v i j).obs = s.obs := rfl
@[simp] theorem setRg_boot (r : RegName) (v : W32) (i j : Nat) : (s.setRg r v i j).boot = s.boot := rfl
@[simp] theorem setRg_opt (r : RegName) (v : W32) (i j : Nat) : (s.setRg r v i j).opt = s.opt := rfl
@[simp] theorem setRg_sec (r : RegName) (v : W32) (i j : Nat) : (s.setRg r v i j).sec = s.sec := rfl
@[simp] theorem setRg_tap (r : RegName) (v : W32) (i j : Nat) : (s.setRg r v i j).tap = s.tap := rfl
@[simp] theorem setRg_i3c (r : RegName) (v : W32) (i j : Nat) : (s.setRg r v i j).i3c = s.i3c := rfl
@[simp] theorem setRg_kiln (r : RegName) (v : W32) (i j : Nat) : (s.setRg r v i j).kiln = s.kiln := rfl
@[simp] theorem setRg_bnd (r : RegName) (v : W32) (i j : Nat) : (s.setRg r v i j).bnd = s.bnd := rfl
@[simp] theorem setRg_rgAns (r : RegName) (v : W32) (i j : Nat) : (s.setRg r v i j).rgAns = s.rgAns := rfl
@[simp] theorem setRg_free (r : RegName) (v : W32) (i j : Nat) : (s.setRg r v i j).free = s.free := rfl
@[simp] theorem setRg_pending (r : RegName) (v : W32) (i j : Nat) : (s.setRg r v i j).pending = s.pending := rfl

@[simp] theorem put_tie (f : Fld) (v i j : Nat) : (s.put f v i j).tie = s.tie := rfl
@[simp] theorem put_caps (f : Fld) (v i j : Nat) : (s.put f v i j).caps = s.caps := rfl
@[simp] theorem put_clk (f : Fld) (v i j : Nat) : (s.put f v i j).clk = s.clk := rfl
@[simp] theorem put_tim (f : Fld) (v i j : Nat) : (s.put f v i j).tim = s.tim := rfl
@[simp] theorem put_acts (f : Fld) (v i j : Nat) : (s.put f v i j).acts = s.acts := rfl
@[simp] theorem put_nextAct (f : Fld) (v i j : Nat) : (s.put f v i j).nextAct = s.nextAct := rfl
@[simp] theorem put_views (f : Fld) (v i j : Nat) : (s.put f v i j).views = s.views := rfl
@[simp] theorem put_viewDue (f : Fld) (v i j : Nat) : (s.put f v i j).viewDue = s.viewDue := rfl
@[simp] theorem put_prog (f : Fld) (v i j : Nat) : (s.put f v i j).prog = s.prog := rfl
@[simp] theorem put_xf (f : Fld) (v i j : Nat) : (s.put f v i j).xf = s.xf := rfl
@[simp] theorem put_net (f : Fld) (v i j : Nat) : (s.put f v i j).net = s.net := rfl
@[simp] theorem put_obs (f : Fld) (v i j : Nat) : (s.put f v i j).obs = s.obs := rfl
@[simp] theorem put_boot (f : Fld) (v i j : Nat) : (s.put f v i j).boot = s.boot := rfl
@[simp] theorem put_opt (f : Fld) (v i j : Nat) : (s.put f v i j).opt = s.opt := rfl
@[simp] theorem put_sec (f : Fld) (v i j : Nat) : (s.put f v i j).sec = s.sec := rfl
@[simp] theorem put_tap (f : Fld) (v i j : Nat) : (s.put f v i j).tap = s.tap := rfl
@[simp] theorem put_i3c (f : Fld) (v i j : Nat) : (s.put f v i j).i3c = s.i3c := rfl
@[simp] theorem put_kiln (f : Fld) (v i j : Nat) : (s.put f v i j).kiln = s.kiln := rfl
@[simp] theorem put_bnd (f : Fld) (v i j : Nat) : (s.put f v i j).bnd = s.bnd := rfl
@[simp] theorem put_rgAns (f : Fld) (v i j : Nat) : (s.put f v i j).rgAns = s.rgAns := rfl
@[simp] theorem put_free (f : Fld) (v i j : Nat) : (s.put f v i j).free = s.free := rfl
@[simp] theorem put_pending (f : Fld) (v i j : Nat) : (s.put f v i j).pending = s.pending := rfl

@[simp] theorem inc_tie (f : Fld) (i j n : Nat) : (s.inc f i j n).tie = s.tie := rfl
@[simp] theorem inc_caps (f : Fld) (i j n : Nat) : (s.inc f i j n).caps = s.caps := rfl
@[simp] theorem inc_clk (f : Fld) (i j n : Nat) : (s.inc f i j n).clk = s.clk := rfl
@[simp] theorem inc_tim (f : Fld) (i j n : Nat) : (s.inc f i j n).tim = s.tim := rfl
@[simp] theorem inc_acts (f : Fld) (i j n : Nat) : (s.inc f i j n).acts = s.acts := rfl
@[simp] theorem inc_nextAct (f : Fld) (i j n : Nat) : (s.inc f i j n).nextAct = s.nextAct := rfl
@[simp] theorem inc_views (f : Fld) (i j n : Nat) : (s.inc f i j n).views = s.views := rfl
@[simp] theorem inc_viewDue (f : Fld) (i j n : Nat) : (s.inc f i j n).viewDue = s.viewDue := rfl
@[simp] theorem inc_prog (f : Fld) (i j n : Nat) : (s.inc f i j n).prog = s.prog := rfl
@[simp] theorem inc_xf (f : Fld) (i j n : Nat) : (s.inc f i j n).xf = s.xf := rfl
@[simp] theorem inc_net (f : Fld) (i j n : Nat) : (s.inc f i j n).net = s.net := rfl
@[simp] theorem inc_obs (f : Fld) (i j n : Nat) : (s.inc f i j n).obs = s.obs := rfl
@[simp] theorem inc_boot (f : Fld) (i j n : Nat) : (s.inc f i j n).boot = s.boot := rfl
@[simp] theorem inc_opt (f : Fld) (i j n : Nat) : (s.inc f i j n).opt = s.opt := rfl
@[simp] theorem inc_sec (f : Fld) (i j n : Nat) : (s.inc f i j n).sec = s.sec := rfl
@[simp] theorem inc_tap (f : Fld) (i j n : Nat) : (s.inc f i j n).tap = s.tap := rfl
@[simp] theorem inc_i3c (f : Fld) (i j n : Nat) : (s.inc f i j n).i3c = s.i3c := rfl
@[simp] theorem inc_kiln (f : Fld) (i j n : Nat) : (s.inc f i j n).kiln = s.kiln := rfl
@[simp] theorem inc_bnd (f : Fld) (i j n : Nat) : (s.inc f i j n).bnd = s.bnd := rfl
@[simp] theorem inc_rgAns (f : Fld) (i j n : Nat) : (s.inc f i j n).rgAns = s.rgAns := rfl
@[simp] theorem inc_free (f : Fld) (i j n : Nat) : (s.inc f i j n).free = s.free := rfl
@[simp] theorem inc_pending (f : Fld) (i j n : Nat) : (s.inc f i j n).pending = s.pending := rfl

@[simp] theorem incSat_tie (f : Fld) (i j n : Nat) : (s.incSat f i j n).tie = s.tie := rfl
@[simp] theorem incSat_caps (f : Fld) (i j n : Nat) : (s.incSat f i j n).caps = s.caps := rfl
@[simp] theorem incSat_clk (f : Fld) (i j n : Nat) : (s.incSat f i j n).clk = s.clk := rfl
@[simp] theorem incSat_tim (f : Fld) (i j n : Nat) : (s.incSat f i j n).tim = s.tim := rfl
@[simp] theorem incSat_acts (f : Fld) (i j n : Nat) : (s.incSat f i j n).acts = s.acts := rfl
@[simp] theorem incSat_nextAct (f : Fld) (i j n : Nat) : (s.incSat f i j n).nextAct = s.nextAct := rfl
@[simp] theorem incSat_views (f : Fld) (i j n : Nat) : (s.incSat f i j n).views = s.views := rfl
@[simp] theorem incSat_viewDue (f : Fld) (i j n : Nat) : (s.incSat f i j n).viewDue = s.viewDue := rfl
@[simp] theorem incSat_prog (f : Fld) (i j n : Nat) : (s.incSat f i j n).prog = s.prog := rfl
@[simp] theorem incSat_xf (f : Fld) (i j n : Nat) : (s.incSat f i j n).xf = s.xf := rfl
@[simp] theorem incSat_net (f : Fld) (i j n : Nat) : (s.incSat f i j n).net = s.net := rfl
@[simp] theorem incSat_obs (f : Fld) (i j n : Nat) : (s.incSat f i j n).obs = s.obs := rfl
@[simp] theorem incSat_boot (f : Fld) (i j n : Nat) : (s.incSat f i j n).boot = s.boot := rfl
@[simp] theorem incSat_opt (f : Fld) (i j n : Nat) : (s.incSat f i j n).opt = s.opt := rfl
@[simp] theorem incSat_sec (f : Fld) (i j n : Nat) : (s.incSat f i j n).sec = s.sec := rfl
@[simp] theorem incSat_tap (f : Fld) (i j n : Nat) : (s.incSat f i j n).tap = s.tap := rfl
@[simp] theorem incSat_i3c (f : Fld) (i j n : Nat) : (s.incSat f i j n).i3c = s.i3c := rfl
@[simp] theorem incSat_kiln (f : Fld) (i j n : Nat) : (s.incSat f i j n).kiln = s.kiln := rfl
@[simp] theorem incSat_bnd (f : Fld) (i j n : Nat) : (s.incSat f i j n).bnd = s.bnd := rfl
@[simp] theorem incSat_rgAns (f : Fld) (i j n : Nat) : (s.incSat f i j n).rgAns = s.rgAns := rfl
@[simp] theorem incSat_free (f : Fld) (i j n : Nat) : (s.incSat f i j n).free = s.free := rfl
@[simp] theorem incSat_pending (f : Fld) (i j n : Nat) : (s.incSat f i j n).pending = s.pending := rfl

@[simp] theorem put64_tie (r : RegName) (i v : Nat) : (s.put64 r i v).tie = s.tie := rfl
@[simp] theorem put64_caps (r : RegName) (i v : Nat) : (s.put64 r i v).caps = s.caps := rfl
@[simp] theorem put64_clk (r : RegName) (i v : Nat) : (s.put64 r i v).clk = s.clk := rfl
@[simp] theorem put64_tim (r : RegName) (i v : Nat) : (s.put64 r i v).tim = s.tim := rfl
@[simp] theorem put64_acts (r : RegName) (i v : Nat) : (s.put64 r i v).acts = s.acts := rfl
@[simp] theorem put64_nextAct (r : RegName) (i v : Nat) : (s.put64 r i v).nextAct = s.nextAct := rfl
@[simp] theorem put64_views (r : RegName) (i v : Nat) : (s.put64 r i v).views = s.views := rfl
@[simp] theorem put64_viewDue (r : RegName) (i v : Nat) : (s.put64 r i v).viewDue = s.viewDue := rfl
@[simp] theorem put64_prog (r : RegName) (i v : Nat) : (s.put64 r i v).prog = s.prog := rfl
@[simp] theorem put64_xf (r : RegName) (i v : Nat) : (s.put64 r i v).xf = s.xf := rfl
@[simp] theorem put64_net (r : RegName) (i v : Nat) : (s.put64 r i v).net = s.net := rfl
@[simp] theorem put64_obs (r : RegName) (i v : Nat) : (s.put64 r i v).obs = s.obs := rfl
@[simp] theorem put64_boot (r : RegName) (i v : Nat) : (s.put64 r i v).boot = s.boot := rfl
@[simp] theorem put64_opt (r : RegName) (i v : Nat) : (s.put64 r i v).opt = s.opt := rfl
@[simp] theorem put64_sec (r : RegName) (i v : Nat) : (s.put64 r i v).sec = s.sec := rfl
@[simp] theorem put64_tap (r : RegName) (i v : Nat) : (s.put64 r i v).tap = s.tap := rfl
@[simp] theorem put64_i3c (r : RegName) (i v : Nat) : (s.put64 r i v).i3c = s.i3c := rfl
@[simp] theorem put64_kiln (r : RegName) (i v : Nat) : (s.put64 r i v).kiln = s.kiln := rfl
@[simp] theorem put64_bnd (r : RegName) (i v : Nat) : (s.put64 r i v).bnd = s.bnd := rfl
@[simp] theorem put64_rgAns (r : RegName) (i v : Nat) : (s.put64 r i v).rgAns = s.rgAns := rfl
@[simp] theorem put64_free (r : RegName) (i v : Nat) : (s.put64 r i v).free = s.free := rfl
@[simp] theorem put64_pending (r : RegName) (i v : Nat) : (s.put64 r i v).pending = s.pending := rfl

@[simp] theorem putPair_tie (r : RegName) (v : Nat) : (s.putPair r v).tie = s.tie := rfl
@[simp] theorem putPair_caps (r : RegName) (v : Nat) : (s.putPair r v).caps = s.caps := rfl
@[simp] theorem putPair_clk (r : RegName) (v : Nat) : (s.putPair r v).clk = s.clk := rfl
@[simp] theorem putPair_tim (r : RegName) (v : Nat) : (s.putPair r v).tim = s.tim := rfl
@[simp] theorem putPair_acts (r : RegName) (v : Nat) : (s.putPair r v).acts = s.acts := rfl
@[simp] theorem putPair_nextAct (r : RegName) (v : Nat) : (s.putPair r v).nextAct = s.nextAct := rfl
@[simp] theorem putPair_views (r : RegName) (v : Nat) : (s.putPair r v).views = s.views := rfl
@[simp] theorem putPair_viewDue (r : RegName) (v : Nat) : (s.putPair r v).viewDue = s.viewDue := rfl
@[simp] theorem putPair_prog (r : RegName) (v : Nat) : (s.putPair r v).prog = s.prog := rfl
@[simp] theorem putPair_xf (r : RegName) (v : Nat) : (s.putPair r v).xf = s.xf := rfl
@[simp] theorem putPair_net (r : RegName) (v : Nat) : (s.putPair r v).net = s.net := rfl
@[simp] theorem putPair_obs (r : RegName) (v : Nat) : (s.putPair r v).obs = s.obs := rfl
@[simp] theorem putPair_boot (r : RegName) (v : Nat) : (s.putPair r v).boot = s.boot := rfl
@[simp] theorem putPair_opt (r : RegName) (v : Nat) : (s.putPair r v).opt = s.opt := rfl
@[simp] theorem putPair_sec (r : RegName) (v : Nat) : (s.putPair r v).sec = s.sec := rfl
@[simp] theorem putPair_tap (r : RegName) (v : Nat) : (s.putPair r v).tap = s.tap := rfl
@[simp] theorem putPair_i3c (r : RegName) (v : Nat) : (s.putPair r v).i3c = s.i3c := rfl
@[simp] theorem putPair_kiln (r : RegName) (v : Nat) : (s.putPair r v).kiln = s.kiln := rfl
@[simp] theorem putPair_bnd (r : RegName) (v : Nat) : (s.putPair r v).bnd = s.bnd := rfl
@[simp] theorem putPair_rgAns (r : RegName) (v : Nat) : (s.putPair r v).rgAns = s.rgAns := rfl
@[simp] theorem putPair_free (r : RegName) (v : Nat) : (s.putPair r v).free = s.free := rfl
@[simp] theorem putPair_pending (r : RegName) (v : Nat) : (s.putPair r v).pending = s.pending := rfl

@[simp] theorem addPair_tie (r : RegName) (n : Nat) : (s.addPair r n).tie = s.tie := rfl
@[simp] theorem addPair_caps (r : RegName) (n : Nat) : (s.addPair r n).caps = s.caps := rfl
@[simp] theorem addPair_clk (r : RegName) (n : Nat) : (s.addPair r n).clk = s.clk := rfl
@[simp] theorem addPair_tim (r : RegName) (n : Nat) : (s.addPair r n).tim = s.tim := rfl
@[simp] theorem addPair_acts (r : RegName) (n : Nat) : (s.addPair r n).acts = s.acts := rfl
@[simp] theorem addPair_nextAct (r : RegName) (n : Nat) : (s.addPair r n).nextAct = s.nextAct := rfl
@[simp] theorem addPair_views (r : RegName) (n : Nat) : (s.addPair r n).views = s.views := rfl
@[simp] theorem addPair_viewDue (r : RegName) (n : Nat) : (s.addPair r n).viewDue = s.viewDue := rfl
@[simp] theorem addPair_prog (r : RegName) (n : Nat) : (s.addPair r n).prog = s.prog := rfl
@[simp] theorem addPair_xf (r : RegName) (n : Nat) : (s.addPair r n).xf = s.xf := rfl
@[simp] theorem addPair_net (r : RegName) (n : Nat) : (s.addPair r n).net = s.net := rfl
@[simp] theorem addPair_obs (r : RegName) (n : Nat) : (s.addPair r n).obs = s.obs := rfl
@[simp] theorem addPair_boot (r : RegName) (n : Nat) : (s.addPair r n).boot = s.boot := rfl
@[simp] theorem addPair_opt (r : RegName) (n : Nat) : (s.addPair r n).opt = s.opt := rfl
@[simp] theorem addPair_sec (r : RegName) (n : Nat) : (s.addPair r n).sec = s.sec := rfl
@[simp] theorem addPair_tap (r : RegName) (n : Nat) : (s.addPair r n).tap = s.tap := rfl
@[simp] theorem addPair_i3c (r : RegName) (n : Nat) : (s.addPair r n).i3c = s.i3c := rfl
@[simp] theorem addPair_kiln (r : RegName) (n : Nat) : (s.addPair r n).kiln = s.kiln := rfl
@[simp] theorem addPair_bnd (r : RegName) (n : Nat) : (s.addPair r n).bnd = s.bnd := rfl
@[simp] theorem addPair_rgAns (r : RegName) (n : Nat) : (s.addPair r n).rgAns = s.rgAns := rfl
@[simp] theorem addPair_free (r : RegName) (n : Nat) : (s.addPair r n).free = s.free := rfl
@[simp] theorem addPair_pending (r : RegName) (n : Nat) : (s.addPair r n).pending = s.pending := rfl

@[simp] theorem setUnit_tie (k i : Nat) (l : Lease) : (setUnit s k i l).tie = s.tie := rfl
@[simp] theorem setUnit_regs (k i : Nat) (l : Lease) : (setUnit s k i l).regs = s.regs := rfl
@[simp] theorem setUnit_caps (k i : Nat) (l : Lease) : (setUnit s k i l).caps = s.caps := rfl
@[simp] theorem setUnit_clk (k i : Nat) (l : Lease) : (setUnit s k i l).clk = s.clk := rfl
@[simp] theorem setUnit_tim (k i : Nat) (l : Lease) : (setUnit s k i l).tim = s.tim := rfl
@[simp] theorem setUnit_acts (k i : Nat) (l : Lease) : (setUnit s k i l).acts = s.acts := rfl
@[simp] theorem setUnit_nextAct (k i : Nat) (l : Lease) : (setUnit s k i l).nextAct = s.nextAct := rfl
@[simp] theorem setUnit_views (k i : Nat) (l : Lease) : (setUnit s k i l).views = s.views := rfl
@[simp] theorem setUnit_viewDue (k i : Nat) (l : Lease) : (setUnit s k i l).viewDue = s.viewDue := rfl
@[simp] theorem setUnit_prog (k i : Nat) (l : Lease) : (setUnit s k i l).prog = s.prog := rfl
@[simp] theorem setUnit_xf (k i : Nat) (l : Lease) : (setUnit s k i l).xf = s.xf := rfl
@[simp] theorem setUnit_net (k i : Nat) (l : Lease) : (setUnit s k i l).net = s.net := rfl
@[simp] theorem setUnit_obs (k i : Nat) (l : Lease) : (setUnit s k i l).obs = s.obs := rfl
@[simp] theorem setUnit_boot (k i : Nat) (l : Lease) : (setUnit s k i l).boot = s.boot := rfl
@[simp] theorem setUnit_opt (k i : Nat) (l : Lease) : (setUnit s k i l).opt = s.opt := rfl
@[simp] theorem setUnit_tap (k i : Nat) (l : Lease) : (setUnit s k i l).tap = s.tap := rfl
@[simp] theorem setUnit_i3c (k i : Nat) (l : Lease) : (setUnit s k i l).i3c = s.i3c := rfl
@[simp] theorem setUnit_kiln (k i : Nat) (l : Lease) : (setUnit s k i l).kiln = s.kiln := rfl
@[simp] theorem setUnit_bnd (k i : Nat) (l : Lease) : (setUnit s k i l).bnd = s.bnd := rfl
@[simp] theorem setUnit_rgAns (k i : Nat) (l : Lease) : (setUnit s k i l).rgAns = s.rgAns := rfl
@[simp] theorem setUnit_free (k i : Nat) (l : Lease) : (setUnit s k i l).free = s.free := rfl
@[simp] theorem setUnit_pending (k i : Nat) (l : Lease) : (setUnit s k i l).pending = s.pending := rfl

@[simp] theorem setCtx_tie (c : Nat) (x : Ctx) : (setCtx s c x).tie = s.tie := rfl
@[simp] theorem setCtx_regs (c : Nat) (x : Ctx) : (setCtx s c x).regs = s.regs := rfl
@[simp] theorem setCtx_caps (c : Nat) (x : Ctx) : (setCtx s c x).caps = s.caps := rfl
@[simp] theorem setCtx_clk (c : Nat) (x : Ctx) : (setCtx s c x).clk = s.clk := rfl
@[simp] theorem setCtx_tim (c : Nat) (x : Ctx) : (setCtx s c x).tim = s.tim := rfl
@[simp] theorem setCtx_acts (c : Nat) (x : Ctx) : (setCtx s c x).acts = s.acts := rfl
@[simp] theorem setCtx_nextAct (c : Nat) (x : Ctx) : (setCtx s c x).nextAct = s.nextAct := rfl
@[simp] theorem setCtx_views (c : Nat) (x : Ctx) : (setCtx s c x).views = s.views := rfl
@[simp] theorem setCtx_viewDue (c : Nat) (x : Ctx) : (setCtx s c x).viewDue = s.viewDue := rfl
@[simp] theorem setCtx_xf (c : Nat) (x : Ctx) : (setCtx s c x).xf = s.xf := rfl
@[simp] theorem setCtx_net (c : Nat) (x : Ctx) : (setCtx s c x).net = s.net := rfl
@[simp] theorem setCtx_obs (c : Nat) (x : Ctx) : (setCtx s c x).obs = s.obs := rfl
@[simp] theorem setCtx_boot (c : Nat) (x : Ctx) : (setCtx s c x).boot = s.boot := rfl
@[simp] theorem setCtx_opt (c : Nat) (x : Ctx) : (setCtx s c x).opt = s.opt := rfl
@[simp] theorem setCtx_sec (c : Nat) (x : Ctx) : (setCtx s c x).sec = s.sec := rfl
@[simp] theorem setCtx_tap (c : Nat) (x : Ctx) : (setCtx s c x).tap = s.tap := rfl
@[simp] theorem setCtx_i3c (c : Nat) (x : Ctx) : (setCtx s c x).i3c = s.i3c := rfl
@[simp] theorem setCtx_kiln (c : Nat) (x : Ctx) : (setCtx s c x).kiln = s.kiln := rfl
@[simp] theorem setCtx_bnd (c : Nat) (x : Ctx) : (setCtx s c x).bnd = s.bnd := rfl
@[simp] theorem setCtx_rgAns (c : Nat) (x : Ctx) : (setCtx s c x).rgAns = s.rgAns := rfl
@[simp] theorem setCtx_free (c : Nat) (x : Ctx) : (setCtx s c x).free = s.free := rfl
@[simp] theorem setCtx_pending (c : Nat) (x : Ctx) : (setCtx s c x).pending = s.pending := rfl

@[simp] theorem updCtx_tie (c : Nat) (g : Ctx → Ctx) : (updCtx s c g).tie = s.tie := rfl
@[simp] theorem updCtx_regs (c : Nat) (g : Ctx → Ctx) : (updCtx s c g).regs = s.regs := rfl
@[simp] theorem updCtx_caps (c : Nat) (g : Ctx → Ctx) : (updCtx s c g).caps = s.caps := rfl
@[simp] theorem updCtx_clk (c : Nat) (g : Ctx → Ctx) : (updCtx s c g).clk = s.clk := rfl
@[simp] theorem updCtx_tim (c : Nat) (g : Ctx → Ctx) : (updCtx s c g).tim = s.tim := rfl
@[simp] theorem updCtx_acts (c : Nat) (g : Ctx → Ctx) : (updCtx s c g).acts = s.acts := rfl
@[simp] theorem updCtx_nextAct (c : Nat) (g : Ctx → Ctx) : (updCtx s c g).nextAct = s.nextAct := rfl
@[simp] theorem updCtx_views (c : Nat) (g : Ctx → Ctx) : (updCtx s c g).views = s.views := rfl
@[simp] theorem updCtx_viewDue (c : Nat) (g : Ctx → Ctx) : (updCtx s c g).viewDue = s.viewDue := rfl
@[simp] theorem updCtx_xf (c : Nat) (g : Ctx → Ctx) : (updCtx s c g).xf = s.xf := rfl
@[simp] theorem updCtx_net (c : Nat) (g : Ctx → Ctx) : (updCtx s c g).net = s.net := rfl
@[simp] theorem updCtx_obs (c : Nat) (g : Ctx → Ctx) : (updCtx s c g).obs = s.obs := rfl
@[simp] theorem updCtx_boot (c : Nat) (g : Ctx → Ctx) : (updCtx s c g).boot = s.boot := rfl
@[simp] theorem updCtx_opt (c : Nat) (g : Ctx → Ctx) : (updCtx s c g).opt = s.opt := rfl
@[simp] theorem updCtx_sec (c : Nat) (g : Ctx → Ctx) : (updCtx s c g).sec = s.sec := rfl
@[simp] theorem updCtx_tap (c : Nat) (g : Ctx → Ctx) : (updCtx s c g).tap = s.tap := rfl
@[simp] theorem updCtx_i3c (c : Nat) (g : Ctx → Ctx) : (updCtx s c g).i3c = s.i3c := rfl
@[simp] theorem updCtx_kiln (c : Nat) (g : Ctx → Ctx) : (updCtx s c g).kiln = s.kiln := rfl
@[simp] theorem updCtx_bnd (c : Nat) (g : Ctx → Ctx) : (updCtx s c g).bnd = s.bnd := rfl
@[simp] theorem updCtx_rgAns (c : Nat) (g : Ctx → Ctx) : (updCtx s c g).rgAns = s.rgAns := rfl
@[simp] theorem updCtx_free (c : Nat) (g : Ctx → Ctx) : (updCtx s c g).free = s.free := rfl
@[simp] theorem updCtx_pending (c : Nat) (g : Ctx → Ctx) : (updCtx s c g).pending = s.pending := rfl

@[simp] theorem setG_tie (c i : Nat) (v : W64) : (setG s c i v).tie = s.tie := rfl
@[simp] theorem setG_regs (c i : Nat) (v : W64) : (setG s c i v).regs = s.regs := rfl
@[simp] theorem setG_caps (c i : Nat) (v : W64) : (setG s c i v).caps = s.caps := rfl
@[simp] theorem setG_clk (c i : Nat) (v : W64) : (setG s c i v).clk = s.clk := rfl
@[simp] theorem setG_tim (c i : Nat) (v : W64) : (setG s c i v).tim = s.tim := rfl
@[simp] theorem setG_acts (c i : Nat) (v : W64) : (setG s c i v).acts = s.acts := rfl
@[simp] theorem setG_nextAct (c i : Nat) (v : W64) : (setG s c i v).nextAct = s.nextAct := rfl
@[simp] theorem setG_views (c i : Nat) (v : W64) : (setG s c i v).views = s.views := rfl
@[simp] theorem setG_viewDue (c i : Nat) (v : W64) : (setG s c i v).viewDue = s.viewDue := rfl
@[simp] theorem setG_xf (c i : Nat) (v : W64) : (setG s c i v).xf = s.xf := rfl
@[simp] theorem setG_net (c i : Nat) (v : W64) : (setG s c i v).net = s.net := rfl
@[simp] theorem setG_obs (c i : Nat) (v : W64) : (setG s c i v).obs = s.obs := rfl
@[simp] theorem setG_boot (c i : Nat) (v : W64) : (setG s c i v).boot = s.boot := rfl
@[simp] theorem setG_opt (c i : Nat) (v : W64) : (setG s c i v).opt = s.opt := rfl
@[simp] theorem setG_sec (c i : Nat) (v : W64) : (setG s c i v).sec = s.sec := rfl
@[simp] theorem setG_tap (c i : Nat) (v : W64) : (setG s c i v).tap = s.tap := rfl
@[simp] theorem setG_i3c (c i : Nat) (v : W64) : (setG s c i v).i3c = s.i3c := rfl
@[simp] theorem setG_kiln (c i : Nat) (v : W64) : (setG s c i v).kiln = s.kiln := rfl
@[simp] theorem setG_bnd (c i : Nat) (v : W64) : (setG s c i v).bnd = s.bnd := rfl
@[simp] theorem setG_rgAns (c i : Nat) (v : W64) : (setG s c i v).rgAns = s.rgAns := rfl
@[simp] theorem setG_free (c i : Nat) (v : W64) : (setG s c i v).free = s.free := rfl
@[simp] theorem setG_pending (c i : Nat) (v : W64) : (setG s c i v).pending = s.pending := rfl

@[simp] theorem setP_tie (c i : Nat) (b : Bool) : (setP s c i b).tie = s.tie := rfl
@[simp] theorem setP_regs (c i : Nat) (b : Bool) : (setP s c i b).regs = s.regs := rfl
@[simp] theorem setP_caps (c i : Nat) (b : Bool) : (setP s c i b).caps = s.caps := rfl
@[simp] theorem setP_clk (c i : Nat) (b : Bool) : (setP s c i b).clk = s.clk := rfl
@[simp] theorem setP_tim (c i : Nat) (b : Bool) : (setP s c i b).tim = s.tim := rfl
@[simp] theorem setP_acts (c i : Nat) (b : Bool) : (setP s c i b).acts = s.acts := rfl
@[simp] theorem setP_nextAct (c i : Nat) (b : Bool) : (setP s c i b).nextAct = s.nextAct := rfl
@[simp] theorem setP_views (c i : Nat) (b : Bool) : (setP s c i b).views = s.views := rfl
@[simp] theorem setP_viewDue (c i : Nat) (b : Bool) : (setP s c i b).viewDue = s.viewDue := rfl
@[simp] theorem setP_xf (c i : Nat) (b : Bool) : (setP s c i b).xf = s.xf := rfl
@[simp] theorem setP_net (c i : Nat) (b : Bool) : (setP s c i b).net = s.net := rfl
@[simp] theorem setP_obs (c i : Nat) (b : Bool) : (setP s c i b).obs = s.obs := rfl
@[simp] theorem setP_boot (c i : Nat) (b : Bool) : (setP s c i b).boot = s.boot := rfl
@[simp] theorem setP_opt (c i : Nat) (b : Bool) : (setP s c i b).opt = s.opt := rfl
@[simp] theorem setP_sec (c i : Nat) (b : Bool) : (setP s c i b).sec = s.sec := rfl
@[simp] theorem setP_tap (c i : Nat) (b : Bool) : (setP s c i b).tap = s.tap := rfl
@[simp] theorem setP_i3c (c i : Nat) (b : Bool) : (setP s c i b).i3c = s.i3c := rfl
@[simp] theorem setP_kiln (c i : Nat) (b : Bool) : (setP s c i b).kiln = s.kiln := rfl
@[simp] theorem setP_bnd (c i : Nat) (b : Bool) : (setP s c i b).bnd = s.bnd := rfl
@[simp] theorem setP_rgAns (c i : Nat) (b : Bool) : (setP s c i b).rgAns = s.rgAns := rfl
@[simp] theorem setP_free (c i : Nat) (b : Bool) : (setP s c i b).free = s.free := rfl
@[simp] theorem setP_pending (c i : Nat) (b : Bool) : (setP s c i b).pending = s.pending := rfl

@[simp] theorem setD_tie (c i : Nat) (v : BitVec 512) : (setD s c i v).tie = s.tie := rfl
@[simp] theorem setD_regs (c i : Nat) (v : BitVec 512) : (setD s c i v).regs = s.regs := rfl
@[simp] theorem setD_caps (c i : Nat) (v : BitVec 512) : (setD s c i v).caps = s.caps := rfl
@[simp] theorem setD_clk (c i : Nat) (v : BitVec 512) : (setD s c i v).clk = s.clk := rfl
@[simp] theorem setD_tim (c i : Nat) (v : BitVec 512) : (setD s c i v).tim = s.tim := rfl
@[simp] theorem setD_acts (c i : Nat) (v : BitVec 512) : (setD s c i v).acts = s.acts := rfl
@[simp] theorem setD_nextAct (c i : Nat) (v : BitVec 512) : (setD s c i v).nextAct = s.nextAct := rfl
@[simp] theorem setD_views (c i : Nat) (v : BitVec 512) : (setD s c i v).views = s.views := rfl
@[simp] theorem setD_viewDue (c i : Nat) (v : BitVec 512) : (setD s c i v).viewDue = s.viewDue := rfl
@[simp] theorem setD_xf (c i : Nat) (v : BitVec 512) : (setD s c i v).xf = s.xf := rfl
@[simp] theorem setD_net (c i : Nat) (v : BitVec 512) : (setD s c i v).net = s.net := rfl
@[simp] theorem setD_obs (c i : Nat) (v : BitVec 512) : (setD s c i v).obs = s.obs := rfl
@[simp] theorem setD_boot (c i : Nat) (v : BitVec 512) : (setD s c i v).boot = s.boot := rfl
@[simp] theorem setD_opt (c i : Nat) (v : BitVec 512) : (setD s c i v).opt = s.opt := rfl
@[simp] theorem setD_sec (c i : Nat) (v : BitVec 512) : (setD s c i v).sec = s.sec := rfl
@[simp] theorem setD_tap (c i : Nat) (v : BitVec 512) : (setD s c i v).tap = s.tap := rfl
@[simp] theorem setD_i3c (c i : Nat) (v : BitVec 512) : (setD s c i v).i3c = s.i3c := rfl
@[simp] theorem setD_kiln (c i : Nat) (v : BitVec 512) : (setD s c i v).kiln = s.kiln := rfl
@[simp] theorem setD_bnd (c i : Nat) (v : BitVec 512) : (setD s c i v).bnd = s.bnd := rfl
@[simp] theorem setD_rgAns (c i : Nat) (v : BitVec 512) : (setD s c i v).rgAns = s.rgAns := rfl
@[simp] theorem setD_free (c i : Nat) (v : BitVec 512) : (setD s c i v).free = s.free := rfl
@[simp] theorem setD_pending (c i : Nat) (v : BitVec 512) : (setD s c i v).pending = s.pending := rfl

@[simp] theorem noteStall_tie (c r : Nat) : (noteStall s c r).tie = s.tie := rfl
@[simp] theorem noteStall_regs (c r : Nat) : (noteStall s c r).regs = s.regs := rfl
@[simp] theorem noteStall_caps (c r : Nat) : (noteStall s c r).caps = s.caps := rfl
@[simp] theorem noteStall_clk (c r : Nat) : (noteStall s c r).clk = s.clk := rfl
@[simp] theorem noteStall_tim (c r : Nat) : (noteStall s c r).tim = s.tim := rfl
@[simp] theorem noteStall_acts (c r : Nat) : (noteStall s c r).acts = s.acts := rfl
@[simp] theorem noteStall_nextAct (c r : Nat) : (noteStall s c r).nextAct = s.nextAct := rfl
@[simp] theorem noteStall_views (c r : Nat) : (noteStall s c r).views = s.views := rfl
@[simp] theorem noteStall_viewDue (c r : Nat) : (noteStall s c r).viewDue = s.viewDue := rfl
@[simp] theorem noteStall_xf (c r : Nat) : (noteStall s c r).xf = s.xf := rfl
@[simp] theorem noteStall_net (c r : Nat) : (noteStall s c r).net = s.net := rfl
@[simp] theorem noteStall_obs (c r : Nat) : (noteStall s c r).obs = s.obs := rfl
@[simp] theorem noteStall_boot (c r : Nat) : (noteStall s c r).boot = s.boot := rfl
@[simp] theorem noteStall_opt (c r : Nat) : (noteStall s c r).opt = s.opt := rfl
@[simp] theorem noteStall_sec (c r : Nat) : (noteStall s c r).sec = s.sec := rfl
@[simp] theorem noteStall_tap (c r : Nat) : (noteStall s c r).tap = s.tap := rfl
@[simp] theorem noteStall_i3c (c r : Nat) : (noteStall s c r).i3c = s.i3c := rfl
@[simp] theorem noteStall_kiln (c r : Nat) : (noteStall s c r).kiln = s.kiln := rfl
@[simp] theorem noteStall_bnd (c r : Nat) : (noteStall s c r).bnd = s.bnd := rfl
@[simp] theorem noteStall_rgAns (c r : Nat) : (noteStall s c r).rgAns = s.rgAns := rfl
@[simp] theorem noteStall_free (c r : Nat) : (noteStall s c r).free = s.free := rfl
@[simp] theorem noteStall_pending (c r : Nat) : (noteStall s c r).pending = s.pending := rfl

@[simp] theorem hold_tie (c : Nat) (w : Wait) (r : Nat) : (hold s c w r).tie = s.tie := rfl
@[simp] theorem hold_regs (c : Nat) (w : Wait) (r : Nat) : (hold s c w r).regs = s.regs := rfl
@[simp] theorem hold_caps (c : Nat) (w : Wait) (r : Nat) : (hold s c w r).caps = s.caps := rfl
@[simp] theorem hold_clk (c : Nat) (w : Wait) (r : Nat) : (hold s c w r).clk = s.clk := rfl
@[simp] theorem hold_tim (c : Nat) (w : Wait) (r : Nat) : (hold s c w r).tim = s.tim := rfl
@[simp] theorem hold_acts (c : Nat) (w : Wait) (r : Nat) : (hold s c w r).acts = s.acts := rfl
@[simp] theorem hold_nextAct (c : Nat) (w : Wait) (r : Nat) : (hold s c w r).nextAct = s.nextAct := rfl
@[simp] theorem hold_views (c : Nat) (w : Wait) (r : Nat) : (hold s c w r).views = s.views := rfl
@[simp] theorem hold_viewDue (c : Nat) (w : Wait) (r : Nat) : (hold s c w r).viewDue = s.viewDue := rfl
@[simp] theorem hold_xf (c : Nat) (w : Wait) (r : Nat) : (hold s c w r).xf = s.xf := rfl
@[simp] theorem hold_net (c : Nat) (w : Wait) (r : Nat) : (hold s c w r).net = s.net := rfl
@[simp] theorem hold_obs (c : Nat) (w : Wait) (r : Nat) : (hold s c w r).obs = s.obs := rfl
@[simp] theorem hold_boot (c : Nat) (w : Wait) (r : Nat) : (hold s c w r).boot = s.boot := rfl
@[simp] theorem hold_opt (c : Nat) (w : Wait) (r : Nat) : (hold s c w r).opt = s.opt := rfl
@[simp] theorem hold_sec (c : Nat) (w : Wait) (r : Nat) : (hold s c w r).sec = s.sec := rfl
@[simp] theorem hold_tap (c : Nat) (w : Wait) (r : Nat) : (hold s c w r).tap = s.tap := rfl
@[simp] theorem hold_i3c (c : Nat) (w : Wait) (r : Nat) : (hold s c w r).i3c = s.i3c := rfl
@[simp] theorem hold_kiln (c : Nat) (w : Wait) (r : Nat) : (hold s c w r).kiln = s.kiln := rfl
@[simp] theorem hold_bnd (c : Nat) (w : Wait) (r : Nat) : (hold s c w r).bnd = s.bnd := rfl
@[simp] theorem hold_rgAns (c : Nat) (w : Wait) (r : Nat) : (hold s c w r).rgAns = s.rgAns := rfl
@[simp] theorem hold_free (c : Nat) (w : Wait) (r : Nat) : (hold s c w r).free = s.free := rfl
@[simp] theorem hold_pending (c : Nat) (w : Wait) (r : Nat) : (hold s c w r).pending = s.pending := rfl

@[simp] theorem spwWrite_tie (a : Nat) (d : List Byte) : (spwWrite s a d).tie = s.tie := rfl
@[simp] theorem spwWrite_regs (a : Nat) (d : List Byte) : (spwWrite s a d).regs = s.regs := rfl
@[simp] theorem spwWrite_caps (a : Nat) (d : List Byte) : (spwWrite s a d).caps = s.caps := rfl
@[simp] theorem spwWrite_clk (a : Nat) (d : List Byte) : (spwWrite s a d).clk = s.clk := rfl
@[simp] theorem spwWrite_tim (a : Nat) (d : List Byte) : (spwWrite s a d).tim = s.tim := rfl
@[simp] theorem spwWrite_acts (a : Nat) (d : List Byte) : (spwWrite s a d).acts = s.acts := rfl
@[simp] theorem spwWrite_nextAct (a : Nat) (d : List Byte) : (spwWrite s a d).nextAct = s.nextAct := rfl
@[simp] theorem spwWrite_views (a : Nat) (d : List Byte) : (spwWrite s a d).views = s.views := rfl
@[simp] theorem spwWrite_viewDue (a : Nat) (d : List Byte) : (spwWrite s a d).viewDue = s.viewDue := rfl
@[simp] theorem spwWrite_prog (a : Nat) (d : List Byte) : (spwWrite s a d).prog = s.prog := rfl
@[simp] theorem spwWrite_net (a : Nat) (d : List Byte) : (spwWrite s a d).net = s.net := rfl
@[simp] theorem spwWrite_obs (a : Nat) (d : List Byte) : (spwWrite s a d).obs = s.obs := rfl
@[simp] theorem spwWrite_boot (a : Nat) (d : List Byte) : (spwWrite s a d).boot = s.boot := rfl
@[simp] theorem spwWrite_opt (a : Nat) (d : List Byte) : (spwWrite s a d).opt = s.opt := rfl
@[simp] theorem spwWrite_sec (a : Nat) (d : List Byte) : (spwWrite s a d).sec = s.sec := rfl
@[simp] theorem spwWrite_tap (a : Nat) (d : List Byte) : (spwWrite s a d).tap = s.tap := rfl
@[simp] theorem spwWrite_i3c (a : Nat) (d : List Byte) : (spwWrite s a d).i3c = s.i3c := rfl
@[simp] theorem spwWrite_kiln (a : Nat) (d : List Byte) : (spwWrite s a d).kiln = s.kiln := rfl
@[simp] theorem spwWrite_bnd (a : Nat) (d : List Byte) : (spwWrite s a d).bnd = s.bnd := rfl
@[simp] theorem spwWrite_rgAns (a : Nat) (d : List Byte) : (spwWrite s a d).rgAns = s.rgAns := rfl
@[simp] theorem spwWrite_free (a : Nat) (d : List Byte) : (spwWrite s a d).free = s.free := rfl
@[simp] theorem spwWrite_pending (a : Nat) (d : List Byte) : (spwWrite s a d).pending = s.pending := rfl

@[simp] theorem spwZero_tie (a n : Nat) : (spwZero s a n).tie = s.tie := rfl
@[simp] theorem spwZero_regs (a n : Nat) : (spwZero s a n).regs = s.regs := rfl
@[simp] theorem spwZero_caps (a n : Nat) : (spwZero s a n).caps = s.caps := rfl
@[simp] theorem spwZero_clk (a n : Nat) : (spwZero s a n).clk = s.clk := rfl
@[simp] theorem spwZero_tim (a n : Nat) : (spwZero s a n).tim = s.tim := rfl
@[simp] theorem spwZero_acts (a n : Nat) : (spwZero s a n).acts = s.acts := rfl
@[simp] theorem spwZero_nextAct (a n : Nat) : (spwZero s a n).nextAct = s.nextAct := rfl
@[simp] theorem spwZero_views (a n : Nat) : (spwZero s a n).views = s.views := rfl
@[simp] theorem spwZero_viewDue (a n : Nat) : (spwZero s a n).viewDue = s.viewDue := rfl
@[simp] theorem spwZero_prog (a n : Nat) : (spwZero s a n).prog = s.prog := rfl
@[simp] theorem spwZero_net (a n : Nat) : (spwZero s a n).net = s.net := rfl
@[simp] theorem spwZero_obs (a n : Nat) : (spwZero s a n).obs = s.obs := rfl
@[simp] theorem spwZero_boot (a n : Nat) : (spwZero s a n).boot = s.boot := rfl
@[simp] theorem spwZero_opt (a n : Nat) : (spwZero s a n).opt = s.opt := rfl
@[simp] theorem spwZero_sec (a n : Nat) : (spwZero s a n).sec = s.sec := rfl
@[simp] theorem spwZero_tap (a n : Nat) : (spwZero s a n).tap = s.tap := rfl
@[simp] theorem spwZero_i3c (a n : Nat) : (spwZero s a n).i3c = s.i3c := rfl
@[simp] theorem spwZero_kiln (a n : Nat) : (spwZero s a n).kiln = s.kiln := rfl
@[simp] theorem spwZero_bnd (a n : Nat) : (spwZero s a n).bnd = s.bnd := rfl
@[simp] theorem spwZero_rgAns (a n : Nat) : (spwZero s a n).rgAns = s.rgAns := rfl
@[simp] theorem spwZero_free (a n : Nat) : (spwZero s a n).free = s.free := rfl
@[simp] theorem spwZero_pending (a n : Nat) : (spwZero s a n).pending = s.pending := rfl

@[simp] theorem updTxn_tie (k : Nat) (g : Txn → Txn) : (updTxn s k g).tie = s.tie := rfl
@[simp] theorem updTxn_regs (k : Nat) (g : Txn → Txn) : (updTxn s k g).regs = s.regs := rfl
@[simp] theorem updTxn_caps (k : Nat) (g : Txn → Txn) : (updTxn s k g).caps = s.caps := rfl
@[simp] theorem updTxn_clk (k : Nat) (g : Txn → Txn) : (updTxn s k g).clk = s.clk := rfl
@[simp] theorem updTxn_tim (k : Nat) (g : Txn → Txn) : (updTxn s k g).tim = s.tim := rfl
@[simp] theorem updTxn_acts (k : Nat) (g : Txn → Txn) : (updTxn s k g).acts = s.acts := rfl
@[simp] theorem updTxn_nextAct (k : Nat) (g : Txn → Txn) : (updTxn s k g).nextAct = s.nextAct := rfl
@[simp] theorem updTxn_views (k : Nat) (g : Txn → Txn) : (updTxn s k g).views = s.views := rfl
@[simp] theorem updTxn_viewDue (k : Nat) (g : Txn → Txn) : (updTxn s k g).viewDue = s.viewDue := rfl
@[simp] theorem updTxn_prog (k : Nat) (g : Txn → Txn) : (updTxn s k g).prog = s.prog := rfl
@[simp] theorem updTxn_net (k : Nat) (g : Txn → Txn) : (updTxn s k g).net = s.net := rfl
@[simp] theorem updTxn_obs (k : Nat) (g : Txn → Txn) : (updTxn s k g).obs = s.obs := rfl
@[simp] theorem updTxn_boot (k : Nat) (g : Txn → Txn) : (updTxn s k g).boot = s.boot := rfl
@[simp] theorem updTxn_opt (k : Nat) (g : Txn → Txn) : (updTxn s k g).opt = s.opt := rfl
@[simp] theorem updTxn_sec (k : Nat) (g : Txn → Txn) : (updTxn s k g).sec = s.sec := rfl
@[simp] theorem updTxn_tap (k : Nat) (g : Txn → Txn) : (updTxn s k g).tap = s.tap := rfl
@[simp] theorem updTxn_i3c (k : Nat) (g : Txn → Txn) : (updTxn s k g).i3c = s.i3c := rfl
@[simp] theorem updTxn_kiln (k : Nat) (g : Txn → Txn) : (updTxn s k g).kiln = s.kiln := rfl
@[simp] theorem updTxn_bnd (k : Nat) (g : Txn → Txn) : (updTxn s k g).bnd = s.bnd := rfl
@[simp] theorem updTxn_rgAns (k : Nat) (g : Txn → Txn) : (updTxn s k g).rgAns = s.rgAns := rfl
@[simp] theorem updTxn_free (k : Nat) (g : Txn → Txn) : (updTxn s k g).free = s.free := rfl
@[simp] theorem updTxn_pending (k : Nat) (g : Txn → Txn) : (updTxn s k g).pending = s.pending := rfl

@[simp] theorem dropTxn_tie (k : Nat) : (dropTxn s k).tie = s.tie := rfl
@[simp] theorem dropTxn_regs (k : Nat) : (dropTxn s k).regs = s.regs := rfl
@[simp] theorem dropTxn_caps (k : Nat) : (dropTxn s k).caps = s.caps := rfl
@[simp] theorem dropTxn_clk (k : Nat) : (dropTxn s k).clk = s.clk := rfl
@[simp] theorem dropTxn_tim (k : Nat) : (dropTxn s k).tim = s.tim := rfl
@[simp] theorem dropTxn_acts (k : Nat) : (dropTxn s k).acts = s.acts := rfl
@[simp] theorem dropTxn_nextAct (k : Nat) : (dropTxn s k).nextAct = s.nextAct := rfl
@[simp] theorem dropTxn_views (k : Nat) : (dropTxn s k).views = s.views := rfl
@[simp] theorem dropTxn_viewDue (k : Nat) : (dropTxn s k).viewDue = s.viewDue := rfl
@[simp] theorem dropTxn_prog (k : Nat) : (dropTxn s k).prog = s.prog := rfl
@[simp] theorem dropTxn_net (k : Nat) : (dropTxn s k).net = s.net := rfl
@[simp] theorem dropTxn_obs (k : Nat) : (dropTxn s k).obs = s.obs := rfl
@[simp] theorem dropTxn_boot (k : Nat) : (dropTxn s k).boot = s.boot := rfl
@[simp] theorem dropTxn_opt (k : Nat) : (dropTxn s k).opt = s.opt := rfl
@[simp] theorem dropTxn_sec (k : Nat) : (dropTxn s k).sec = s.sec := rfl
@[simp] theorem dropTxn_tap (k : Nat) : (dropTxn s k).tap = s.tap := rfl
@[simp] theorem dropTxn_i3c (k : Nat) : (dropTxn s k).i3c = s.i3c := rfl
@[simp] theorem dropTxn_kiln (k : Nat) : (dropTxn s k).kiln = s.kiln := rfl
@[simp] theorem dropTxn_bnd (k : Nat) : (dropTxn s k).bnd = s.bnd := rfl
@[simp] theorem dropTxn_rgAns (k : Nat) : (dropTxn s k).rgAns = s.rgAns := rfl
@[simp] theorem dropTxn_free (k : Nat) : (dropTxn s k).free = s.free := rfl
@[simp] theorem dropTxn_pending (k : Nat) : (dropTxn s k).pending = s.pending := rfl

@[simp] theorem setPort_tie (p : Nat) (x : Port) : (setPort s p x).tie = s.tie := rfl
@[simp] theorem setPort_regs (p : Nat) (x : Port) : (setPort s p x).regs = s.regs := rfl
@[simp] theorem setPort_caps (p : Nat) (x : Port) : (setPort s p x).caps = s.caps := rfl
@[simp] theorem setPort_clk (p : Nat) (x : Port) : (setPort s p x).clk = s.clk := rfl
@[simp] theorem setPort_tim (p : Nat) (x : Port) : (setPort s p x).tim = s.tim := rfl
@[simp] theorem setPort_acts (p : Nat) (x : Port) : (setPort s p x).acts = s.acts := rfl
@[simp] theorem setPort_nextAct (p : Nat) (x : Port) : (setPort s p x).nextAct = s.nextAct := rfl
@[simp] theorem setPort_views (p : Nat) (x : Port) : (setPort s p x).views = s.views := rfl
@[simp] theorem setPort_viewDue (p : Nat) (x : Port) : (setPort s p x).viewDue = s.viewDue := rfl
@[simp] theorem setPort_prog (p : Nat) (x : Port) : (setPort s p x).prog = s.prog := rfl
@[simp] theorem setPort_xf (p : Nat) (x : Port) : (setPort s p x).xf = s.xf := rfl
@[simp] theorem setPort_obs (p : Nat) (x : Port) : (setPort s p x).obs = s.obs := rfl
@[simp] theorem setPort_boot (p : Nat) (x : Port) : (setPort s p x).boot = s.boot := rfl
@[simp] theorem setPort_opt (p : Nat) (x : Port) : (setPort s p x).opt = s.opt := rfl
@[simp] theorem setPort_sec (p : Nat) (x : Port) : (setPort s p x).sec = s.sec := rfl
@[simp] theorem setPort_tap (p : Nat) (x : Port) : (setPort s p x).tap = s.tap := rfl
@[simp] theorem setPort_i3c (p : Nat) (x : Port) : (setPort s p x).i3c = s.i3c := rfl
@[simp] theorem setPort_kiln (p : Nat) (x : Port) : (setPort s p x).kiln = s.kiln := rfl
@[simp] theorem setPort_bnd (p : Nat) (x : Port) : (setPort s p x).bnd = s.bnd := rfl
@[simp] theorem setPort_rgAns (p : Nat) (x : Port) : (setPort s p x).rgAns = s.rgAns := rfl
@[simp] theorem setPort_free (p : Nat) (x : Port) : (setPort s p x).free = s.free := rfl
@[simp] theorem setPort_pending (p : Nat) (x : Port) : (setPort s p x).pending = s.pending := rfl

@[simp] theorem updPort_tie (p : Nat) (g : Port → Port) : (updPort s p g).tie = s.tie := rfl
@[simp] theorem updPort_regs (p : Nat) (g : Port → Port) : (updPort s p g).regs = s.regs := rfl
@[simp] theorem updPort_caps (p : Nat) (g : Port → Port) : (updPort s p g).caps = s.caps := rfl
@[simp] theorem updPort_clk (p : Nat) (g : Port → Port) : (updPort s p g).clk = s.clk := rfl
@[simp] theorem updPort_tim (p : Nat) (g : Port → Port) : (updPort s p g).tim = s.tim := rfl
@[simp] theorem updPort_acts (p : Nat) (g : Port → Port) : (updPort s p g).acts = s.acts := rfl
@[simp] theorem updPort_nextAct (p : Nat) (g : Port → Port) : (updPort s p g).nextAct = s.nextAct := rfl
@[simp] theorem updPort_views (p : Nat) (g : Port → Port) : (updPort s p g).views = s.views := rfl
@[simp] theorem updPort_viewDue (p : Nat) (g : Port → Port) : (updPort s p g).viewDue = s.viewDue := rfl
@[simp] theorem updPort_prog (p : Nat) (g : Port → Port) : (updPort s p g).prog = s.prog := rfl
@[simp] theorem updPort_xf (p : Nat) (g : Port → Port) : (updPort s p g).xf = s.xf := rfl
@[simp] theorem updPort_obs (p : Nat) (g : Port → Port) : (updPort s p g).obs = s.obs := rfl
@[simp] theorem updPort_boot (p : Nat) (g : Port → Port) : (updPort s p g).boot = s.boot := rfl
@[simp] theorem updPort_opt (p : Nat) (g : Port → Port) : (updPort s p g).opt = s.opt := rfl
@[simp] theorem updPort_sec (p : Nat) (g : Port → Port) : (updPort s p g).sec = s.sec := rfl
@[simp] theorem updPort_tap (p : Nat) (g : Port → Port) : (updPort s p g).tap = s.tap := rfl
@[simp] theorem updPort_i3c (p : Nat) (g : Port → Port) : (updPort s p g).i3c = s.i3c := rfl
@[simp] theorem updPort_kiln (p : Nat) (g : Port → Port) : (updPort s p g).kiln = s.kiln := rfl
@[simp] theorem updPort_bnd (p : Nat) (g : Port → Port) : (updPort s p g).bnd = s.bnd := rfl
@[simp] theorem updPort_rgAns (p : Nat) (g : Port → Port) : (updPort s p g).rgAns = s.rgAns := rfl
@[simp] theorem updPort_free (p : Nat) (g : Port → Port) : (updPort s p g).free = s.free := rfl
@[simp] theorem updPort_pending (p : Nat) (g : Port → Port) : (updPort s p g).pending = s.pending := rfl

@[simp] theorem setPortT_tie (p : Nat) (x : PortTime) : (setPortT s p x).tie = s.tie := rfl
@[simp] theorem setPortT_regs (p : Nat) (x : PortTime) : (setPortT s p x).regs = s.regs := rfl
@[simp] theorem setPortT_caps (p : Nat) (x : PortTime) : (setPortT s p x).caps = s.caps := rfl
@[simp] theorem setPortT_clk (p : Nat) (x : PortTime) : (setPortT s p x).clk = s.clk := rfl
@[simp] theorem setPortT_acts (p : Nat) (x : PortTime) : (setPortT s p x).acts = s.acts := rfl
@[simp] theorem setPortT_nextAct (p : Nat) (x : PortTime) : (setPortT s p x).nextAct = s.nextAct := rfl
@[simp] theorem setPortT_views (p : Nat) (x : PortTime) : (setPortT s p x).views = s.views := rfl
@[simp] theorem setPortT_viewDue (p : Nat) (x : PortTime) : (setPortT s p x).viewDue = s.viewDue := rfl
@[simp] theorem setPortT_prog (p : Nat) (x : PortTime) : (setPortT s p x).prog = s.prog := rfl
@[simp] theorem setPortT_xf (p : Nat) (x : PortTime) : (setPortT s p x).xf = s.xf := rfl
@[simp] theorem setPortT_net (p : Nat) (x : PortTime) : (setPortT s p x).net = s.net := rfl
@[simp] theorem setPortT_obs (p : Nat) (x : PortTime) : (setPortT s p x).obs = s.obs := rfl
@[simp] theorem setPortT_boot (p : Nat) (x : PortTime) : (setPortT s p x).boot = s.boot := rfl
@[simp] theorem setPortT_opt (p : Nat) (x : PortTime) : (setPortT s p x).opt = s.opt := rfl
@[simp] theorem setPortT_sec (p : Nat) (x : PortTime) : (setPortT s p x).sec = s.sec := rfl
@[simp] theorem setPortT_tap (p : Nat) (x : PortTime) : (setPortT s p x).tap = s.tap := rfl
@[simp] theorem setPortT_i3c (p : Nat) (x : PortTime) : (setPortT s p x).i3c = s.i3c := rfl
@[simp] theorem setPortT_kiln (p : Nat) (x : PortTime) : (setPortT s p x).kiln = s.kiln := rfl
@[simp] theorem setPortT_bnd (p : Nat) (x : PortTime) : (setPortT s p x).bnd = s.bnd := rfl
@[simp] theorem setPortT_rgAns (p : Nat) (x : PortTime) : (setPortT s p x).rgAns = s.rgAns := rfl
@[simp] theorem setPortT_free (p : Nat) (x : PortTime) : (setPortT s p x).free = s.free := rfl
@[simp] theorem setPortT_pending (p : Nat) (x : PortTime) : (setPortT s p x).pending = s.pending := rfl

@[simp] theorem updOpt_tie (g : Opt → Opt) : (updOpt s g).tie = s.tie := rfl
@[simp] theorem updOpt_regs (g : Opt → Opt) : (updOpt s g).regs = s.regs := rfl
@[simp] theorem updOpt_caps (g : Opt → Opt) : (updOpt s g).caps = s.caps := rfl
@[simp] theorem updOpt_clk (g : Opt → Opt) : (updOpt s g).clk = s.clk := rfl
@[simp] theorem updOpt_tim (g : Opt → Opt) : (updOpt s g).tim = s.tim := rfl
@[simp] theorem updOpt_acts (g : Opt → Opt) : (updOpt s g).acts = s.acts := rfl
@[simp] theorem updOpt_nextAct (g : Opt → Opt) : (updOpt s g).nextAct = s.nextAct := rfl
@[simp] theorem updOpt_views (g : Opt → Opt) : (updOpt s g).views = s.views := rfl
@[simp] theorem updOpt_viewDue (g : Opt → Opt) : (updOpt s g).viewDue = s.viewDue := rfl
@[simp] theorem updOpt_prog (g : Opt → Opt) : (updOpt s g).prog = s.prog := rfl
@[simp] theorem updOpt_xf (g : Opt → Opt) : (updOpt s g).xf = s.xf := rfl
@[simp] theorem updOpt_net (g : Opt → Opt) : (updOpt s g).net = s.net := rfl
@[simp] theorem updOpt_obs (g : Opt → Opt) : (updOpt s g).obs = s.obs := rfl
@[simp] theorem updOpt_boot (g : Opt → Opt) : (updOpt s g).boot = s.boot := rfl
@[simp] theorem updOpt_sec (g : Opt → Opt) : (updOpt s g).sec = s.sec := rfl
@[simp] theorem updOpt_tap (g : Opt → Opt) : (updOpt s g).tap = s.tap := rfl
@[simp] theorem updOpt_i3c (g : Opt → Opt) : (updOpt s g).i3c = s.i3c := rfl
@[simp] theorem updOpt_kiln (g : Opt → Opt) : (updOpt s g).kiln = s.kiln := rfl
@[simp] theorem updOpt_bnd (g : Opt → Opt) : (updOpt s g).bnd = s.bnd := rfl
@[simp] theorem updOpt_rgAns (g : Opt → Opt) : (updOpt s g).rgAns = s.rgAns := rfl
@[simp] theorem updOpt_free (g : Opt → Opt) : (updOpt s g).free = s.free := rfl
@[simp] theorem updOpt_pending (g : Opt → Opt) : (updOpt s g).pending = s.pending := rfl

end Sys2Proof.Laws
end

