-- ==== Sys2Proof/Tests/Slice0.lean ====
section
/-! SUPPORT. Tests of the model: terms that WellFormed refuses, words worked out in the spec, and for each statement with hypotheses a state
and operands that meet them. -/

namespace Sys2Proof.Tests

open Sys2Proof Sys2Proof.Machine

-- One theorem at a time: each evaluation takes a thread of the kernel.
set_option Elab.async false

/-! ### States -/

/-- A device of a personality in service at tick n: CORE on ROSC, start-up in FIRMWARE. -/
def dev (p : Persona) (n : Nat) : State :=
  ((({ State.reset with
    tie := some ⟨p, true, 0, 0, 0, 0⟩
    clk := { Clk.reset with aon := true, rcOk := true, roscOk := true, gate := false, por := false, rcosc := 1000000, cclk := 5000 }
    tim := { Tim.reset with ticks := n, course := n / 65536 } }).put CLK_STATUS.CCLK_SRC 1).put CLK_STATUS.ROSC_ON 1).put CLK_BOOT_STATUS.PHASE 6

/-- An endpoint in service in course 3. -/
def ep : State := dev .ep 200000

/-- A register set to a word. -/
def withRg (s : State) (r : RegName) (i j v : Nat) : State := s.setRg r (BitVec.ofNat 32 v) i j

/-- Fields of an instruction word. -/
def fl (rd ra rb imm : Nat) : IFields := ⟨0, false, false, rd, ra, rb, BitVec.ofNat 32 imm, 0⟩

/-- A command of tenant 5 on queue 1 with sequence number 7, of n words. -/
def cmd7 (n : Nat) : Cmd := ⟨1, 41, 7, 5, List.replicate n 0, false, false, [], 0, 0, 0, .run, 0, 0, false, false⟩

/-- Context c bound to tenant t executes a command of eight words from word 2, with registers g and d. -/
def running (s : State) (c t : Nat) (g : Tab W64) (d : Tab (BitVec 512)) : State :=
  setCtx s c { Ctx.zero with ten := some t, g := g, d := d, cmds := [{ cmd7 8 with ten := t }], cur := some 1, pc := ⟨false, 2⟩ }

/-- Context 0 of tenant 5 about to issue, with g1 = 5, g2 = 7, g3 = 0x1000. -/
def prog : State := running ep 0 5 [(1, 5), (2, 7), (3, 0x1000)] []

/-- Window 0 of tenant t is the whole HOST space below 2^40, with every permission. -/
def winAll (s : State) (t : Nat) : State :=
  withRg (withRg s .TEN_WIN_LIMIT_LO t 0 0xFFFFFFFF) .TEN_WIN_LIMIT_HI t 0 0x8F0000FF

/-- The operation that judged checks give. -/
def opOf (j : Judged) : Option Op := match j with | .op o => some o | _ => none

/-- Context 0 of tenant 5 with a hod, every window, and a descriptor in d1. -/
def mover (d : Nat) : State := setUnit (winAll (running ep 0 5 [(1, 5), (2, 0x503), (3, 0x40000)] [(1, BitVec.ofNat 512 d)]) 5) 4 0 ⟨5, true, 0, false⟩

/-- A transfer of 256 bytes within the own device. -/
def own256 : Nat := 0x1000 + 0x2000 * 2 ^ 64 + 256 * 2 ^ 128 + 0xFFFF * 2 ^ 160

/-- A word access within the own device. -/
def ownWord : Nat := 0x2000 * 2 ^ 64 + 0xFFFF * 2 ^ 160

/-- Bond 9 of tenant 5: members 0x212 (this device) and 0x213 on a ring, slot 3 of generation 5 with 16 units of store, kiln slot 3. -/
def bonded (d : Nat) : State :=
  let s := setUnit (setUnit (mover d) 1 3 ⟨5, true, 0, false⟩) 2 3 ⟨5, true, 0, false⟩
  ((((((((((s.put GLB_FLAT_ID.FLAT_ID 0x212).put BND_BOND_CFG.TENANT 5 9).put BND_BOND_CFG.VALID 1 9).put BND_BOND_MEM.COUNT 2 9).put BND_MEMBER.FLAT_ID 0x212 0).put
    BND_MEMBER.FLAT_ID 0x213 1).put BND_BOND_STATUS.MEMBER 1 9).put BND_SLOT_CFG.GEN 5 3).put BND_SLOT_STORE.STORE_64K 16 3).put KLN_SLOT_CFG.GEN 5 3)

/-- All-reduce of 64 elements of 64 bits on bond 9. -/
def allReduce : Nat := 9 + 0x32 * 2 ^ 16 + 64 * 2 ^ 32 + 0x10000 * 2 ^ 64 + 0x20000 * 2 ^ 128

/-- Slot 3 runs an all-reduce of bond 9. -/
def coll : State :=
  let s := (bonded allReduce).put BND_BOND_STATUS.RUNNING 1 9
  match opOf (bondJudge (bonded allReduce) 0 3 (BitVec.ofNat 512 allReduce) 0) with
  | some o => let t := startOp s o; { t with bnd := { t.bnd with colls := [collNew t 3 9 o.id 5 0 2 (BitVec.ofNat 512 allReduce) 0 false] } }
  | none => s

/-! ### Terms that WellFormed refuses -/

theorem test_wf_rejects_port : Instr.wf (.tileSend 32) = false := by decide
theorem test_wf_rejects_register : Instr.wf (.add 0 (fl 32 1 2 0)) = false := by decide

/-! ### Words of the spec's examples -/

theorem test_word_waitFlagAcq : flougWord (.waitFlagAcq 0 2 (fl 0 6 7 0)) = some 0x19A000C700000000 := by decide +kernel
theorem test_decode_waitFlagAcq : flougDecode 0 0x19A000C700000000 0 = some (.waitFlagAcq 0 2 (fl 0 6 7 0)) := by decide +kernel
theorem test_decode_waitFlagAcq_limit : flougDecode 0 0x19801CC800003D09 0 = some (.waitFlagAcq 0 0 (fl 7 6 8 15625)) := by decide +kernel
theorem test_decode_waitSeq : flougDecode 0 0x180000A200000000 0 = some (.waitSeq 0 (fl 0 5 2 0)) := by decide +kernel
theorem test_decode_timeNext : flougDecode 0 0x1C20240000000000 0 = some (.timeNext 0 (fl 9 0 0 0)) := by decide +kernel
theorem test_decode_atTime : flougDecode 0 0x1C00012000000000 0 = some (.atTime 0 (fl 0 9 0 0)) := by decide +kernel
theorem test_decode_dld : flougDecode 0 0x1000050000000000 0 = some (.dld 0 (fl 1 8 0 0)) := by decide +kernel
theorem test_decode_bondStart : flougDecode 0 0x8000002C00000000 0 = some (.bondStart 0 (fl 0 1 12 0)) := by decide +kernel
theorem test_kiln_topm : kWord 0x2F ⟨1, 7, 1, 0, 0, 40, 0⟩ = 0xBCF1002800000000 := by decide +kernel
theorem test_kiln_emitk : kWord 0x32 ⟨1, 1, 0, 0, 0, 0, 0⟩ = 0xC890000000000000 := by decide +kernel
theorem test_table_word : decodeTableWord 64 0x1000050000000000 = none := by decide
theorem test_view_cfg_offset : regAt 0x600094 = some (.TEN_VIEW_CFG, 37, 0) := by decide +kernel
theorem test_view_entry_offset : regAt 0x684014 = some (.TEN_VIEW_ENTRY, 4101, 0) := by decide +kernel

/-! ### Floug -/

theorem wit_alu : Issues prog 0 (fl 4 1 2 0) ⟨.gw, .gr, .gr, 0, false⟩ = true ∧ Issues prog 0 (fl 4 1 0 0) ⟨.gw, .gr, .z, 0, false⟩ = true ∧
    Issues prog 0 (fl 0 1 0 0xFFFFFFFF) ⟨.gw, .gr, .z, 32, true⟩ = true ∧ Issues prog 0 (fl 3 1 2 0) ⟨.pd, .gr, .gr, 0, false⟩ = true ∧
    Issues prog 0 (fl 7 1 0 4) ⟨.pd, .gr, .z, 32, true⟩ = true := by decide +kernel
theorem wit_moves : Issues prog 0 (fl 1 0 7 0) ⟨.pd, .ps, .ps, 0, false⟩ = true ∧ Issues prog 0 (fl 1 0 0 0) ⟨.pd, .ps, .z, 0, false⟩ = true ∧
    Issues prog 0 (fl 31 0 0 0) ⟨.gw, .z, .z, 0, false⟩ = true ∧ Issues prog 0 (fl 0 1 0 0) ⟨.z, .gr, .z, 0, false⟩ = true ∧
    Issues prog 0 (fl 15 0 2 7) ⟨.dw, .z, .gr, 3, false⟩ = true ∧ Issues prog 0 (fl 3 15 0 7) ⟨.gw, .dr, .z, 3, false⟩ = true ∧
    Issues prog 0 (fl 2 0 0 0) ⟨.dw, .z, .z, 0, false⟩ = true ∧ Issues prog 0 (fl 2 3 0 0) ⟨.dw, .dr, .z, 0, false⟩ = true ∧
    Issues prog 0 (fl 2 0 0 8) ⟨.gw, .z, .z, 8, false⟩ = true ∧ curCmd prog 0 = some (cmd7 8) := by decide +kernel
theorem wit_reads : Issues prog 0 (fl 2 0 7 0) ⟨.gw, .z, .ps, 0, false⟩ = true ∧ Issues prog 0 (fl 2 0 0 0) ⟨.gw, .z, .z, 0, false⟩ = true ∧
    Issues prog 0 (fl 2 0 7 0) ⟨.gw, .z, .q, 0, false⟩ = true ∧ 8 * tenIdx ((ctxOf prog 0).ten.getD 0) + 7 < 4104 := by decide +kernel
theorem wit_control : Issues prog 0 (fl 0 0 0 0) fNone = true ∧ (ctxOf prog 0).pc.word + 1 < segLen prog 0 ∧ (ctxOf prog 0).stack = [] ∧
    Issues prog 0 (fl 0 0 0 5) ⟨.z, .z, .z, 32, false⟩ = true ∧ Issues prog 0 (fl 0 1 0 0) ⟨.z, .gr, .z, 0, false⟩ = true ∧
    Issues prog 0 (fl 0 1 0 0xFFFFFFFF) ⟨.z, .grw, .z, 32, false⟩ = true ∧ segLen prog 0 = 8 := by decide +kernel
theorem wit_branch : BranchTo prog 0 5 ⟨false, 7⟩ ∧ BranchTo prog 0 (-1) ⟨false, 1⟩ ∧ ∀ p, ¬ BranchTo prog 0 6 p := by
  have h : segLen prog 0 = 8 := by decide +kernel
  have e : (ctxOf prog 0).pc = ⟨false, 2⟩ := by decide +kernel
  unfold BranchTo
  rw [h, e]
  refine ⟨by decide, by decide, ?_⟩
  rintro ⟨c, w⟩ ⟨-, g, -, k⟩
  simp only at g k
  omega
theorem wit_call : callRegion (issued (withRg prog .TRW_CODE 5 0 0x80010010) 0 0 4 (fl 0 0 0 1023)) 0 = some (0x10000, 1024) ∧
    Issues (withRg prog .TRW_CODE 5 0 0x80010010) 0 (fl 0 0 0 1023) ⟨.z, .z, .z, 32, false⟩ = true := by decide +kernel
theorem wit_descriptor_memory : badSpace 0x1000 = false ∧ (gReg (ctxOf prog 0) 3 + (0 : BitVec 32).signExtend 64).toNat = 0x1000 ∧
    Issues (winAll prog 5) 0 (fl 1 3 0 0) ⟨.dw, .gr, .z, 32, false⟩ = true ∧
    ownBytesOk (issued (winAll prog 5) 0 4 0 (fl 1 3 0 0)) 5 0x1000 64 0 = true ∧
    Issues (winAll prog 5) 0 (fl 0 3 1 0) ⟨.z, .gr, .dr, 32, false⟩ = true ∧
    ownBytesOk (issued (winAll prog 5) 0 4 1 (fl 0 3 1 0)) 5 0x1000 64 1 = true := by decide +kernel
theorem wit_wait_seq : Issues prog 0 (fl 0 1 2 0) ⟨.z, .gr, .q, 32, false⟩ = true ∧ seqReached (issued prog 0 6 0 (fl 0 1 2 0)) 0 2 5 = false ∧
    (cmd7 8).q % 8 ≠ 2 ∧ seqReached (issued (prog.put TEN_SQ_DONE.SEQ 5 42) 0 6 0 (fl 0 1 2 0)) 0 2 5 = true := by decide +kernel
theorem wit_wait_flag : Issues (winAll prog 5) 0 (fl 4 3 2 0) ⟨.gw, .gr, .gr, 32, false⟩ = true ∧
    ownMemOk (issued (winAll prog 5) 0 6 0x08 (fl 4 3 2 0)) 5 0x1000 8 0 = true := by decide +kernel
theorem wit_at_time : Issues prog 0 (fl 0 1 0 300000) ⟨.z, .gr, .z, 32, true⟩ = true ∧ now prog < (gReg (ctxOf prog 0) 1 + immOf (fl 0 1 0 300000)).toNat ∧
    Issues prog 0 (fl 0 1 2 0) ⟨.z, .gr, .q, 0, false⟩ = true := by decide +kernel
/-- Context 0 holds a wait. -/
def waiting (k : WaitKind) (limit : Option Nat) : State := updCtx prog 0 (fun x => { x with wait := some ⟨k, limit, 100, false, none, false⟩ })
theorem wit_wait_limit : coreRuns (waiting (.flag 0x1000 0 5 4 false) (some 200000)) = true ∧ seqReached (waiting (.seq 2 43) (some 200000)) 0 2 43 = false ∧
    (waiting (.bond 3 1) (some 1)).get BND_SLOT_STEP.STEP 3 < 1 ∧ curCmd (waiting (.bond 3 1) (some 1)) 0 = some (cmd7 8) := by decide +kernel
/-- Context 512 of the service domain, with g1 = the offset of GLB_LOCK, g2 = a fire time, time locked before. -/
def svc : State := running (ep.put TIM_STATUS.EVER_LOCKED 1) 512 0x200 [(1, 0x1C), (2, 327680)] []
theorem wit_service : (ctxOf svc 512).ten = some serviceDom ∧ Issues svc 512 (fl 3 1 0 0) ⟨.gw, .gr, .z, 0, false⟩ = true ∧
    Issues svc 512 (fl 0 1 2 0) ⟨.z, .gr, .gr, 0, false⟩ = true ∧ (gReg (ctxOf svc 512) 1).toNat < regSize ∧
    Issues svc 512 (fl 0 2 1 4) ⟨.z, .gr, .dr, 32, false⟩ = true ∧ now svc < 327680 ∧
    schedRefuse (issued svc 512 9 2 (fl 0 2 1 4)) 512 4 327680 0 = none := by decide +kernel
theorem wit_transfers : Issues (mover own256) 0 (fl 0 1 0 0) ⟨.z, .dr, .z, 7, false⟩ = true ∧
    judgedWait (xferJudge (mover own256) 0 .put (dReg (ctxOf (mover own256) 0) 1) (modsOf 0)) = none ∧
    (opOf (xferJudge (issued (mover own256) 0 0x10 0 (fl 0 1 0 0)) 0 .put (dReg (ctxOf (mover own256) 0) 1) (modsOf 0))).isSome = true ∧
    (opOf (xferJudge (issued (mover own256) 0 0x10 1 (fl 0 1 0 0)) 0 .get (dReg (ctxOf (mover own256) 0) 1) (modsOf 0))).isSome = true ∧
    (opOf (xferJudge (issued (mover (own256 + 0xFFFF * 2 ^ 176)) 0 0x10 2 (fl 0 1 0 0)) 0 .copy (dReg (ctxOf (mover (own256 + 0xFFFF * 2 ^ 176)) 0) 1) (modsOf 0))).isSome = true ∧
    xferJudge (issued (mover (own256 - 256 * 2 ^ 128)) 0 0x10 0 (fl 0 1 0 0)) 0 .put (BitVec.ofNat 512 (own256 - 256 * 2 ^ 128)) (modsOf 0) = .nothing := by decide +kernel
theorem wit_words : Issues (mover ownWord) 0 (fl 4 1 0 0) ⟨.gw, .dr, .z, 7, false⟩ = true ∧ pairPending (mover ownWord) 0 4 true = false ∧
    judgedWait (wordJudge (mover ownWord) 0 (.atom 0 false) (BitVec.ofNat 512 ownWord) (modsOf 0) 8 2 2 4) = none ∧
    (opOf (wordJudge (issued (mover ownWord) 0 0x11 0 (fl 4 1 0 0)) 0 (.atom 0 false) (dReg (ctxOf (mover ownWord) 0) 1) (modsOf 0) 8 2 2 4)).isSome = true ∧
    (opOf (wordJudge (issued (mover ownWord) 0 0x11 0x12 (fl 4 1 0 0)) 0 (.atom 2 true) (dReg (ctxOf (mover ownWord) 0) 1) (modsOf 0) 16 2 2 4)).isSome = true ∧
    (opOf (wordJudge (issued (mover ownWord) 0 0x12 0 (fl 4 1 0 0)) 0 .measure (dReg (ctxOf (mover ownWord) 0) 1) (modsOf 0) 8 0 0 4)).isSome = true ∧
    (opOf (wordJudge (issued (mover ownWord) 0 0x14 0 (fl 0 1 2 0)) 0 .publish (dReg (ctxOf (mover ownWord) 0) 1) (modsOf 0) 8 1 1 0)).isSome = true := by decide +kernel
theorem wit_lists : (opOf (listJudge (issued (mover (0x1000 + 2 ^ 192 + 0x3000 * 2 ^ 256)) 0 0x10 3 (fl 0 1 0 0)) 0 .scatter
      (dReg (ctxOf (mover (0x1000 + 2 ^ 192 + 0x3000 * 2 ^ 256)) 0) 1) (modsOf 0))).isSome = true ∧
    (mover (0x1000 + 2 ^ 192 + 0x3000 * 2 ^ 256)).xf.ops = [] ∧ Issues (mover 0) 0 (fl 0 0 0 4) ⟨.z, .z, .z, 7, false⟩ = true ∧ modsBad .bond 4 = false ∧
    orderReached (hold (issued (mover 0) 0 0x13 0 (fl 0 0 0 4)) 0 ⟨.order true true 1, none, 200000, false, none, false⟩ 6) 0 true true 1 = true ∧
    orderReached (hold (issued (startOp (mover 0) ((opOf (xferJudge (mover own256) 0 .put (BitVec.ofNat 512 own256) (modsOf 0))).getD (opBase (mover 0) 0 .put 0 (modsOf 0) 1 0))) 0 0x13 0 (fl 0 0 0 4)) 0
      ⟨.order true true 1, none, 200000, false, none, false⟩ 6) 0 true true 1 = false := by decide +kernel
theorem wit_bond_instructions : (slotOf (bonded allReduce) 0 ukBond 5 2).toOption = some 3 ∧ (slotOf (issued (bonded allReduce) 0 0x20 0 (fl 0 1 2 0)) 0 ukBond 5 2).toOption = some 3 ∧
    Issues (bonded allReduce) 0 (fl 0 1 2 0) ⟨.z, .dr, .gr, 32, true⟩ = true ∧
    judgedWait (bondJudge (bonded allReduce) 0 3 (dReg (ctxOf (bonded allReduce) 0) 1) 0) = none ∧
    (opOf (bondJudge (issued (bonded allReduce) 0 0x20 0 (fl 0 1 2 0)) 0 3 (dReg (ctxOf (bonded allReduce) 0) 1) 0)).isSome = true ∧
    kilnWait (bonded allReduce) 0 2 = none ∧ (slotOf (issued (bonded allReduce) 0 0x21 0 (fl 0 3 2 64)) 0 ukKiln 8 2).toOption = some 3 ∧
    ownBytesOk (issued (bonded allReduce) 0 0x21 0 (fl 0 3 2 64)) 5 0x40000 512 0 = true ∧ parBad 0 = false := by decide +kernel
/-! ### Clocks and resets -/

/-- The block with its clocks as given, out of power-on reset. -/
def clk (f : Clk → Clk) : State := { ep with clk := f ep.clk }
theorem wit_oscillators : (∀ x ∈ [clk (fun c => { c with rcOk := false, rcosc := 1024 })], x.clk.aon = true ∧ x.clk.rcOk = false ∧ 1024 ≤ x.clk.rcosc ∧
      x.clk.por = false ∧ x.clk.core = false ∧ persona x ≠ .rsvd) ∧
    (∀ x ∈ [(clk (fun c => { c with roscOk := false, rosc := 16384 })).put CLK_BOOT_STATUS.PHASE 1], x.get CLK_STATUS.ROSC_ON = 1 ∧ x.clk.roscOk = false ∧
      16384 ≤ x.clk.rosc ∧ bootPhase x = 1) ∧
    (∀ x ∈ [clk (fun c => { c with roscOk := false, roscAt := 0, rcosc := 64000 })], x.get CLK_STATUS.ROSC_ON = 1 ∧ x.clk.roscOk = false ∧
      x.clk.roscAt + 64000 ≤ x.clk.rcosc ∧ x.get CLK_STATUS.CLOCK_LOST = 0) := by decide +kernel
theorem wit_plls : (ep.put CLK_STATUS.REF_OK 1).get CLK_STATUS.REF_OK = 1 ∧ ep.clk.por = false ∧ ep.clk.cpllEver = false ∧ ep.get CLK_STATUS.CCLK_SRC = 1 ∧
    ep.clk.lpllHold.testBit 7 = false ∧ ep.get CLK_STATUS.HOLD = 0 ∧ ((ep.put CLK_STATUS.LPLL_LOCK 0x80).get CLK_STATUS.LPLL_LOCK).testBit 7 = true ∧
    (ep.put CLK_STATUS.HOLD 1).get CLK_STATUS.HOLD = 1 := by decide +kernel
theorem wit_monitors : ep.clk.aon = true ∧ ep.clk.refWins < 15 ∧ 15 ≤ (clk (fun c => { c with refWins := 15 })).clk.refWins ∧
    (ep.put CLK_STATUS.CCLK_SRC 2).get CLK_STATUS.CCLK_SRC = 2 ∧ ep.get CLK_STATUS.FT_SRC = 0 ∧ (ep.put CLK_STATUS.TPLL_LOCK 1).get CLK_STATUS.TPLL_LOCK = 1 := by decide +kernel
theorem wit_switch : ep.get CLK_STATUS.CLOCK_LOST = 0 ∧ (clk (fun c => { c with ftNeed := true })).clk.roscOk = true ∧
    ((clk (fun c => { c with toCpll := true })).put CLK_STATUS.CPLL_LOCK 1).get CLK_STATUS.CPLL_LOCK = 1 ∧
    (clk (fun c => { c with needRosc := true })).clk.toCpll = false ∧ 640 ≤ (clk (fun c => { c with srcCycles := 640 })).clk.srcCycles ∧
    ep.get CLK_STATUS.D ≠ ep.get CLK_CCLK_CTL.DIV + 1 := by decide +kernel
theorem wit_resets : State.reset.clk.por = true ∧ State.reset.clk.core = false ∧ (clk (fun c => { c with core := true })).clk.rcOk = true ∧
    persona (clk (fun c => { c with core := true })) ≠ .rsvd ∧ bootPhase (ep.put CLK_BOOT_STATUS.PHASE 2) = 2 := by decide +kernel

/-! ### Register accesses -/

/-- The service domain on the register channel. -/
def rc : Acc := ⟨0, 0x200⟩
theorem wit_access_types : RegName.GLB_LOCK ∈ regAll ∧ (regDesc .GLB_ACCESS_ERR).w1c.testBit 6 = true ∧ (regDesc .TIM_LOOP).rw.testBit 0 = true := by decide +kernel
theorem wit_plain : ∀ x ∈ [(RegName.CLK_OBS_CFG, 0, 0x80000001), (.FLT_SEV, 127, 3), (.OBS_CTR_UNIT, 255, 0xFF), (.OBS_SMP_HEAD, 7, 1), (.OBS_TRC_TAG_VAL, 3, 1),
      (.OBS_TRC_TAG_MASK, 3, 1), (.OBS_TRC_PORT_MASK, 3, 1), (.CIR_PALLET_ENDS, 4095, 0x0001FFFF), (.LNK_ERR_CFG, 31, 1), (.TIM_LOOP, 0, 0x62), (.GLB_TEMP_CFG, 0, 0xFFF),
      (.TIM_ASYM, 31, 0x180)], Lands ep rc x.1 x.2.1 0 (BitVec.ofNat 32 x.2.2) = true := by decide +kernel
theorem wit_reads_registers : ∀ r ∈ [RegName.GLB_FLAT_ID, .GLB_LOCK, .LNK_CREDIT_CFG, .TEN_SQ_HEAD, .TEN_CQ_HEAD, .FLT_SEV, .HOD_CFG, .BND_SLOT_STORE, .OBS_TRC_CFG,
      .OPT_LM_CFG], regReach ep 0 (regOff r 0 0) = 2 ∧ regAt (regOff r 0 0) = some (r, 0, 0) ∧ regAbsent ep r 0 = false := by decide +kernel
theorem wit_errors : regReach ep 0 (regOff .GLB_TEMP_CFG 0 0) = 2 ∧ (0x1000 : W32).toNat / 4096 ≠ 0 ∧ 13 ≤ fldOf CLK_OBS_CFG.SEL (0xD : W32).toNat ∧
    (0xD : W32).toNat &&& (0xFFFFFFFF - regDefined .CLK_OBS_CFG) = 0 ∧ regReach ep 0 0x300900 = 2 ∧ regAt 0x300900 = none ∧
    regReach ep 0 0x1C = 2 ∧ tenMayWrite 5 .GLB_LOCK 0 = false ∧ tenMayRead ep 5 .GLB_LOCK 0 = false ∧ (0x1C : Nat) < 0x600000 := by decide +kernel
theorem wit_chip_control : Lands ep rc .CLK_RST_CTL 0 0 (forceFlds 0 [(CLK_RST_CTL.CORE, 1), (CLK_RST_CTL.KEY, 0xA5)]) = true ∧
    (forceFlds 0 [(GLB_LOCK.TOPO, 1)]).toNat = 1 ∧ Lands ep rc .GLB_LOCK 0 0 1 = true ∧ Lands ep rc .GLB_LOCK 0 0 2 = true ∧ Lands ep rc .GLB_LOCK 0 0 4 = true ∧
    roleOk ep 31 0 = true ∧ roleOk ep 31 3 = false ∧ portRole ep 31 ≠ 0 ∧ linkState ep 31 = 0 ∧
    Lands ep rc .GLB_PORT_ROLE 1 0 (BitVec.ofNat 32 (setBits (ep.rg .GLB_PORT_ROLE 1).toNat 30 2 0)) = true ∧
    Lands ep rc .TIM_CTL 0 0 (forceFlds 0 [(TIM_CTL.LOAD, 1)]) = true ∧ timState (ep.put TIM_STATUS.STATE 4) = 4 ∧
    now ep ≤ ((ep.put TIM_STATUS.STATE 4).putPair .TIM_SET 200000).getPair .TIM_SET ∧ Lands ep rc .TIM_FREQ 0 0 0x7FFFFFFF = true ∧
    Lands ep rc .CLK_CCLK_CTL 0 0 (forceFlds 0 [(CLK_CCLK_CTL.RETURN, 1)]) = true ∧
    Lands (ep.put CLK_BOOT_STATUS.PHASE 3) rc .CLK_BOOT_DOOR 0 0 (forceFlds 0 [(CLK_BOOT_DOOR.GO, 1)]) = true := by decide +kernel
theorem wit_doorbells : Rings ep ⟨0, 5⟩ (16 * (41 / 8) + 41 % 8) = true ∧ Rings ep ⟨0, 5⟩ (16 * (41 / 8) + 8 + 41 % 8) = true ∧ domOf ⟨0, 5⟩ = ownerOf 41 ∧
    domOf ⟨0, 6⟩ ≠ ownerOf 41 ∧ (ep.put TEN_SQ_STATUS.STATE 1 41).get TEN_SQ_STATUS.STATE 41 = 1 ∧
    sub32 16 ((ep.put TEN_SQ_CFG.LOG2_SIZE 4 41).get TEN_SQ_HEAD.COUNT 41) ≤ 2 ^ (ep.put TEN_SQ_CFG.LOG2_SIZE 4 41).get TEN_SQ_CFG.LOG2_SIZE 41 ∧
    2 ^ (ep.put TEN_SQ_CFG.LOG2_SIZE 4 41).get TEN_SQ_CFG.LOG2_SIZE 41 < sub32 17 0 ∧
    sub32 ((ep.put TEN_CQ_TAIL.COUNT 3 41).get TEN_CQ_TAIL.COUNT 41) 3 ≤ 2 ^ ep.get TEN_CQ_CFG.LOG2_SIZE 41 := by decide +kernel
theorem wit_queues : Lands ep rc .TEN_SQ_CFG 41 0 (forceFlds 0x86 [(TEN_SQ_CFG.EN, 1)]) = true ∧ ep.get TEN_SQ_CFG.EN 41 = 0 ∧
    placeOk ep 0 0x1000 6 64 = true ∧ placeOk ep 1 0x8000000 17 64 = false ∧ ctxExists ep 4 = true ∧ ctxExists ep 576 = false ∧
    Lands ep rc .TEN_CQ_CFG 41 0 (forceFlds 6 [(TEN_CQ_CFG.EN, 1)]) = true ∧ Lands (ep.put TEN_SQ_CFG.EN 1 41) rc .TEN_SQ_CFG 41 0 (forceFlds 0x86 [(TEN_SQ_CFG.EN, 0)]) = true ∧
    Lands prog rc .TEN_SQ_CTL 41 0 (forceFlds 0 [(TEN_SQ_CTL.ABORT, 1)]) = true ∧ cmdOf prog 0 1 = some (cmd7 8) ∧
    Lands (ep.put TEN_CQ_CFG.EN 1 41) rc .TEN_CQ_CFG 41 0 (forceFlds 6 [(TEN_CQ_CFG.EN, 0)]) = true := by decide +kernel
theorem wit_leases : Lands ep rc .TRW_CTX_CFG 511 0 0x01000005 = true ∧ Lands ep rc .HOD_CFG 63 0 0x80000005 = true ∧ Lands ep rc .BND_SLOT_CFG 31 0 0x80000005 = true ∧
    Lands ep rc .KLN_SLOT_CFG 31 0 0x80000005 = true ∧ Lands ep rc .CIR_PALLET_LEASE 4095 0 0x80000005 = true ∧ Lands (dev .mem 200000) rc .HOD_CFG 0 0 0x80000005 = true ∧
    isMem (dev .mem 200000) = true ∧ Lands ep rc .TRW_CTX_CFG 512 0 0x01000200 = true ∧ Lands ep rc .TRW_CTX_CFG 575 0 0x01000005 = true := by decide +kernel
theorem wit_tables : Lands ep rc .TEN_VIEW_CFG 511 0 0x82000600 = true ∧ Lands ep rc .TEN_VIEW_CFG 511 0 0x82000601 = true ∧
    Lands (withRg ep .TEN_VIEW_CFG 0 0 0x80010600) rc .TEN_VIEW_CFG 511 0 0x82000600 = true ∧ (withRg ep .TEN_VIEW_CFG 0 0 0x80010600).get TEN_VIEW_CFG.EN 0 = 1 ∧
    (ep.rg .TEN_VIEW_CFG 511).toNat &&& 0x7C00F800 = 0 ∧ Lands ep rc .TEN_VIEW_ENTRY 131071 0 0x001FFFFE = true ∧ Lands ep rc .TEN_VIEW_ENTRY 131071 0 0x0021C000 = true ∧
    Lands ep rc .TEN_VIEW_ENTRY 131071 0 0x0001FFFF = true ∧ Lands ep rc .TEN_WIN_BASE_HI 511 3 0x00200000 = true ∧
    (withRg (withRg ep .TEN_WIN_LIMIT_HI 511 3 0x80000000) .TEN_WIN_BASE_HI 511 3 0x00200000).get TEN_WIN_LIMIT_HI.EN 511 3 = 1 ∧
    Lands ep rc .TEN_WIN_LIMIT_LO 0 0 0x1000 = true ∧ Lands ep rc .SEC_TEN_CFG 511 0 3 = true ∧ (ep.put GLB_LOCK.TEST 1).get GLB_LOCK.TEST = 1 ∧
    ep.get SEC_TEN_CFG.ACTIVE 511 = 0 ∧ Lands ep rc .TRW_CODE 511 0 0x803F0000 = true ∧ Lands ep rc .TRW_CODE 511 0 0x803F3FFF = true := by decide +kernel
theorem wit_bond_registers : Lands ep rc .HOD_FLOW_RESET 0 0 (forceFlds 0x213 [(HOD_FLOW_RESET.GO, 1)]) = true ∧ ep.get HOD_FLOW_RESET.BUSY = 0 ∧
    Lands ep ⟨0, 5⟩ .HOD_RX_RELEASE 0 0 0xFFFF = true ∧ Lands ep rc .HOD_RX_RELEASE 0 0 0 = true ∧ Lands ep rc .HOD_MBOX_ADDR 0 0 0x100 = true ∧
    Lands ep rc .HOD_MBOX_CFG 0 0 0x80000006 = true ∧ Lands ep rc .HOD_RCB_CFG 0 0 0x80000010 = true ∧
    Lands (bonded 0) rc .BND_BOND_CFG 4095 0 (forceFlds 5 [(BND_BOND_CFG.VALID, 1)]) = true ∧ (bonded 0).get BND_BOND_CFG.VALID 4095 = 0 ∧
    Lands (bonded 0) rc .BND_BOND_EPOCH 9 0 0xFFFFFFFF = true ∧ Lands (bonded 0) rc .BND_MEMBER 65535 0 0x212 = true ∧ memberBusy (bonded 0) 65535 = false ∧
    memberBusy coll 1 = true ∧ Lands ep rc .BND_SLOT_STORE 31 0 0xFF = true := by decide +kernel
theorem wit_routing : Lands ep rc .RTE_TBL_DATA 3 0 0 = true ∧ routeOk ep (ep.net.rtHold.set 3 0) = true ∧ routeOk ep (ep.net.rtHold.set 3 1) = false ∧
    Lands ep rc .RTE_MC_DATA 10 0 0 = true ∧ Lands ep rc .CIR_OUT_SHADOW 31 255 0 = true ∧ Lands ep rc .CIR_IN_SHADOW 31 255 0x1000 = true ∧
    Lands ep rc .CIR_PALLET_PORTS 4095 0 (forceFlds 0x81F [(CIR_PALLET_PORTS.RESTORE, 1)]) = true ∧ Lands ep rc .CIR_NOTICE 0 0 0x1FFF = true ∧
    (unitOf ep 5 0xFFF).en = false ∧ Lands ep rc .RTE_THROTTLE 0 0 0x0000A014 = true ∧ Lands ep rc .RTE_THROTTLE 0 0 0x00001404 = true := by decide +kernel
/-- Port p in a link state, enabled, with every lane healthy and mapped. -/
def port (p st : Nat) : State :=
  (((((ep.put LNK_CTL.EN 1 p).put LNK_STATUS.STATE st p).put LNK_LANE_STATUS.HEALTHY 0x3FFFF p).put LNK_STATUS.GEN 1 p).put LNK_SPARE_STATUS.READY 0x30000 p).put CLK_STATUS.LPLL_LOCK 0xFF
theorem wit_link_registers : Lands (ep.put GLB_LOCK.TOPO 1) rc .LNK_CTL 31 0 1 = true ∧ (forceFlds 0 [(LNK_CTL.EN, 1)]).toNat = 1 ∧ ep.get LNK_CTL.EN 31 = 0 ∧
    portRole ep 31 ≠ 0 ∧ linkState ep 31 = 0 ∧ (forceFlds 1 [(LNK_CTL.EN, 0)]).toNat = 0 ∧ Lands (port 31 8) rc .LNK_CTL 31 0 0 = true ∧ (port 31 8).get LNK_CTL.EN 31 = 1 ∧
    (forceFlds 1 [(LNK_CTL.RETRAIN, 1)]).toNat = 3 ∧ Lands (port 31 8) rc .LNK_CTL 31 0 3 = true ∧ linkState (port 31 8) 31 = 8 ∧ (portOf (port 31 8) 31).retrain = none ∧
    (forceFlds 1 [(LNK_CTL.WIDEN, 1)]).toNat = 5 ∧ Lands (port 31 8) rc .LNK_CTL 31 0 5 = true ∧ (portOf (port 31 8) 31).width = none ∧
    (widthFor (healthy (port 31 8) 31).length ((port 31 8).get LNK_CFG.MAX_WIDTH 31)).isSome = true ∧ (forceFlds 1 [(LNK_CTL.RESYNC, 1)]).toNat = 9 ∧
    Lands (port 31 8) rc .LNK_CTL 31 0 9 = true ∧ (portOf (port 31 8) 31).resync = none ∧ Lands (port 31 4) rc .LNK_CTL 31 0 17 = true ∧ linkState (port 31 4) 31 = 4 ∧
    Lands (port 31 8) rc .LNK_CTL 31 0 33 = true ∧ Lands (port 31 8) rc .LNK_SPARE_CTL 31 0 (forceFlds 15 [(LNK_SPARE_CTL.GO, 1)]) = true ∧
    (port 31 8).get LNK_STATUS.SPARING 31 = 0 ∧ (readySpare (port 31 8) 31).isSome = true ∧ readySpare ((port 31 8).put LNK_SPARE_STATUS.READY 0 31) 31 = none ∧
    Lands ep rc .LNK_CFG 31 0 7 = true ∧ Lands ep rc .OPT_PORT_CFG 31 0 1 = true ∧ ep.get GLB_LOCK.TOPO = 0 ∧ Lands ep rc .LNK_CREDIT_CFG 31 7 0x00100030 = true ∧
    Lands (port 31 8) rc .LNK_CREDIT_CFG 31 7 0x00020012 = true := by decide +kernel
theorem wit_credits : ∃ d h : Nat → Nat, d = (fun k => if k = 7 then 18 else ep.get LNK_CREDIT_CFG.DATA 31 k) ∧ h = (fun k => if k = 7 then 2 else ep.get LNK_CREDIT_CFG.HDR 31 k) ∧
    18 ≤ d 7 ∧ 2 ≤ h 7 ∧ ((List.range 8).map d).sum ≤ 512 ∧ ((List.range 8).map h).sum ≤ 128 := ⟨_, _, rfl, rfl, by decide +kernel⟩
theorem wit_modules : Lands (ep.put OPT_LM_CFG.EN 1 7) rc .OPT_LM_CFG 7 0 (forceFlds 0 [(OPT_LM_CFG.EN, 0)]) = true ∧ lmState (ep.put OPT_LM_STATUS.STATE 2 7) 7 ≠ 0 ∧
    Lands ep rc .OPT_LM_CMD 7 0 (forceFlds 0x10 [(OPT_LM_CMD.GO, 1)]) = true ∧ ep.get OPT_LM_CMD.BUSY 7 = 0 ∧ lmState ep 7 = 0 ∧
    Lands ep rc .SEC_KX_CTL 0 0 (forceFlds 5 [(SEC_KX_CTL.GO, 1), (SEC_KX_CTL.OP, 4)]) = true ∧ ep.get SEC_KX_CTL.BUSY = 0 ∧
    Lands (dev .mem 200000) rc .SEC_SWEEP_CMD 0 0 (forceFlds 0 [(SEC_SWEEP_CMD.GO, 1)]) = true ∧ (dev .mem 200000).get SEC_SWEEP_CMD.BUSY = 0 ∧
    Lands ep rc .TRW_STAGE0 1 0 (forceFlds 0x1000 [(TRW_STAGE0.GO, 1)]) = true ∧ ep.get TRW_STAGE1.STATE 1 = 0 ∧
    Lands ep rc .TRW_STAGE1 1 0 (forceFlds 0 [(TRW_STAGE1.DISCARD, 1)]) = true ∧ stagePending ep 1 = false ∧
    (tabFind 1 { ep with boot := { ep.boot with stage := [(1, ⟨16, 1, 7, []⟩)] } }.boot.stage).isSome = true := by decide +kernel
theorem wit_observation_registers : (∀ r ∈ [RegName.OBS_CTR_SEL0, .OBS_CTR_SEL2, .OBS_CTR_SEL3], Lands ep rc r 255 0 0 = true) ∧ Lands ep rc .OBS_CTR_SEL1 255 0 0x00010000 = true ∧
    Lands ep rc .OBS_SMP_CFG 7 0 0x80010006 = true ∧ ep.get OBS_SMP_CFG.EN 7 = 0 ∧ (0x80010006 : W32).getLsbD 31 = true ∧
    (∀ r ∈ [RegName.OBS_SMP_BASE_LO, .OBS_SMP_BASE_HI], Lands ep rc r 7 0 0 = true) ∧ Lands (ep.put SEC_TEN_CFG.CONF 1 5) rc .OBS_TRC_CFG 3 0 0x0000A800 = true ∧
    conf (ep.put SEC_TEN_CFG.CONF 1 5) 5 = true ∧ (0x0000A800 : W32).getLsbD 11 = true ∧ bits (0x0000A800 : W32).toNat 13 10 = 5 ∧
    Lands ep rc .FLT_PEND 3 0 (forceFlds 0 [(⟨.FLT_PEND, 31, 1⟩, 1)]) = true ∧ Lands ep rc .FLT_FIRST 0 0 (forceFlds 0 [(FLT_FIRST.VALID, 1)]) = true ∧
    Lands ep rc .FLT_SW_RAISE 0 0 15 = true ∧ Lands ep rc .FLT_SW_RAISE 0 0 16 = true ∧ ep.get FLT_SEV.SEV 127 ≠ 0 ∧ ep.get FLT_FIRST.VALID = 0 := by decide +kernel
theorem wit_trace_commands : Lands ep rc .OBS_TRC_CTL 3 0 16 = true ∧ (forceFlds 0 [(⟨.OBS_TRC_CTL, 4, 1⟩, 1)]).toNat = 16 ∧ Lands ep rc .OBS_TRC_CTL 3 0 1 = true ∧
    trcLive (ep.put OBS_TRC_STATUS.STATE 1 3) 3 = true ∧ (trcOf ep 3).trig = false ∧ ep.get OBS_TRC_CFG.POLICY 3 ≠ 2 ∧
    trcLive ((ep.put OBS_TRC_STATUS.STATE 1 3).put OBS_TRC_CFG.POLICY 2 3) 3 = true ∧ (trcOf ep 3).half = 0 ∧ ep.get OBS_TRC_STATUS.FROZEN_B 3 = 0 ∧
    Lands prog rc .OBS_DBG_CTL 0 0 (forceFlds 0 [(OBS_DBG_CTL.CMD, 1)]) = true ∧ (forceFlds 0 [(OBS_DBG_CTL.CMD, 1)]).toNat % 1024 = 0 ∧ ctxExists prog 0 = true ∧
    ctxConf prog 0 = false ∧ (ctxOf prog 0).halt = none ∧ (ctxOf (updCtx prog 0 (fun x => { x with halt := some (0, 0) })) 0).halt ≠ none ∧
    Lands prog rc .OBS_DBG_CTL 0 0 (forceFlds 0 [(OBS_DBG_CTL.CMD, 3)]) = true ∧ Lands prog rc .OBS_DBG_REG 383 0 1 = true ∧ Lands prog rc .OBS_DBG_REG 2 0 1 = true ∧
    drained prog 0 = false ∧ drained (updCtx prog 0 (fun x => { x with halt := some (0, 0) })) 0 = true := by decide +kernel

/-! ### Issue, commands, time -/

/-- Context 0 as `prog`, its command holding ADD g4, g1, g2 and ADDI g4, g1, 9 from word 2 on; the course picks context 3 first. -/
def issuing : State :=
  updCtx prog 0 (fun x => { x with cmds := [{ cmd7 8 with words := [0, 0, encodeWord 1 0 (fl 4 1 2 0), encodeWord 2 0 (fl 4 1 0 9), 0, 0, 0, 0] }] })
theorem wit_core : (∀ k, k < 32 → canIssue ep (32 * 17 + k) = false) ∧ (32 * 0 + (course issuing + 29) % 32 = 0) ∧ canIssue issuing 0 = true ∧
    (∀ j, j < 29 → canIssue issuing (32 * 0 + (course issuing + j) % 32) = false) ∧ bpHit issuing 0 = none ∧
    fieldsOf (segWord issuing 0 2) (segWord issuing 0 3) = { fl 4 1 2 0 with ext := encodeWord 2 0 (fl 4 1 0 9) } ∧
    flougDecode 0 (segWord issuing 0 2) (segWord issuing 0 3) = some (.add 0 { fl 4 1 2 0 with ext := encodeWord 2 0 (fl 4 1 0 9) }) ∧
    Issues issuing 0 { fl 4 1 2 0 with ext := encodeWord 2 0 (fl 4 1 0 9) } ⟨.gw, .gr, .gr, 0, false⟩ = true := by decide +kernel
theorem wit_guards : regPending (ctxOf prog 0) (fl 4 1 2 1) ⟨.gw, .gr, .gr, 0, false⟩ = false ∧ formBad (fl 4 1 2 1) ⟨.gw, .gr, .gr, 0, false⟩ = true ∧
    guardOn (ctxOf prog 0) { fl 4 1 2 0 with pg := 7 } = false ∧ formBad { fl 4 1 2 0 with pg := 7 } ⟨.gw, .gr, .gr, 0, false⟩ = false ∧
    ((fl 4 1 2 0).pg == 0 && { fl 4 1 2 0 with pn := true }.pn) = true := by decide +kernel
theorem wit_encoding : Instr.wf (.add 0 (fl 4 1 2 0)) = true ∧ flougEnc (.add 0 (fl 4 1 2 0)) = some (1, 0, fl 4 1 2 0) ∧
    flougDecode 0 (encodeWord 1 0 (fl 4 1 2 0)) 0 = some (.add 0 (fl 4 1 2 0)) ∧ flougDecode 0 (encodeWord 0x3F 0 (fl 0 0 0 0)) 0 = none := by decide +kernel
theorem wit_canonical : Memory.wf State.reset.xf.spw = true ∧ step State.reset ≠ .fault .none := by
  refine ⟨by decide, ?_⟩
  show Host.Outcome.next _ ≠ _
  intro h; cases h

/-! ### Queues, boundaries and time exchange -/

/-- Command 1 of tenant 5 has ended on context 0 with a record to write; command 9 has an error status on ring 42. -/
def ended : State :=
  updCtx (setUnit ep 6 0 ⟨5, true, 0, false⟩) 0 (fun x => { x with ten := some 5, cmds :=
    [{ cmd7 8 with ended := true, words := [0x10, 0, 0, 0, 0, 0, 0, 0], seq := 0 }, { cmd7 8 with id := 9, seq := 1, ended := true, stats := [⟨7, 0⟩], ring := 2 }] })
/-- Queue 43 of tenant 5 is active for context 0, with an entry pending; the course picks queue 3 first. -/
def fetching : State :=
  (((((setUnit (ep.put SEC_TEN_CFG.ACTIVE 1 5) 6 0 ⟨5, true, 0, false⟩).put TEN_SQ_CFG.EN 1 43).put TEN_SQ_STATUS.STATE 1 43).put TEN_SQ_CFG.LOG2_SIZE 4 43).put TEN_SQ_HEAD.COUNT 0 43)
def fetching1 : State := updCtx { fetching with prog := { fetching.prog with sqTail := [(43, 1)] } } 0 (fun x => { x with ten := some 5 })
theorem wit_fetch : mayFetch fetching1 0 = true ∧ (course fetching1 + 0) % 8 = 3 ∧ sqReady fetching1 0 (8 * tenIdx ((ctxOf fetching1 0).ten.getD 0) + 3) = true ∧
    tabFind 43 fetching1.prog.park = none := by decide +kernel
theorem wit_commands : (cmdOf ended 0 1).isSome = true ∧ (∀ m ∈ (cmdOf ended 0 1).toList, m.id = 1 ∧ cmdReady ended 0 m = true ∧ m.q < 4104 ∧ hdrCpl m = 1 ∧ (topStat m.stats).code = 0 ∧
      tabGet [] m.q ended.prog.sqDone = [] ∧ m.seq = (ended.get TEN_SQ_DONE.SEQ m.q + 1) % 2 ^ 32) ∧
    (cmdOf ended 0 9).isSome = true ∧ (∀ m ∈ (cmdOf ended 0 9).toList, m.id = 9 ∧ cmdReady ended 0 m = true ∧ ¬ (hdrCpl m = 1 ∧ (topStat m.stats).code = 0) ∧
      8 * (m.q / 8) + m.ring = 42 ∧ ended.get TEN_CQ_CFG.EN 42 = 0 ∧ (ended.put TEN_CQ_CFG.EN 1 42).get TEN_CQ_CFG.EN 42 = 1 ∧
      ended.get TEN_CQ_CFG.EN (8 * 5 + ended.get TEN_SQ_CFG.ERR_RING m.q) = 0 ∧ ((ended.put TEN_CQ_CFG.EN 1 40).get TEN_CQ_CFG.EN (8 * 5 + ended.get TEN_SQ_CFG.ERR_RING m.q)) = 1) := by decide +kernel
theorem wit_record : let s := { ended with prog := { ended.prog with rings := [(42, [(0, 9)])] } }.put TEN_CQ_CFG.EN 1 42
    tabGet [] 42 s.prog.rings = [(0, 9)] ∧ (cmdOf s 0 9).isSome = true ∧ coreRuns s = true ∧ tabFind 42 s.prog.ringBusy = none ∧ ringFull s 42 = false := by decide +kernel
theorem wit_boundaries : course ep = 3 ∧ ep.tim.course = 3 ∧ course (dev .ep 262144) ≠ { (dev .ep 262144).tim with course := 3 }.course ∧
    (ctxOf (waiting (.time 200000) none) 0).wait.isSome = true ∧
    tabFind (unitKey 4 2) (setUnit ep 4 2 ⟨5, true, 0, true⟩).sec.units = some ⟨5, true, 0, true⟩ ∧ scrubsRun { (setUnit ep 4 2 ⟨5, true, 0, false⟩) with free := 1 } = false ∧
    scrubsRun (setUnit (setUnit ep 4 2 ⟨5, true, 0, true⟩) 6 3 ⟨5, true, 0, true⟩) = true ∧
    tabFind 255 { ep with obs := { ep.obs with frozenAt := [(255, 1)] } }.obs.frozenAt = some 1 ∧ course ep < 3 + max 1 (ep.get SEC_SCRUB_CFG.READOUT) ∧
    ¬ course ep < 1 + max 1 ((ep.put SEC_SCRUB_CFG.READOUT 2).get SEC_SCRUB_CFG.READOUT) := by decide +kernel
/-- Port p active, in slot 5 of course 3, its request of number 1 under way since tick 200000. -/
def timing (p : Nat) : State :=
  setPortT ({ (port p 8).put TIM_CTL.EXCH_EN 1 with tim := { (port p 8).tim with ticks := 3 * 65536 + 1280 } }) p { PortTime.zero with seq := 1, reqT1 := some 51200000, reqAt := 197000, owed := [(2, 3, 4)] }
theorem wit_time_tiles : linkActive (timing 31) 31 = true ∧ (timing 31).on TIM_CTL.EXCH_EN = true ∧ slotNow (timing 31) < 64 ∧
    (portT (timing 31) 31).sentCourse ≠ some (course (timing 31)) ∧ inReserved (timing 31) 31 = false ∧ (portT (timing 31) 31).owed = [(2, 3, 4)] ∧
    (portT (timing 31) 31).reqT1 = some 51200000 ∧ (portT (timing 31) 31).seq = 1 ∧ now (timing 31) ≤ (portT (timing 31) 31).reqAt + 65536 ∧
    (portT (timing 0) 31).reqT1 = none := by decide +kernel

/-! ### Packets -/

/-- A packet of tenant 5 from device 0x213 to this device. -/
def pk (op vc seq target : Nat) (pay : List Byte) (e32 e36 : Nat := 0) : Packet := ⟨0x212, 0x213, 5, vc, 0, op, 0, 0, seq, target, 0, 0, 0, 0, e32, e36, 0, pay⟩

/-- A device in service with flat ID 0x212, tenant 5 active with a window over HOST memory. -/
def peer (p : Persona) : State := ((winAll (dev p 200000) 5).put GLB_FLAT_ID.FLAT_ID 0x212).put SEC_TEN_CFG.ACTIVE 1 5
theorem wit_requests : ∀ p ∈ [pk 0x10 1 0 0x1000 [1, 2, 3], pk 0x11 1 0 0x1000 [] 2048, pk 0x12 1 0 0x1000 (leBytes 8 0 ++ leBytes 8 5), pk 0x12 1 0 0x1000 (leBytes 8 0x12 ++ leBytes 32 5),
      pk 0x13 1 0 0x1000 (leBytes 16 0x213) 256, pk 0x14 1 0 0x1000 [], pk 0x15 1 0 0x1000 (leBytes 8 9), pk 0x16 1 0 0x1000 (leBytes 8 9), pk 0x20 2 0 0x1000 [1]],
    Arrives (peer .ep) p = true ∧ AtHead (peer .ep) p = true ∧ Permits (peer .ep) p = true := by decide +kernel
/-- 257 pages, from device 0x212's tag table at 1 MiB on. -/
def paged : State := (peer .mem).put HOD_PS_CFG.PAGES 257
theorem wit_requests_else : Arrives (peer .ep) { pk 0x17 0 0 0x1000 [1] with vc := 0 } = true ∧ tenActive (peer .ep) 5 = true ∧ AtHead (peer .ep) (pk 0x17 0 0 0x1000 [1]) = true ∧
    Arrives paged (pk 0x21 2 0 0x100FFF8 (leBytes 8 1) 0 0x10) = true ∧ AtHead paged (pk 0x21 2 0 0x100FFF8 (leBytes 8 1) 0 0x10) = true ∧
    innerOp (pk 0x21 2 0 0x100FFF8 (leBytes 8 1) 0 0x10) ≠ 0x12 ∧ targetCheck paged (pk 0x21 2 0 0x100FFF8 (leBytes 8 1) 0 0x10) = none ∧
    mboxAt paged (offsetOf 0x100FFF8) = none ∧ isPage paged (pk 0x21 2 0 0x100FFF8 (leBytes 8 1) 0 0x10) = true ∧ pageOf 0x100FFF8 = pageOf (0x100FFF8 + 8 - 1) ∧
    targetCheck (peer .sw) (pk 0x10 1 0 0x1000 [1]) ≠ none ∧ Arrives (peer .sw) (pk 0x10 1 0 0x1000 [1]) = true ∧
    Arrives (peer .ep) (pk 0x10 1 4095 0x1000 [1]) = true ∧ sub32 4095 (rxOf (peer .ep) (rxKey (pk 0x10 1 4095 0x1000 [1]))).expected = 4095 ∧
    robUsed (peer .ep) + 48 + 1 ≤ ((peer .ep).put HOD_ROB_CFG.SIZE_64K 1).get HOD_ROB_CFG.SIZE_64K * 65536 ∧
    2 ^ 31 ≤ sub32 0xFFFFFFFF 0 ∧ Arrives (peer .ep) (pk 0x10 1 0xFFFFFFFF 0x1000 [1]) = true := by decide +kernel
/-- A request of hod 3 to device 0x213 on VC1 waits for its answer. -/
def entry (seq : Nat) (rsp : Bool) : Replay := ⟨0x213 * 16 + 1, seq, 1, 0x40000, 64, 1, some 1000, some 1000, 0, 0, rsp, false, true, false, { pk 0x11 1 seq 0x1000 [] 64 with dst := 0x213, src := 0x212, hod := 3 }⟩
/-- An operation of context 0 with its requests under way. -/
def sender (k : OpKind) (d : Nat) : State :=
  let s := updCtx (((running (peer .ep) 0 5 [] []).put HOD_CFG.GEN 0 3).put HOD_XPORT_CFG.REPLAY_MAX 7) 0 (fun x => { x with pendG := 0x30 })
  { s with xf := { s.xf with ops := [{ opBase s 0 k (BitVec.ofNat 512 d) ⟨0, 0, false, false⟩ 1 4 with id := 1, hod := 3 }], nextOp := 2, replay := [(3, [entry 8 true, entry 9 false])] } }
def reply (op : Nat) (pay : List Byte) : Packet := { pk op 3 8 0 pay with hod := 3 }
theorem wit_responses : (∀ x ∈ [(OpKind.get, 0x30, leBytes 64 7), (.atom 0 false, 0x31, leBytes 8 7), (.atom 2 true, 0x31, leBytes 16 7), (.measure, 0x32, leBytes 16 7), (.copy, 0x35, [])],
      Arrives (sender x.1 own256) (reply x.2.1 x.2.2) = true ∧ rspEntry (sender x.1 own256) (reply x.2.1 x.2.2) = some (entry 8 true) ∧
      rspStale (sender x.1 own256) (reply x.2.1 x.2.2) = false ∧ conf (sender x.1 own256) 5 = false ∧ (opById (sender x.1 own256) 1).isSome = true) ∧
    dKilnOn (BitVec.ofNat 512 own256) = false ∧ (leBytes 64 7).take (entry 8 true).len ≠ [] ∧ (ctxOf (sender .measure 0) 0).pendG.testBit 4 = true ∧
    (ctxOf (sender .measure 0) 0).pendG.testBit 5 = true ∧ Arrives (sender .put own256) { pk 0x33 3 9 0 (leBytes 8 0 ++ leBytes 8 1) with hod := 3 } = true ∧
    Arrives (sender .put own256) { pk 0x34 3 9 0 (leBytes 2 7 ++ leBytes 6 1 ++ leBytes 8 0) with hod := 3 } = true ∧
    nackEntry (sender .put own256) { pk 0x34 3 9 0 (leBytes 2 7 ++ leBytes 6 1 ++ leBytes 8 0) with hod := 3 } = some (entry 9 false) ∧ bit (entry 9 false).flow 3 = false := by decide +kernel
/-- A flow from device 0x213 that has accepted packets 0 to 3 and holds packet 6. -/
def heldFlow (mc : Bool) : State :=
  setRx (((peer .ep).put HOD_XPORT_CFG.RTO 16).put HOD_XPORT_CFG.REPLAY_MAX 7) (if mc then mcBase + 0x213 * 65536 + 0xC001 else 0x2131) { RxFlow.zero with expected := 4, oldest := some 199000, held := [(pk 0x10 1 6 0x1000 [1], 4)], gapAt := some 1000 }
theorem wit_timers : coreRuns (heldFlow false) = true ∧ (rxOf (heldFlow false) 0x2131).oldest = some 199000 ∧ (rxOf (heldFlow false) 0x2131).wmAt = none ∧ 199000 + 512 ≤ now (heldFlow false) ∧
    ackNext (heldFlow false) 0x2131 ≠ (rxOf (heldFlow false) 0x2131).acked ∧
    (replayOf (sender .put own256) 3).find? (fun r => r.flow == 0x2131 && r.seq == 9) = some (entry 9 false) ∧
    1000 + 64 * max 1 ((sender .put own256).get HOD_XPORT_CFG.RTO) ≤ now (sender .put own256) ∧ (entry 9 false).tries ≤ (sender .put own256).get HOD_XPORT_CFG.REPLAY_MAX ∧
    ((sender .put own256).put HOD_XPORT_CFG.REPLAY_MAX 0).get HOD_XPORT_CFG.REPLAY_MAX < (entry 9 false).tries ∧ bit 0x2131 3 = false ∧ (opById (sender .put own256) 1).isSome = true ∧
    (rxOf (heldFlow true) (mcBase + 0x213 * 65536 + 0xC001)).gapAt = some 1000 ∧ keyMc (mcBase + 0x213 * 65536 + 0xC001) = true ∧
    1000 + ((heldFlow true).get HOD_XPORT_CFG.REPLAY_MAX + 2) * (heldFlow true).get HOD_XPORT_CFG.RTO * 64 ≤ now (heldFlow true) ∧ sub32 6 4 < 4096 ∧
    ({ ep with xf := { ep.xf with resetPeer := some 0x213 } }).xf.resetPeer = some 0x213 ∧
    ([⟨5, 0x213, 0x1000, 1000, [], false, true, []⟩].filter (fun (e : Rcb) => e.ten == 5 && e.keep))[0]? = some ⟨5, 0x213, 0x1000, 1000, [], false, true, []⟩ ∧ 1000 + rcbLife ep ≤ now ep := by decide +kernel

/-! ### Bonds -/

/-- The collective of slot 3 with transfers set by f; tenant 5 is active. -/
def step3 (f : Coll → Coll) : State :=
  let s := (coll.put SEC_TEN_CFG.ACTIVE 1 5).put BND_BOND_CFG.STEP_TO 1 9
  { s with bnd := { s.bnd with colls := s.bnd.colls.map f } }
/-- Step 1 receives blocks 0 to 7 from device 0x213 and sends it blocks 8 to 15. -/
def stepping : State := step3 (fun c => { c with total := 2, xs := [⟨1, false, 0x213, 1, 0, 8, 0, 0, 0, [], 8, 0, false⟩, ⟨1, true, 0x213, 1, 8, 16, 8, 0, 0, [], 8, 0, false⟩], sent := [⟨1, 8, pk 0x40 4 1 0 [], some 1000⟩], timer := some 1000, lateAt := some 1000 })
def ctl (kind : Nat) (ep w12 w16 w20 : Nat) : Packet := pk 0x41 5 1 0 (leBytes 4 kind ++ leBytes 4 ep ++ leBytes 4 0 ++ leBytes 4 w12 ++ leBytes 4 w16 ++ leBytes 140 w20) 9
theorem wit_bond_messages : (collAt stepping 3).isSome = true ∧ collOfBond stepping 9 = collAt stepping 3 ∧ bondEpoch stepping 9 = 0 ∧
    (∀ x ∈ [(1, 0, 8, 1024), (2, 0, 8, 0), (3, 0, 0xFFFF, 0), (6, 0, 0, 0), (5, 0, 0, 0), (4, 1, 0, 0), (1, 7, 8, 1024), (3, 0, 0, 0)],
      Arrives stepping (ctl x.1 x.2.1 x.2.2.1 x.2.2.2 1) = true ∧ leAt (ctl x.1 x.2.1 x.2.2.1 x.2.2.2 1).pay 0 1 = x.1 ∧ leAt (ctl x.1 x.2.1 x.2.2.1 x.2.2.2 1).pay 4 4 = x.2.1 ∧
      leAt (ctl x.1 x.2.1 x.2.2.1 x.2.2.2 1).pay 12 4 = x.2.2.1 ∧ leAt (ctl x.1 x.2.1 x.2.2.1 x.2.2.2 1).pay 16 4 = x.2.2.2) ∧
    bondValid stepping 9 = true ∧ stepping.get BND_BOND_CFG.TENANT 9 = 5 ∧ stepping.get BND_BOND_STATUS.SELF 9 = 0 ∧
    collOfBond { stepping with bnd := { stepping.bnd with colls := [] } } 9 = none ∧ stepping.get BND_BOND_MEM.BASE 9 + bondCount stepping 9 ≤ 65536 := by decide +kernel
/-- Step data of block 0 of format 3: eight values of 64 bits, all zero, and its CHECK. -/
def data3 (epoch seq off : Nat) : Packet :=
  pk 0x40 4 seq 0 (leBytes 64 0 ++ leBytes 8 (check61 3 off [⟨List.replicate 8 0, 0, false⟩]) ++ leBytes 2 0 ++ leBytes 1 3 ++ leBytes 1 1 ++ leBytes 4 0) (9 + 65536 * epoch) off
theorem wit_step_data : Arrives stepping (data3 0 1 0) = true ∧ conf stepping 5 = false ∧ isSw stepping = false ∧ (data3 7 1 0).e32 / 65536 ≠ bondEpoch stepping 9 % 65536 ∧
    (data3 0 1 0).e32 / 65536 = bondEpoch stepping 9 % 65536 ∧ (∀ c ∈ (collAt stepping 3).toList, (dataX c (data3 0 1 0)).isSome = true ∧ cFmt c.desc = 3 ∧ c.seen = [] ∧ cMultEn c.desc = false ∧
      cMult c.desc = 0) ∧ (dataOk 3 0 (data3 0 1 0).pay).isSome = true ∧ (dataX { ((collAt stepping 3).getD (collNew ep 0 0 0 0 0 0 0 0 false)) with seen := [(0, 0, 1)] } (data3 0 1 0)).isSome = true := by decide +kernel
theorem wit_bond_timers : coreRuns stepping = true ∧ (∀ c ∈ (collAt stepping 3).toList, c.sent.length = 1 ∧ c.timer = some 1000 ∧ collHeld c = false ∧ reformable stepping c = false ∧
      reformable (stepping.put BND_BOND_CFG.POLICY 1 9) c = true ∧ c.lateAt = some 1000 ∧ c.answered = false ∧ awaited c = [1] ∧ c.members.length = 2 ∧ memFlat c ((c.lateTo + 1) % 2) ≠ ownFlat stepping ∧
      collFinished stepping c = false ∧ c.total ≠ 0 ∧ lastDone stepping c ≤ c.done) ∧
    1000 + stepping.get HOD_XPORT_CFG.RTO * 64 ≤ now stepping ∧ 1000 + 2 * stepTo stepping 9 ≤ now stepping ∧
    (∀ c ∈ (collAt (step3 (fun c => { c with total := 2, xs := [⟨1, false, 0x213, 1, 0, 8, 0, 0, 0, [], 8, 8, true⟩, ⟨2, true, 0x213, 1, 8, 16, 8, 1, 0, [], 8, 0, false⟩] })) 3).toList,
      c.done < lastDone stepping c ∧ lastDone stepping c < c.total) ∧
    ({ ep with bnd := { ep.bnd with coords := [(9, ⟨1000, [], [1], []⟩)] } }).bnd.coords = [(9, ⟨1000, [], [1], []⟩)] ∧ 1000 + 65536 ≤ now ep := by decide +kernel

/-! ### The kiln -/

/-- Fields that use what the operation uses: width 1, mask k6, v1 from v2 and v3, or k1 from k2 and k3. -/
def kf (op : Nat) : KFields :=
  ⟨if op ∈ [0, 1, 0x1E, 0x1F, 0x30, 0x33] then 0 else 1, if op ∈ [0, 1, 0x30, 0x33] then 0 else 6, if op ∈ [0, 1, 0x30, 0x31, 0x32, 0x33] then 0 else 1,
   if op ∈ [0, 1, 2, 3, 4, 0x34] then 0 else 2, if op ∈ [8, 9, 10, 11, 12, 13, 14, 15, 16, 17, 18, 19, 0x17, 0x18, 0x1A, 0x1B, 0x21, 0x28, 0x29, 0x2A, 0x2B, 0x2C, 0x2D] then 3 else 0,
   if op = 3 then 62 else if op ∈ [0x14, 0x15, 0x16, 0x19] then 63 else if op ∈ [0x1C, 0x1D, 0x1E, 0x1F] then 1 else if op = 0x1B then 7 else if op ∈ [0x20, 0x22, 0x23, 0x2F] then 128 else 0,
   if op = 0x30 then 256 else if op ∈ [2, 4, 0x2F, 0x32] then 0xFFFFFFFF else 0⟩
/-- Program ADD, END with the drain ADDS, END, and two units of one job on cluster 19. -/
def kprog : List W64 := [kWord 8 (kf 8), kWord 0 (kf 0), kWord 10 (kf 10), kWord 0 (kf 0)]
def kjob (units : List KUnit) (last : Bool) : KJob :=
  ⟨7, 2, 1, some 19, 2, 3, 5, 0, 1, 2, kprog, 0, units, units.length, 0, [], 0, last, [], 0, 0, 0, 4096, false, [], 0, none, false, [], 0⟩
def kiln (j : KJob) : State := { peer .ep with kiln := { (peer .ep).kiln with jobs := [j] } }
/-- Lane 7 of cluster 19 runs unit 7 of the job, about to run END or LDS. -/
def laned (j : KJob) : State := setLane (kiln j) 159 { Lane.zero with job := 7, unit := ⟨7, 0, [1, 2], [0], 0⟩, pc := 1 }
theorem wit_kiln_words : coreRuns ep = true ∧ (laneOf ep 159).wait = none ∧
    ∀ op ∈ [0, 1, 2, 3, 4, 5, 8, 9, 10, 11, 12, 13, 14, 15, 16, 17, 18, 19, 0x14, 0x15, 0x16, 0x17, 0x18, 0x19, 0x1A, 0x1B, 0x1C, 0x1D, 0x1E, 0x1F, 0x20, 0x21, 0x22, 0x23, 0x28, 0x29, 0x2A, 0x2B, 0x2C, 0x2D,
      0x2E, 0x2F, 0x30, 0x31, 0x32, 0x33, 0x34], kWordBad (kWord op (kf op)) = none ∧ kFields (kWord op (kf op)) = kf op := by decide +kernel
theorem wit_kiln_units : (kiln (kjob [⟨7, 0, [1, 2], [0], 0⟩] false)).kiln.jobs.filter (fun (x : KJob) => x.cluster == some 19 && x.stat.isNone && x.queue.any (fun u => u.u % 8 == 7)) =
      [kjob [⟨7, 0, [1, 2], [0], 0⟩] false] ∧ (laneOf (kiln (kjob [⟨7, 0, [1, 2], [0], 0⟩] false)) 159).job = 0 ∧ (laneOf (kiln (kjob [] false)) 159).free ≤ (kiln (kjob [] false)).clk.cclk ∧
    (kiln { kjob [] true with nextU := 1 }).kiln.jobs.find? (fun j => j.cluster == some 19 && j.pos == 2) = some { kjob [] true with nextU := 1 } ∧
    jobById (kiln { kjob [] true with nextU := 1 }) 7 = some { kjob [] true with nextU := 1 } ∧ jobInDone (kiln { kjob [] true with nextU := 1 }) { kjob [] true with nextU := 1 } = true ∧ kDrain kprog ≠ [] ∧
    jobById (laned (kjob [] false)) (laneOf (laned (kjob [] false)) 159).job = some (kjob [] false) ∧ (laneOf (laned (kjob [] false)) 159).drain = false ∧
    ldsAddr (laned (kjob [] false)) (kjob [] false) 7 = some 1792 ∧ winOk (peer .sw) 5 0 1792 256 0 false = true ∧ winOk ep 5 0 1792 256 0 false = false := by decide +kernel

/-! ### Ports -/

/-- Port p in a state, receiving and sending. -/
def rxp (p st : Nat) (f : Port → Port) : State := updPort ((port p st).put SEC_TEN_CFG.ACTIVE 1 5) p f
/-- A tile of a type and LSEQ with a body; its bytes are good. -/
def rxt (typ vc lseq crv : Nat) (body : List Byte) : RxTile := ⟨tileBytes ⟨typ, vc, 0, lseq, 0, crv, 0, 0, 0⟩ body, 0, []⟩
def up : Packet := pk 0x10 1 0 0x1000 [1]
set_option maxRecDepth 100000 in
theorem wit_tiles_received : (∀ st ∈ [3, 4, 6, 7, 8], rxState (port 31 st) 31 = true ∧ laneRuns (port 31 st) 31 = true) ∧ tileCrcOk (rxt 9 0 0 0 []).bytes = true ∧
    tileCrcOk ((rxt 9 0 0 0 []).bytes.set 8 1) = false ∧ 7 ≤ (parseLinkHdr (rxt 9 0 0 0 []).bytes).typ ∧ (portOf (port 31 8) 31).crc + 1 ≤ ((port 31 8).put LNK_ERR_CFG.CRC_RETRAIN 1 31).get LNK_ERR_CFG.CRC_RETRAIN 31 * 16 ∧
    (portOf (port 31 8) 31).uncorr ≤ (port 31 8).get LNK_ERR_CFG.UNCORR_DOWN 31 ∧ tileCrcOk (rxt 6 0 0 0 []).bytes = true ∧ (parseLinkHdr (rxt 6 0 0 0 []).bytes).typ = 6 ∧ linkActive (port 31 3) 31 = false ∧
    (parseLinkHdr (rxt 4 1 0 0 (tileBody up 0)).bytes).typ = 4 ∧ tileCrcOk (rxt 4 1 0 0 (tileBody up 0)).bytes = true ∧ linkActive (port 31 8) 31 = true ∧ leAt (tileBody up 0) 8 2 ≤ 192 ∧
    hchkOk ((rxt 4 1 0 0 (tileBody up 0)).bytes.drop 8) = true ∧ rawBad ((rxt 4 1 0 0 (tileBody up 0)).bytes.drop 8) = false ∧ screen (parsePacket ((rxt 4 1 0 0 (tileBody up 0)).bytes.drop 8)) = 0 ∧
    fenceDrops (port 31 8) (parsePacket ((rxt 4 1 0 0 (tileBody up 0)).bytes.drop 8)) = false ∧ (parseLinkHdr (rxt 0 0 4095 1 []).bytes).crv = 1 ∧ tileCrcOk (rxt 0 0 4095 1 []).bytes = true ∧
    (portOf (rxp 31 8 (fun x => { x with expect := some 4095 })) 31).expect = some 4095 ∧ sub16 0 0 ≤ sub16 (credGet [] 0).1 0 := by decide +kernel
/-- Mortar waits for port 31. -/
def waitsFor (p : Packet) : State :=
  let s := rxp 31 8 (fun x => { x with advA := [(0, (100, 100)), (1, (100, 100))] })
  { s with tim := { s.tim with ticks := 3 * 65536 + 1280 }, net := { s.net with out := [⟨1, { p with dst := 0x300 }, 32, none, none, 0, none, 0, none⟩], rt0 := [(0x300, [0x80000000, 0, 0, 0])] } }
/-- A pallet packet staged for port 31 in slot 5 of course 3, its usable tiles. -/
def staged : State :=
  let s := (rxp 31 8 (fun x => { x with slot := 3 * 256 + 5 })).put TIM_PEER_OFF.UNSAFE 0 31
  { s with tim := { s.tim with ticks := 3 * 65536 + 1290 }, net := { s.net with staged := [⟨31, 5, 3, 0, pk 0x10 6 0 0x1000 [1]⟩] } }
theorem wit_tiles_sent : laneRuns (port 31 8) 31 = true ∧ coreRuns { port 31 8 with clk := { (port 31 8).clk with gate := true } } = false ∧ linkState (port 31 4) 31 ∈ [3, 4, 6, 7] ∧ linkState (port 31 9) 31 ∈ [0, 1, 2, 5, 9] ∧
    (portOf (rxp 31 7 (fun x => { x with ctl := [[2]], advGot := some [] })) 31).ctl = [[2]] ∧ switchSlot (port 31 8) 31 (now (port 31 8) / 256) = false ∧
    now (waitsFor up) % 256 < 6 ∧ (waitsFor up).net.staged = [] ∧ choosePort (waitsFor up) ⟨1, { up with dst := 0x300 }, 32, none, none, 0, none, 0, none⟩ = some (0, 31) ∧
    isPallet ⟨1, { up with dst := 0x300 }, 32, none, none, 0, none, 0, none⟩ = false ∧ tilesOf up = 1 ∧ 1 < tilesOf { up with pay := List.replicate 300 0 } ∧
    6 ≤ now staged % 256 ∧ 3 * 256 + 5 = now staged / 256 ∧ tabFind 8 (portOf staged 31).ctx = none ∧ (portOf staged 31).slotSent + tilesOf (pk 0x10 6 0 0x1000 [1]) ≤ portUsable staged 31 ∧
    timeUnsafe staged 31 = false ∧ fenced staged (partnerOf staged 31) = false ∧ (portOf staged 31).slot = now staged / 256 := by decide +kernel
theorem wit_forward : (∀ x ∈ [(1, { up with hod := 64 }), (2, { up with dst := 0xFFFF }), (3, { up with src := 0xC000 }), (4, { up with ten := 0x201 }), (5, { up with vc := 5 })], screen x.2 = x.1) ∧
    screen up = 0 ∧ (port 31 8).net.rxq.contains (31, up) = false ∧ fenceDrops (port 31 8) up = false ∧ up.dst ≠ ownFlat (port 31 8) ∧ portRole (withRg ep .GLB_PORT_ROLE 1 0 0x40000000) 31 ≠ roleUp ∧ isGroup up.dst = false ∧
    fenceDrops (withRg ep .RTE_FENCE 16 0 0x40000) up = true ∧ (ep.put RTE_CFG.HOP_MAX 0).get RTE_CFG.HOP_MAX ≤ up.hops ∧ up.hops < (ep.put RTE_CFG.HOP_MAX 7).get RTE_CFG.HOP_MAX ∧
    portRole (withRg ep .GLB_PORT_ROLE 1 0 0x80000000) 31 = roleUp ∧ isSw ep = false ∧
    noTurn { port 31 8 with net := { (port 31 8).net with rt0 := [(0x212, [0x80000000, 0, 0, 0])] } } ⟨0, { up with hops := 1 }, 30, some 30, none, 0, none, 0, none⟩ = false ∧
    usableSet { waitsFor up with net := { (waitsFor up).net with rt0 := [] } } ⟨1, { up with dst := 0x300 }, 32, none, none, 0, none, 0, none⟩ = none ∧ 0 + 64 * max 1 (ep.get RTE_CFG.HOLD) ≤ now ep ∧
    usableSet (waitsFor up) ⟨1, { up with dst := 0x300 }, 32, none, none, 0, none, 0, none⟩ ≠ none := by decide +kernel

/-! ### Links, optics, keys, ports of the block -/

/-- The peer of port 31 in CAPS: device 0x213, its role the other end of port 31's, eight healthy lanes, its CAPS seen. -/
def caps31 : List Byte := [1, 8, 31, 7] ++ leBytes 2 0x213 ++ [0, 3] ++ leBytes 3 0xFF ++ [1]
/-- Port 31 in CONFIG with role DOWN. -/
def cfg31 : State := withRg (port 31 3) .GLB_PORT_ROLE 1 0 0xC0000000
/-- Port 31 ACTIVE with what changes need. -/
def act31 (f : Port → Port) : State := rxp 31 8 f
theorem wit_link_control : (∀ st ∈ [3, 4, 6, 7, 8], linkState (port 31 st) 31 = st) ∧ linkState cfg31 31 = 3 ∧ pairOk cfg31 31 caps31 = true ∧ gensOffered cfg31 31 &&& leAt caps31 3 1 ≠ 0 ∧
    4 ≤ min (healthy cfg31 31).length (popCount (leAt caps31 8 3) 18) ∧ bit (leAt caps31 11 1) 0 = true ∧ cfg31.get LNK_CFG.MAX_WIDTH 31 < 3 ∧ leAt caps31 6 1 % 4 < 3 ∧
    pairOk cfg31 31 (caps31.set 1 12) = false ∧ (portOf (port 31 4) 31).partner.map (List.take 11) ≠ some (caps31.take 11) ∧ (portOf (rxp 31 7 (fun x => { x with advSent := true })) 31).advSent = true ∧
    ((List.range (min 32 (leAt [3, 2, 0, 2, 7, 0, 8, 0] 3 1))).map (fun k => leAt [3, 2, 0, 2, 7, 0, 8, 0] (4 + 2 * k) 2)).Nodup ∧ (portOf (act31 id) 31).settled < 65536 ∧
    (0 + 2) % 65536 = leAt [3, 2, 0, 2, 7, 0, 8, 0] 1 2 ∧ (0 + 2) % 65536 ≠ leAt [3, 3, 0, 2, 7, 0, 8, 0] 1 2 ∧ min 2 (leAt [5, 2] 1 1) < 3 ∧
    (portOf (act31 (fun x => { x with retrain := some 2 })) 31).retrain.isSome = true ∧ (portOf (act31 id) 31).retrain = none ∧ (portOf (act31 id) 31).width = none ∧
    isLead ((act31 id).put GLB_FLAT_ID.FLAT_ID 0x300) 31 = true ∧ (portOf (act31 (fun x => { x with spare := some ⟨4, 16, none⟩ })) 31).spare = some ⟨leAt [9, 4, 16] 1 1, leAt [9, 4, 16] 2 1, none⟩ ∧
    (portOf (act31 (fun x => { x with again := [([6], 64)], tileNo := 64 })) 31).again[0]? = some ([6], 64) ∧
    (portOf (act31 (fun x => { x with dropDue := [0, 256] })) 31).dropDue.find? (fun n => n ≤ 0) = some 0 ∧ 1000 + 8192 ≤ now (act31 id) := by decide +kernel
theorem wit_training : (∀ st ∈ [1, 2, 3, 5, 6, 7, 9], linkState (port 31 st) 31 = st ∧ laneRuns (port 31 st) 31 = true) ∧ (0x3FFFF : Nat) < 2 ^ 18 ∧ 4 ≤ popCount 0x3FFFF 18 ∧
    640000 ≤ (clk (fun c => { c with rcosc := 640000 })).clk.rcosc - (portOf ep 31).since ∧ ep.clk.rcosc - 1000000 < 3200 ∧ portGen (port 31 5) 31 < 3 ∧
    gensOffered (port 31 5) 31 &&& (7 - 2 ^ portGen (port 31 5) 31) ≠ 0 ∧ gensOffered ((port 31 5).put LNK_CFG.GEN_EN 2 31) 31 &&& (7 - 2 ^ portGen (port 31 5) 31) = 0 ∧ 0 < 16 * (port 31 6).get LNK_ERR_CFG.VERIFY_SER 31 ∧
    (portOf (rxp 31 6 (fun x => { x with verifyFail := 1 })) 31).verifyFail ≠ 0 ∧ (portOf (rxp 31 5 (fun x => { x with retrainAt := some 0 })) 31).retrainAt = some 0 ∧
    linkActive (port 31 5) 31 = false ∧ 4 ≤ ((healthy (act31 id) 31).filter (fun j => j != 0)).length ∧ (List.range (lanesOf (portWidth (act31 id) 31))).find? (fun k => laneMap (act31 id) 31 k == 0) = some 0 ∧
    (bitsSet 18 ((act31 id).get LNK_SPARE_STATUS.READY 31)).find? (fun j => j != 0 && !((mappedLanes (act31 id) 31).contains j)) = some 16 ∧
    ((healthy ((act31 id).put LNK_LANE_STATUS.HEALTHY 15 31) 31).filter (fun j => j != 0)).length < 4 ∧
    (portOf (act31 (fun x => { x with spare := some ⟨4, 16, some 1000⟩, adapt := [(0, 1)] })) 31).spare = some ⟨4, 16, some 1000⟩ ∧ 1000 + 4096 < now (act31 id) ∧
    tabFind 0 (portOf (act31 (fun x => { x with adapt := [(0, 1)] })) 31).adapt = some 1 ∧ ¬ 1 + 4 ≤ course ep ∧ 1 + 4 ≤ course (dev .ep 400000) ∧ (portOf (act31 id) 31).good + 4096 ≤ now (act31 id) := by decide +kernel
/-- A width change of port 31 agreed for tick 1000, or asked for and not answered. -/
def widened (agreed : Bool) (n : Nat) : State :=
  (act31 (fun x => { x with width := some ⟨1, 0xFF, 0xFF, 1000, 0, true, agreed⟩, withdrawn := n })).put GLB_FLAT_ID.FLAT_ID 0x300
theorem wit_width : switchReached (widened true 0) 31 ⟨1, 0xFF, 0xFF, 1000, 0, true, true⟩ = true ∧ (portOf (widened true 0) 31).width = some ⟨1, 0xFF, 0xFF, 1000, 0, true, true⟩ ∧ popCount 0xFF 18 ≤ 16 ∧
    switchReached (widened true 0) 31 ⟨1, 0xFF, 0xFF, 300000, 0, true, true⟩ = false ∧ withdrawDue (widened false 0) 31 ⟨1, 0xFF, 0xFF, 1000, 0, true, false⟩ = true ∧ (portOf (widened false 0) 31).withdrawn < 7 ∧
    7 ≤ (portOf (widened false 7) 31).withdrawn ∧ (portOf (widened false 7) 31).retrain = none := by decide +kernel
/-- Lane 17 of optical port 31 without light since tick 0; module 7 present, in a state. -/
def optic (st : Nat) : State :=
  { ((ep.put OPT_PORT_CFG.MEDIUM 1 31).put OPT_LM_STATUS.STATE st 7).put OPT_LM_CFG.EN 1 7 with
    opt := { ep.opt with los := [(31, 0x20000)], allDark := [(31, 1000)], lm := [(7, ⟨true, 0, 2, 0, 0, 0⟩)] } }
theorem wit_optics : losOf (optic 0) 31 17 = true ∧ losOf (optic 0) 31 16 = false ∧ optical (optic 0) 31 = true ∧ ((optic 0).get OPT_PORT_STATUS.DARK 31).testBit 17 = false ∧ losSince (optic 0) 31 17 + 64 ≤ now (optic 0) ∧
    (((optic 0).put OPT_PORT_STATUS.DARK 1 31).get OPT_PORT_STATUS.DARK 31).testBit 0 = true ∧ losSince (optic 0) 31 0 + 1024 ≤ now (optic 0) ∧ tabFind 31 (optic 0).opt.allDark = some 1000 ∧ 1000 + 1024 ≤ now (optic 0) ∧
    linkState ((optic 0).put LNK_STATUS.STATE 8 31) 31 = 8 ∧ (lmOf ep 7).present = false ∧ (lmOf (optic 0) 7).present = true ∧ lmState (optic 0) 7 = 0 ∧ (optic 0).on OPT_LM_CFG.EN 7 = true ∧
    ¬ (lmOf (optic 0) 7).presAt + 16 ≤ course (optic 0) ∧ (lmOf { optic 0 with tim := { Tim.reset with ticks := 1048576 } } 7).presAt + 16 ≤ course { optic 0 with tim := { Tim.reset with ticks := 1048576 } } ∧
    lmState (optic 1) 7 = 1 ∧ 2 ≤ lmState (optic 4) 7 ∧ lmState (optic 4) 7 ≤ 4 ∧ (lmOf ((optic 2).put OPT_LM_CFG.POLL 1 7) 7).pollAt + max 1 (((optic 2).put OPT_LM_CFG.POLL 1 7).get OPT_LM_CFG.POLL 7) ≤ course (optic 2) ∧
    (lmOf { optic 2 with tim := { Tim.reset with ticks := 900000000000 } } 7).hoursAt + 900000000000 ≤ now { optic 2 with tim := { Tim.reset with ticks := 900000000000 } } ∧
    ((optic 2).put OPT_LM_CMD.BUSY 1 7).on OPT_LM_CMD.BUSY 7 = true := by decide +kernel
/-- A key operation under way, with CS or without. -/
def kx (op t e : Nat) (d : List Byte) (cs : Option (List Byte)) : State := { ep with sec := { ep.sec with kx := some (op, t, e, d), cs := cs, kwk := [(511, [1])], nonce := [(511, [1])] } }
theorem wit_keys : (kx 1 511 0 [] none).sec.kx = some (1, 511, 0, []) ∧ (kx 1 511 0 [] none).sec.cs = none ∧ (kx 1 0x200 0 (List.replicate 128 0) (some [1])).sec.cs = some [1] ∧
    leAt (List.replicate 128 (0 : Byte)) 96 32 = 0 ∧ (∀ r ∈ weightRanges (List.replicate 128 0), rangeBad (kx 1 0x200 0 [] (some [1])) 0x200 r = false) ∧
    (weightRanges (List.replicate 32 0 ++ leBytes 8 0xFFFFFFFFFFFF ++ leBytes 88 0xFFFFFFFF)).any (fun r => rangeBad (kx 1 5 0 [] (some [1])) 5 r) = true ∧ kwkOf (kx 3 0 1 [] (some [1])) 0 = [] ∧
    kwkOf (kx 3 511 1 [] (some [1])) 511 ≠ [] ∧ epochLive (kx 3 511 1 [] none) 511 1 = false ∧ epochRetiring (kx 3 511 1 [] none) 511 1 = false ∧ tabFind 511 (kx 2 511 0 [] none).sec.nonce = some [1] ∧
    leAt (List.replicate 128 (1 : Byte)) 40 4 ≠ 0 ∧ epochRetiring (ep.put SEC_TEN_CFG.RETIRING1 1 511) 511 1 = true ∧ epochUsed (ep.put SEC_TEN_CFG.RETIRING1 1 511) 511 1 = false := by decide +kernel
/-- Stage slot 1 checks 8 MiB from offset 0. -/
def staging : State := ep.put TRW_STAGE1.STATE 1 1
theorem wit_start_up : bootPhase (ep.put CLK_BOOT_STATUS.PHASE 4) = 4 ∧ layoutOk (ep.put CLK_BOOT_STATUS.PHASE 4) 0 = false ∧ bootPhase (ep.put CLK_BOOT_STATUS.PHASE 5) = 5 ∧ ep.tap.opened = false ∧
    staging.get TRW_STAGE1.STATE 1 = 1 ∧ layoutOk staging (staging.get TRW_STAGE0.OFF_4K 1 * 4096) = false ∧ ep.get TRW_STAGE1.STATE 1 ≠ 1 ∧
    { ep with boot := { ep.boot with old := [(16, 1, 3)] } }.boot.old[0]? = some (16, 1, 3) ∧ 3 ≤ course ep := by decide +kernel
/-- Program-counter sampling of context 0, with room; trace unit 3 stopping, with a record to drain. -/
def observing : State :=
  { (((prog.put OBS_PCS_CFG.EN 1).put OBS_PCS_SHIFT.SHIFT 0).put OBS_TRC_STATUS.STATE 2 3).put OBS_DRN_CFG.DRAIN_EN 1 3 with
    obs := { prog.obs with trc := [(3, ⟨[(0, ⟨1, 2, 0, 5, 6, []⟩)], 1, true, false, 0, 0, none, 0, [], [], none, 0⟩)] } }
theorem wit_observation : observing.on OBS_PCS_CFG.EN = true ∧ coreRuns observing = true ∧ tabGet 0 1000 observing.obs.pcs ≠ observing.clk.cclk / 2 ^ observing.get OBS_PCS_SHIFT.SHIFT ∧ pcsNext observing 0 = some 0 ∧
    sub32 ((observing.get OBS_PCS_TAIL.TAIL + observing.obs.pcsBusy) % 2 ^ 32) (observing.get OBS_PCS_HEAD.HEAD) < 2 ^ observing.get OBS_PCS_CFG.LOG2_SIZE ∧
    2 ^ observing.get OBS_PCS_CFG.LOG2_SIZE ≤ sub32 (((observing.put OBS_PCS_TAIL.TAIL 65536).get OBS_PCS_TAIL.TAIL + 0) % 2 ^ 32) 0 ∧ conf observing 5 = false ∧ observing.get OBS_TRC_STATUS.STATE 3 = 2 ∧
    (trcOf observing 3).trig = true ∧ (trcOf observing 3).left = 0 ∧ observing.on OBS_DRN_CFG.DRAIN_EN 3 = true ∧ (trcOf observing 3).draining = none ∧ (trcOf observing 3).drainAt ≤ observing.clk.cclk ∧
    (drainNext observing 3).isSome = true ∧ sub32 (observing.get OBS_DRN_TAIL.TAIL 3) (observing.get OBS_DRN_HEAD.HEAD 3) < 2 ^ observing.get OBS_DRN_CFG.LOG2_SIZE 3 ∧ observing.clk.aon = true ∧
    fltPending (withRg ep .FLT_PEND 3 0 0x80000000) 127 = true ∧ ep.get FLT_SEV.SEV 127 ≠ 0 ∧ ep.obs.flt.shown = none ∧ ep.clk.por = false ∧ ep.clk.core = false := by decide +kernel
/-- An access to one brick of a space, its part in a state. -/
def access (sp : Nat) (op : MemOp) (st : PartSt) (d : List Byte) : State :=
  { winAll ep 5 with xf := { ep.xf with txns := [⟨1, sp, op, 0, [⟨0x1000, 8, d, st⟩], .none, [], [], [], none, 5⟩], nextTxn := 2 } }
theorem wit_channels : channelNext (access 0 .rd .waiting []) (channelOf ep 0x1000) = some (1, 0, ⟨0x1000, 8, [], .waiting⟩) ∧ (freeTag ep 31).isSome = true ∧ tuHolder ep 31 255 = none ∧
    (∀ op ∈ [MemOp.rd, .wr, .atom 0 false 1 0], tuHolder (access 0 op (.sent 31 255) (leBytes 8 1)) 31 255 = some (⟨1, 0, op, 0, [⟨0x1000, 8, leBytes 8 1, .sent 31 255⟩], .none, [], [], [], none, 5⟩, 0, ⟨0x1000, 8, leBytes 8 1, .sent 31 255⟩)) ∧
    (clk (fun c => { c with quiesce := some 1 })).clk.quiesce = some 1 ∧ 1 + 64 ≤ ep.clk.cclk ∧ inboundOp 4 [] = none ∧ (0x20 : Nat) * 128 < spwSize ∧
    (∀ r ∈ maskRuns 0xFF 128 0, winOk ((winAll ep 5).put TEN_WIN_BASE_HI.SPACE 1 5 0) 5 1 (0x20 * 128 + r.1) r.2 1 false = true ∧ spwProtected ep (0x20 * 128 + r.1) r.2 = false) ∧
    (∀ op ∈ [MemOp.rd, .wr, .atom 0 false 1 0], bankWaits (access 1 op .waiting (leBytes 8 1)) 32 = [(⟨1, 1, op, 0, [⟨0x1000, 8, leBytes 8 1, .waiting⟩], .none, [], [], [], none, 5⟩, 0, ⟨0x1000, 8, leBytes 8 1, .waiting⟩)]) := by decide +kernel
/-- Buffer requests: one that waits for its handshake and one answered under id 7, for message 1. -/
def pooled (late : Bool) : State :=
  { ep with xf := { ep.xf with bpm := [⟨0, 2, 1, 5, none, false⟩, ⟨7, 1, 1, 5, some 100, late⟩], msgs := [⟨1, 0x2130, 0, 5, 0x213, 0, 64, 0, 0, 1, 0, 0, [], [], true, 0, none⟩] } }
theorem wit_pools : (pooled false).xf.bpm.find? (fun r => r.at?.isNone) = some ⟨0, 2, 1, 5, none, false⟩ ∧
    (List.range 256).find? (fun i => !((pooled false).xf.bpm.any (fun r => r.at?.isSome && r.id == i))) = some 0 ∧ (pooled false).xf.bpm.find? (fun r => r.at?.isSome && r.id == 8) = none ∧
    (∀ l ∈ [false, true], (pooled l).xf.bpm.find? (fun r => r.at?.isSome && r.id == 7) = some ⟨7, 1, 1, 5, some 100, l⟩) ∧ msgById (pooled false) 1 ≠ none ∧ 0x200000 % poolSize 1 = 0 ∧
    100 + 4096 ≤ (pooled false).clk.cclk := by decide +kernel
theorem wit_side_ports : ep.clk.por = false ∧ ep.i3c.addr = none ∧ ({ ep with i3c := ⟨some 9, 0, false, []⟩ }).i3c.addr = some 9 ∧ (leBytes 1024 7).length = 4 * 256 ∧ (0x7FFC00 + 4 * 256 : Nat) ≤ 0x800000 ∧
    bootPhase (ep.put CLK_BOOT_STATUS.PHASE 3) = 3 ∧ (ep.put GLB_LOCK.TEST 1).on GLB_LOCK.TEST = true ∧ ep.on GLB_LOCK.TEST = false ∧ ep.tap.opened = false := by decide +kernel

end Sys2Proof.Tests
end

section
/-! PROOFS. Fields of words and registers: what a field reads after a write of the same field, of another field of its register and of another
register, and the signed reading of a two's-complement pattern. -/

namespace Sys2Proof.Laws

open Sys2Proof Sys2Proof.Machine

/-! ### Fields of a word -/

theorem testBit_bits (n lo w k : Nat) : (bits n lo w).testBit k = (decide (k < w) && n.testBit (lo + k)) := by
  simp [bits, Nat.testBit_mod_two_pow, Nat.testBit_shiftRight]

/-- A word taken apart at a field: above it, the field, below it. -/
theorem word_eq_field_parts (n lo w : Nat) : n = 2 ^ lo * (2 ^ w * (n / 2 ^ lo / 2 ^ w) + bits n lo w) + n % 2 ^ lo := by
  rw [bits, Nat.shiftRight_eq_div_pow, Nat.div_add_mod, Nat.div_add_mod]

/-- Replacing a field keeps what lies above and below it. -/
theorem setBits_eq_field_parts (n lo w v : Nat) :
    setBits n lo w v = 2 ^ lo * (2 ^ w * (n / 2 ^ lo / 2 ^ w) + v % 2 ^ w) + n % 2 ^ lo := by
  have parts := word_eq_field_parts n lo w
  unfold setBits
  generalize bits n lo w = f at *
  generalize n / 2 ^ lo / 2 ^ w = a at *
  rw [Nat.mul_add] at parts ⊢
  rw [Nat.mul_comm f, Nat.mul_comm (v % 2 ^ w)]
  omega

theorem testBit_setBits (n lo w v k : Nat) :
    (setBits n lo w v).testBit k = if lo ≤ k ∧ k < lo + w then v.testBit (k - lo) else n.testBit k := by
  rw [setBits_eq_field_parts, Nat.testBit_two_pow_mul_add _ (Nat.mod_lt _ (Nat.two_pow_pos lo))]
  by_cases low : k < lo
  · simp [low, show ¬ lo ≤ k by omega, Nat.testBit_mod_two_pow]
  · rw [if_neg low, Nat.testBit_two_pow_mul_add _ (Nat.mod_lt _ (Nat.two_pow_pos w))]
    by_cases mid : k - lo < w
    · simp [mid, show lo ≤ k ∧ k < lo + w by omega, Nat.testBit_mod_two_pow]
    · rw [if_neg mid, if_neg (by omega), Nat.testBit_div_two_pow, Nat.testBit_div_two_pow]
      congr 1
      omega

theorem bits_setBits_same (n lo w v : Nat) : bits (setBits n lo w v) lo w = v % 2 ^ w := by
  refine Nat.eq_of_testBit_eq fun k => ?_
  rw [testBit_bits, testBit_setBits, Nat.testBit_mod_two_pow]
  by_cases h : k < w <;> simp [h]

theorem bits_setBits_disjoint {lo w a b : Nat} (h : lo + w ≤ a ∨ a + b ≤ lo) (n v : Nat) : bits (setBits n lo w v) a b = bits n a b := by
  refine Nat.eq_of_testBit_eq fun k => ?_
  rw [testBit_bits, testBit_bits, testBit_setBits]
  by_cases inside : k < b
  · rw [if_neg (by omega)]
  · simp [inside]

theorem setBits_lt {n lo w m : Nat} (hn : n < 2 ^ m) (h : lo + w ≤ m) (v : Nat) : setBits n lo w v < 2 ^ m := by
  refine Nat.lt_pow_two_of_testBit _ fun k hk => ?_
  rw [testBit_setBits, if_neg (by omega)]
  exact Nat.testBit_lt_two_pow (Nat.lt_of_lt_of_le hn (Nat.pow_le_pow_right (by decide) hk))

/-! ### Fields of registers -/

variable (s : State)

/-- A field reads what was placed in it. -/
theorem get_put_same (f : Fld) (v i j : Nat) (h : f.lo + f.w ≤ 32) : (s.put f v i j).get f i j = v % 2 ^ f.w := by
  unfold State.get State.put
  rw [rg_setRg, BitVec.toNat_ofNat, Nat.mod_eq_of_lt (setBits_lt (BitVec.isLt _) h v), bits_setBits_same]

/-- Placing a value in a field leaves the other fields of its register alone. -/
theorem get_put_disjoint (f g : Fld) (v i j : Nat) (r : g.reg = f.reg) (h : f.lo + f.w ≤ 32) (d : f.lo + f.w ≤ g.lo ∨ g.lo + g.w ≤ f.lo) :
    (s.put f v i j).get g i j = s.get g i j := by
  unfold State.get State.put
  rw [r, rg_setRg, BitVec.toNat_ofNat, Nat.mod_eq_of_lt (setBits_lt (BitVec.isLt _) h v), bits_setBits_disjoint d]

/-- Placing a value in a register leaves the fields of the registers at other offsets alone. -/
theorem get_setRg_other (r : RegName) (g : Fld) (v : W32) (i j a b : Nat) (h : regOff g.reg a b ≠ regOff r i j) :
    (s.setRg r v i j).get g a b = s.get g a b := by
  unfold State.get
  rw [rg_setRg_other _ _ _ _ _ _ _ _ h]

/-- Placing a value in a field leaves the fields of the registers at other offsets alone. -/
theorem get_put_other (f g : Fld) (v i j a b : Nat) (h : regOff g.reg a b ≠ regOff f.reg i j) :
    (s.put f v i j).get g a b = s.get g a b :=
  get_setRg_other s f.reg g _ i j a b h

/-! ### Signed readings -/

theorem unsgn_lt (w : Nat) (x : Int) : unsgn w x < 2 ^ w := by
  have hp : (0 : Int) < ((2 ^ w : Nat) : Int) := by exact_mod_cast Nat.two_pow_pos w
  have hx := Int.emod_lt_of_pos x hp
  have h0 := Int.emod_nonneg x (Int.ne_of_gt hp)
  unfold unsgn
  omega

/-- An integer that w bits hold is read back from its pattern. -/
theorem sgn_unsgn {w : Nat} (hw : 0 < w) {x : Int} (lo : -(2 ^ (w - 1)) ≤ x) (hi : x < 2 ^ (w - 1)) : sgn w (unsgn w x) = x := by
  have half : 2 ^ w = 2 * 2 ^ (w - 1) := by rw [← Nat.pow_succ', Nat.succ_eq_add_one, Nat.sub_add_cancel hw]
  have cast : ((2 ^ (w - 1) : Nat) : Int) = 2 ^ (w - 1) := by push_cast; rfl
  unfold sgn
  rw [Nat.mod_eq_of_lt (unsgn_lt w x), unsgn, half]
  rw [← cast] at lo hi
  generalize 2 ^ (w - 1) = m at *
  obtain neg | pos := Int.lt_or_le x 0
  · have e : x % ((2 * m : Nat) : Int) = x + (2 * m : Nat) := by
      rw [← Int.add_emod_right, Int.emod_eq_of_lt] <;> omega
    simp only [e]
    split <;> omega
  · have e : x % ((2 * m : Nat) : Int) = x := Int.emod_eq_of_lt pos (by omega)
    simp only [e]
    split <;> omega

theorem clampI_of_within {lo hi x : Int} (h : lo ≤ x) (g : x ≤ hi) : clampI lo hi x = x := by
  unfold clampI
  rw [if_neg (by omega), if_neg (by omega)]

end Sys2Proof.Laws
end

section
/-! PROOFS. The exchange of time tiles on a port (02, R71 to R77): what a sent tile leaves alone, what a valid exchange leaves in the registers and in
the port, and the commands of time tiles by the kind of tile. -/

namespace Sys2Proof.Machine

open Sys2Proof Sys2Proof.Laws

variable (s : State) (p : Nat)

/-! ### The exchange state of a port -/

@[simp] theorem portT_setPortT_same (x : PortTime) : portT (setPortT s p x) p = x := tabGet_tabSet_same _ _ _ _

theorem portT_setPortT_other {q : Nat} (h : q ≠ p) (x : PortTime) : portT (setPortT s p x) q = portT s q := tabGet_tabSet_other _ _ _ h _

theorem portT_congr {s t : State} (h : t.tim.ports = s.tim.ports) (q : Nat) : portT t q = portT s q := by
  unfold portT
  rw [h]

@[simp] theorem count_tim (ev pa pb : Nat) (ten tag : Option Nat) (unit : Nat × Nat) (n : Nat) : (count s ev pa pb ten tag unit n).tim = s.tim :=
  (watched_count s ev pa pb ten tag unit n).tim

/-- A sent tile changes the port and its counts, not the time. -/
@[simp] theorem sendTile_tim (typ vc pal bad : Nat) (body : List Byte) : (sendTile s p typ vc pal bad body).tim = s.tim := by
  simp [sendTile, apply_ite State.tim]

@[simp] theorem portT_sendTile (typ vc pal bad : Nat) (body : List Byte) (q : Nat) : portT (sendTile s p typ vc pal bad body) q = portT s q :=
  portT_congr (by rw [sendTile_tim]) q

/-! ### Sending -/

/-- The port's request of this course is open: it has the next number, and its stamp is that of its sending (R74). -/
def requestOpened : State :=
  setPortT s p { portT s p with seq := ((portT s p).seq + 1) % 65536, reqT1 := some (stamp s), reqAt := now s, sentCourse := some (course s) }

/-- A request that is due leaves (R71). -/
theorem timeRequest_of_due (en : s.on TIM_CTL.EXCH_EN = true) (act : linkActive s p = true) (slot : slotNow s < 64)
    (due : (portT s p).sentCourse ≠ some (course s)) (free : inReserved s p = false) :
    timeRequest s p = sendTile (requestOpened s p) p ttTime 0 0 0
      (timeBytes (ownTime (requestOpened s p) p 1 (((portT s p).seq + 1) % 65536) (stamp s) 0 0)) := by
  simp [timeRequest, requestOpened, en, act, slot, due, free]

/-- The first response of those that the port owes is owed no more. -/
def responseTaken (rest : List (Nat × Nat × Nat)) : State := setPortT s p { portT s p with owed := rest }

/-- The response owed first leaves with the stamp of its sending (R72, R74). -/
theorem timeResponse_of_owed {n t1 t2 : Nat} {rest : List (Nat × Nat × Nat)} (owed : (portT s p).owed = (n, t1, t2) :: rest)
    (act : linkActive s p = true) (free : inReserved s p = false) :
    timeResponse s p = sendTile (responseTaken s p rest) p ttTime 0 0 0 (timeBytes (ownTime (responseTaken s p rest) p 2 n t1 t2 (stamp s))) := by
  simp [timeResponse, responseTaken, owed, act, free]

/-! ### Receiving -/

variable (b : TimeBody)

theorem onTimeRequest_eq : onTimeRequest s p b = setPortT s p { heard (portT s p) b with owed := (portT s p).owed ++ [(b.seq, b.t1, stamp s)] } := rfl

theorem execTimeRequestReceive_of_active (act : linkActive s p = true) (k : b.kind ≠ 2) : exec (.timeRequestReceive p b) s = .next (onTime s p b) := by
  show execTimeRequestReceive p b s = _
  simp [execTimeRequestReceive, act, k]

theorem execTimeResponseReceive_of_active (act : linkActive s p = true) (k : b.kind ≠ 1) : exec (.timeResponseReceive p b) s = .next (onTime s p b) := by
  show execTimeResponseReceive p b s = _
  simp [execTimeResponseReceive, act, k]

theorem onTime_of_request (k : b.kind = 1) : onTime s p b = onTimeRequest s p b := by simp [onTime, k]

theorem onTime_of_response (k : b.kind = 2) : onTime s p b = onTimeResponse s p b := by simp [onTime, k]

theorem onTime_of_reserved (k1 : b.kind ≠ 1) (k2 : b.kind ≠ 2) : onTime s p b = s.inc TIM_BAD_CNT.COUNT := by simp [onTime, k1, k2]

/-- A response without a request, with another number or after a course is counted and ignored (R76). -/
theorem onTimeResponse_of_invalid (bad : (portT s p).reqT1 = none ∨ b.seq ≠ (portT s p).seq ∨ (portT s p).reqAt + 65536 < now s) :
    onTimeResponse s p b = s.inc TIM_BAD_CNT.COUNT := by
  unfold onTimeResponse
  dsimp only
  split
  · rename_i t1 req
    rw [req] at bad
    rw [if_neg]
    simp only [Bool.and_eq_true, decide_eq_true_eq, not_and, Nat.not_le]
    intro seq
    simpa [seq] using bad
  · rfl

/-- A response within one course with the number of the request makes the exchange valid (R76). -/
theorem onTimeResponse_of_valid {t1 : Nat} (req : (portT s p).reqT1 = some t1) (seq : b.seq = (portT s p).seq)
    (soon : now s ≤ (portT s p).reqAt + 65536) :
    onTimeResponse s p b = exchangeDone s p b (timeOffset s p t1 b.t2 b.t3 (stamp s)).1 (timeOffset s p t1 b.t2 b.t3 (stamp s)).2 := by
  simp [onTimeResponse, req, seq, soon]

/-! ### A valid exchange -/

variable (d x : Int)

/-- What a valid exchange records of its port, the active parent's or not (R77, R518). -/
def peerRecorded : State :=
  ((((setPortT s p { peerInfo (portT s p) b with reqT1 := none, fresh := true, offX := x }).put TIM_PEER_OFF.X
    (unsgn 24 (clampI (-(2 ^ 23)) (2 ^ 23 - 1) x)) p).put TIM_PEER_OFF.VALID 1 p).put CIR_PORT_DELAY.D (unsgn 24 d) p).put CIR_PORT_DELAY.VALID 1 p

/-- What an exchange with the active parent records besides (R77). -/
def parentRecorded (u : State) (d x : Int) : State :=
  (u.setRg .TIM_OFFSET (BitVec.ofNat 32 (unsgn 32 x))).setRg .TIM_DELAY (BitVec.ofNat 32 (unsgn 32 d))

/-- The account of the exchanges with the active parent, after one of offset x (R69). -/
def parentAccount (s : State) (x : Int) (m : Tim) : Tim :=
  { m with
    latestX := x
    inWin := if x.natAbs ≤ 256 * s.get TIM_LOOP.LOCK_WIN then m.inWin + 1 else 0
    far := m.far || (timState s == tsLocked && 4 * (256 * s.get TIM_LOOP.LOCK_WIN) < x.natAbs) }

/-- An exchange that began in `s` and is recorded of port p in `u`: one with the active parent is recorded for the device too. -/
def parentConsidered (s u : State) (p : Nat) (d x : Int) : State :=
  if activeParent u = some p then { parentRecorded u d x with tim := parentAccount s x (parentRecorded u d x).tim } else u

/-- A valid exchange is recorded of its port, and then considered for the device. -/
theorem exchangeDone_eq : exchangeDone s p b d x = parentConsidered s (peerRecorded s p b d x) p d x := rfl

/-- The offsets of the registers that a valid exchange writes. -/
def exchangeOffs : List Nat := offs [.TIM_PEER_OFF, .CIR_PORT_DELAY] p ++ offs [.TIM_OFFSET, .TIM_DELAY]

/-- The port after a valid exchange: the request is closed, and the offset is fresh. -/
def portAfter : PortTime := { heard (portT s p) b with reqT1 := none, fresh := true, offX := x }

/-! #### The port's part -/

theorem peerRecorded_tim : (peerRecorded s p b d x).tim = (setPortT s p (portAfter s p b x)).tim := rfl

theorem portT_peerRecorded (q : Nat) : portT (peerRecorded s p b d x) q = portT (setPortT s p (portAfter s p b x)) q :=
  portT_congr (congrArg Tim.ports (peerRecorded_tim s p b d x)) q

theorem writes_peerRecorded : Writes (exchangeOffs p) (setPortT s p (portAfter s p b x)) (peerRecorded s p b d x) := by
  have peer : ∀ t f v, f.reg = .TIM_PEER_OFF ∨ f.reg = .CIR_PORT_DELAY → Writes (exchangeOffs p) t (t.put f v p) := by
    rintro t f v (h | h) <;> exact watched_put t f v p 0 (by simp [h, exchangeOffs, offs])
  exact (((peer _ _ _ (.inl rfl)).trans (peer _ _ _ (.inl rfl))).trans (peer _ _ _ (.inr rfl))).trans (peer _ _ _ (.inr rfl))

/-- The active parent depends on TIM_PARENT alone. -/
theorem activeParent_congr {s t : State} (h : t.rg .TIM_PARENT = s.rg .TIM_PARENT) : activeParent t = activeParent s := by
  have field : ∀ f : Fld, f.reg = .TIM_PARENT → t.get f = s.get f := fun f e => by simp only [State.get, e, h]
  unfold activeParent parentPort State.on
  rw [field TIM_PARENT.ACTIVE rfl, field TIM_PARENT.PRIMARY_EN rfl, field TIM_PARENT.PRIMARY rfl, field TIM_PARENT.BACKUP_EN rfl,
    field TIM_PARENT.BACKUP rfl]

theorem activeParent_peerRecorded : activeParent (peerRecorded s p b d x) = activeParent s :=
  activeParent_congr ((writes_peerRecorded s p b d x).rg .TIM_PARENT 0 0 (by simp [exchangeOffs, offs, regOff, regDesc, obsOff]; omega))

theorem peerOff_ne_portDelay : regOff .TIM_PEER_OFF p 0 ≠ regOff .CIR_PORT_DELAY p 0 := by
  simp only [regOff, regDesc]
  omega

theorem peerRecorded_valid : (peerRecorded s p b d x).get TIM_PEER_OFF.VALID p = 1 := by
  unfold peerRecorded
  rw [get_put_other _ _ _ _ _ _ _ _ (peerOff_ne_portDelay p), get_put_other _ _ _ _ _ _ _ _ (peerOff_ne_portDelay p),
    get_put_same _ _ _ _ _ (by decide)]
  rfl

theorem peerRecorded_delay : (peerRecorded s p b d x).get CIR_PORT_DELAY.D p = unsgn 24 d := by
  unfold peerRecorded
  rw [get_put_disjoint _ CIR_PORT_DELAY.VALID CIR_PORT_DELAY.D _ _ _ rfl (by decide) (by decide), get_put_same _ _ _ _ _ (by decide)]
  exact Nat.mod_eq_of_lt (unsgn_lt 24 d)

theorem peerRecorded_offset : (peerRecorded s p b d x).get TIM_PEER_OFF.X p = unsgn 24 (clampI (-(2 ^ 23)) (2 ^ 23 - 1) x) := by
  unfold peerRecorded
  rw [get_put_other _ _ _ _ _ _ _ _ (peerOff_ne_portDelay p), get_put_other _ _ _ _ _ _ _ _ (peerOff_ne_portDelay p),
    get_put_disjoint _ TIM_PEER_OFF.VALID TIM_PEER_OFF.X _ _ _ rfl (by decide) (by decide), get_put_same _ _ _ _ _ (by decide)]
  exact Nat.mod_eq_of_lt (unsgn_lt 24 _)

/-! #### The device's part -/

theorem parentConsidered_of_other {u : State} (h : activeParent u ≠ some p) : parentConsidered s u p d x = u := if_neg h

theorem parentConsidered_of_parent {u : State} (h : activeParent u = some p) :
    parentConsidered s u p d x = { parentRecorded u d x with tim := parentAccount s x (parentRecorded u d x).tim } := if_pos h

theorem portT_parentConsidered (u : State) (q : Nat) : portT (parentConsidered s u p d x) q = portT u q := by
  by_cases h : activeParent u = some p
  · rw [parentConsidered_of_parent s p d x h]
    exact portT_congr rfl q
  · rw [parentConsidered_of_other s p d x h]

theorem writes_parentRecorded (u : State) : Writes (exchangeOffs p) u (parentRecorded u d x) :=
  (watched_setRg u .TIM_OFFSET _ 0 0 (by simp [exchangeOffs, offs])).trans (watched_setRg _ .TIM_DELAY _ 0 0 (by simp [exchangeOffs, offs]))

/-- Two states that differ in what only watches the block differ in no more when both take the time `m`. -/
theorem Watched.withTim {q : Nat → Bool} {s t : State} (h : Watched q s t) (m : Tim) : Watched q { s with tim := m } { t with tim := m } :=
  ⟨h.1, congrArg (fun t => { t with tim := m }) h.2⟩

theorem writes_parentConsidered (u : State) (m : Tim) : Writes (exchangeOffs p) { u with tim := m } { parentConsidered s u p d x with tim := m } := by
  by_cases h : activeParent u = some p
  · rw [parentConsidered_of_parent s p d x h]
    exact (writes_parentRecorded p d x u).withTim m
  · rw [parentConsidered_of_other s p d x h]
    exact Watched.refl _ _

/-- What is recorded for the device leaves the registers of the ports alone. -/
theorem get_parentRecorded_peer (u : State) (f : Fld) (h : f.reg = .TIM_PEER_OFF ∨ f.reg = .CIR_PORT_DELAY) :
    (parentRecorded u d x).get f p = u.get f p := by
  unfold parentRecorded
  rw [get_setRg_other, get_setRg_other] <;> rcases h with h | h <;> simp only [h, regOff, regDesc] <;> omega

theorem get_parentConsidered_peer (u : State) (f : Fld) (h : f.reg = .TIM_PEER_OFF ∨ f.reg = .CIR_PORT_DELAY) :
    (parentConsidered s u p d x).get f p = u.get f p := by
  by_cases parent : activeParent u = some p
  · rw [parentConsidered_of_parent s p d x parent]
    exact get_parentRecorded_peer p d x u f h
  · rw [parentConsidered_of_other s p d x parent]

/-- An exchange with the active parent gives the device's offset and delay. -/
theorem rg_parentConsidered_of_parent {u : State} (h : activeParent u = some p) :
    (parentConsidered s u p d x).rg .TIM_OFFSET = BitVec.ofNat 32 (unsgn 32 x) ∧
    (parentConsidered s u p d x).rg .TIM_DELAY = BitVec.ofNat 32 (unsgn 32 d) := by
  have offset : (parentRecorded u d x).rg .TIM_OFFSET = BitVec.ofNat 32 (unsgn 32 x) := by
    rw [parentRecorded, rg_setRg_other _ _ _ _ _ _ _ _ (by decide), rg_setRg]
  have delay : (parentRecorded u d x).rg .TIM_DELAY = BitVec.ofNat 32 (unsgn 32 d) := rg_setRg _ _ _ _ _
  rw [parentConsidered_of_parent s p d x h]
  exact ⟨offset, delay⟩

/-! #### The whole exchange -/

theorem portT_exchangeDone_same : portT (exchangeDone s p b d x) p = portAfter s p b x := by
  rw [exchangeDone_eq, portT_parentConsidered, portT_peerRecorded, portT_setPortT_same]

theorem portT_exchangeDone_other {q : Nat} (h : q ≠ p) : portT (exchangeDone s p b d x) q = portT s q := by
  rw [exchangeDone_eq, portT_parentConsidered, portT_peerRecorded, portT_setPortT_other s p h]

/-- A valid exchange writes the registers of its port and of the device's offset and delay, and no other. -/
theorem writes_exchangeDone : Writes (exchangeOffs p) s { exchangeDone s p b d x with tim := s.tim } := by
  rw [exchangeDone_eq]
  exact ((writes_peerRecorded s p b d x).withTim s.tim).trans (writes_parentConsidered s p d x _ s.tim)

/-- Settles O42: each command of time exchange by the equation of its case, and a valid exchange by what it records. -/
theorem timeTilesExchange : Obligations.TimeTilesExchange := by
  unfold Obligations.TimeTilesExchange
  intro s p b hp act
  refine ⟨?request, ?response, ?owed, ?reserved, ?invalid, ?valid⟩
  case request =>
    intro en slot due free
    exact ⟨_, _, _, congrArg Host.Outcome.next (timeRequest_of_due s p en act slot due free), rfl, rfl, rfl, rfl, rfl, rfl, rfl, rfl, rfl,
      by simp [requestOpened], by simp [requestOpened, ownTime], by simp [requestOpened], by simp [requestOpened],
      fun q h => by rw [portT_sendTile, requestOpened, portT_setPortT_other s p h]⟩
  case response =>
    intro n t1 t2 rest owed free
    exact ⟨_, _, congrArg Host.Outcome.next (timeResponse_of_owed s p owed act free), rfl, rfl, rfl, rfl, rfl, rfl, by simp [responseTaken]⟩
  case owed =>
    intro k
    rw [execTimeRequestReceive_of_active s p b act (by omega), onTime_of_request s p b k, onTimeRequest_eq]
  case reserved =>
    intro k1 k2
    rw [execTimeRequestReceive_of_active s p b act k2, execTimeResponseReceive_of_active s p b act k1, onTime_of_reserved s p b k1 k2]
    exact ⟨rfl, rfl⟩
  case invalid =>
    intro k bad
    rw [execTimeResponseReceive_of_active s p b act (by omega), onTime_of_response s p b k, onTimeResponse_of_invalid s p b bad]
  case valid =>
    intro t1 tx rx d x k req seq soon htx hrx hd hx
    have offset : timeOffset s p t1 b.t2 b.t3 (stamp s) = (d, x) := by subst htx hrx hd hx; rfl
    have settled : exec (.timeResponseReceive p b) s = .next (exchangeDone s p b d x) := by
      rw [execTimeResponseReceive_of_active s p b act (by omega), onTime_of_response s p b k, onTimeResponse_of_valid s p b req seq soon, offset]
    refine ⟨_, settled, portT_exchangeDone_same s p b d x, fun q h => portT_exchangeDone_other s p b d x h, ?_, ?_, fun lo hi => ?_, fun h => ?_,
      writes_exchangeDone s p b d x⟩
    all_goals rw [exchangeDone_eq]
    · rw [get_parentConsidered_peer s p d x _ _ (.inl rfl), peerRecorded_valid]
    · rw [get_parentConsidered_peer s p d x _ _ (.inr rfl), peerRecorded_delay]
    · rw [get_parentConsidered_peer s p d x _ _ (.inl rfl), peerRecorded_offset, clampI_of_within lo (by omega)]
      exact sgn_unsgn (by decide) lo hi
    · exact rg_parentConsidered_of_parent s p d x ((activeParent_peerRecorded s p b d x).trans h)

end Sys2Proof.Machine
end

section
/-! PROOFS. Doorbells (03, R122 to R124, R159): the write of a doorbell register by the kind of the doorbell and the requester's domain, and what a
returned ring space leaves in the registers of the ring and of its tenant's queues. -/

namespace Sys2Proof.Machine

open Sys2Proof Sys2Proof.Laws

variable (s : State) (a : Acc) (i : Nat)

/-! ### The write of a doorbell register -/

@[simp] theorem forceFlds_nil (w : W32) : forceFlds w [] = w := by simp [forceFlds]

/-- The access that a doorbell sees: a write to TEN_DB[k] from the requester's domain. -/
def doorbellAcc (k : Nat) : AccInfo := ⟨a.path, domOf a, regOff .TEN_DB k 0, true, false⟩

/-- A write that reaches a doorbell register rings the doorbell. -/
theorem rowWrite_of_rings {k : Nat} (rings : Rings s a k = true) (w : W32) :
    rowWrite s a .TEN_DB k 0 [] w = Answered a (doorbell s (doorbellAcc a k) k w.toNat) := by
  simp only [Rings, Bool.and_eq_true, beq_iff_eq, Bool.not_eq_true'] at rings
  obtain ⟨⟨reach, mapped⟩, (unlocked : (decide (a.path = 3) && s.on GLB_LOCK.I3C) = false)⟩ := rings
  have written : regWrite s a (regOff .TEN_DB k 0) w = doorbell s (doorbellAcc a k) k w.toNat := by
    simp only [regWrite, reach, mapped, unlocked, ne_eq, not_true_eq_false, Bool.false_eq_true, if_false, if_true, doorbellAcc, domOf]
  simp [rowWrite, regWriteAt, mapped, reach, written, Answered]

/-! ### Which doorbell, and for whom (R34, R124) -/

/-- A tail doorbell exists on an endpoint, and for the service domain's queues on every device (R34). -/
theorem doorbell_tail (present : isEp s = true ∨ 4096 ≤ i) (x : AccInfo) (v : Nat) :
    doorbell s x (16 * (i / 8) + i % 8) v =
      if x.dom = ownerOf i ∨ x.dom = serviceDom then tailDoorbell s i v else s.put TEN_SQ_STATUS.DOMAIN_ERR 1 i := by
  have tenant : (16 * (i / 8) + i % 8) / 16 = i / 8 := by omega
  have place : (16 * (i / 8) + i % 8) % 16 = i % 8 := by omega
  have queue : 8 * (i / 8) + i % 8 = i := by omega
  have owner : idxTen (i / 8) = ownerOf i := rfl
  have low : i % 8 < 8 := by omega
  have persona : (!(isEp s) && decide (i / 8 < 512)) = false := by
    rcases present with ep | service
    · simp [ep]
    · simp only [Bool.and_eq_false_imp, decide_eq_false_iff_not]
      omega
  unfold doorbell
  simp only [tenant, place, queue, owner, low, persona, Bool.false_and, Bool.false_eq_true, if_false, if_true, Bool.and_eq_true, bne_iff_ne,
    ne_eq, ← not_or, ite_not]

theorem doorbell_head (x : AccInfo) (v : Nat) :
    doorbell s x (16 * (i / 8) + 8 + i % 8) v =
      if x.dom = ownerOf i ∨ x.dom = serviceDom then headDoorbell s i v else s.put TEN_CQ_STATUS.DOMAIN_ERR 1 i := by
  have tenant : (16 * (i / 8) + 8 + i % 8) / 16 = i / 8 := by omega
  have place : (16 * (i / 8) + 8 + i % 8) % 16 = 8 + i % 8 := by omega
  have ring : 8 * (i / 8) + (8 + i % 8 - 8) = i := by omega
  have owner : idxTen (i / 8) = ownerOf i := rfl
  have high : ¬ 8 + i % 8 < 8 := by omega
  unfold doorbell
  simp only [tenant, place, ring, owner, high, decide_false, Bool.and_false, Bool.false_eq_true, if_false, Bool.and_eq_true, bne_iff_ne,
    ne_eq, ← not_or, ite_not]

theorem execTailDoorbell_of_rings (rings : Rings s a (16 * (i / 8) + i % 8) = true) (present : isEp s = true ∨ 4096 ≤ i) (w : W32) :
    exec (.tailDoorbell a i w) s = .next (Answered a
      (if domOf a = ownerOf i ∨ domOf a = serviceDom then tailDoorbell s i w.toNat else s.put TEN_SQ_STATUS.DOMAIN_ERR 1 i)) := by
  show execTailDoorbell a i w s = _
  rw [execTailDoorbell, rowWrite_of_rings s a rings, doorbell_tail s i present]
  rfl

theorem execHeadDoorbell_of_rings (rings : Rings s a (16 * (i / 8) + 8 + i % 8) = true) (w : W32) :
    exec (.headDoorbell a i w) s = .next (Answered a
      (if domOf a = ownerOf i ∨ domOf a = serviceDom then headDoorbell s i w.toNat else s.put TEN_CQ_STATUS.DOMAIN_ERR 1 i)) := by
  show execHeadDoorbell a i w s = _
  rw [execHeadDoorbell, rowWrite_of_rings s a rings, doorbell_head]
  rfl

/-! ### The counts (R122, R123, R159) -/

variable (v : Nat)

theorem tailDoorbell_of_accepted (on : s.get TEN_SQ_STATUS.STATE i ≠ 0) (running : s.get TEN_SQ_STATUS.STATE i ≠ 2)
    (fits : sub32 v (s.get TEN_SQ_HEAD.COUNT i) ≤ 2 ^ s.get TEN_SQ_CFG.LOG2_SIZE i) :
    tailDoorbell s i v = { s with prog := { s.prog with sqTail := tabSet 0 i v s.prog.sqTail } } := by
  simp [tailDoorbell, on, running, Nat.not_lt.2 fits]

theorem tailDoorbell_of_refused (h : s.get TEN_SQ_STATUS.STATE i = 0 ∨ s.get TEN_SQ_STATUS.STATE i = 2 ∨
      2 ^ s.get TEN_SQ_CFG.LOG2_SIZE i < sub32 v (s.get TEN_SQ_HEAD.COUNT i)) :
    tailDoorbell s i v = s.put TEN_SQ_STATUS.DB_ERR 1 i := by
  unfold tailDoorbell
  exact if_pos (by simpa [or_assoc] using h)

theorem headDoorbell_of_accepted (fits : sub32 (s.get TEN_CQ_TAIL.COUNT i) v ≤ 2 ^ s.get TEN_CQ_CFG.LOG2_SIZE i) :
    headDoorbell s i v = refreshFull (s.put TEN_CQ_HEAD.COUNT v i) i := if_neg (Nat.not_lt.2 fits)

theorem headDoorbell_of_refused (excess : 2 ^ s.get TEN_CQ_CFG.LOG2_SIZE i < sub32 (s.get TEN_CQ_TAIL.COUNT i) v) :
    headDoorbell s i v = s.put TEN_CQ_STATUS.DB_ERR 1 i := if_pos excess

theorem Writes.subset {l m : List Nat} {s t : State} (h : Writes l s t) (sub : l ⊆ m) : Writes m s t :=
  h.mono fun k e => by
    simp only [Bool.or_eq_true, List.contains_iff_mem] at e ⊢
    exact e.imp_right (sub ·)

/-! ### Full rings and the queues that wait for them (R160) -/

/-- The state of one queue after a ring of its tenant has filled or made room: ACTIVE and SUSPENDED follow, OFF and DRAINING stay. -/
def queueFollows (full : Bool) (s : State) (q : Nat) : State :=
  if s.get TEN_SQ_STATUS.STATE q = 1 && full then s.put TEN_SQ_STATUS.STATE 3 q
  else if s.get TEN_SQ_STATUS.STATE q = 3 && !full then s.put TEN_SQ_STATUS.STATE 1 q
  else s

/-- The ring's own mark, before its tenant's queues follow. -/
def fullMarked : State := s.put TEN_CQ_STATUS.FULL (b2n (ringFull s i)) i

theorem refreshFull_eq : refreshFull s i =
    (tenRings (ownerOf i)).foldl (queueFollows ((tenRings (ownerOf i)).any (ringFull (fullMarked s i)))) (fullMarked s i) := rfl

/-- The offsets of the status registers of a tenant's queues. -/
def queueStatusOffs (t : Nat) : List Nat := (tenRings t).flatMap (fun q => offs [.TEN_SQ_STATUS] q)

theorem queueStatusOff_mem {q t : Nat} (h : q ∈ tenRings t) : regOff .TEN_SQ_STATUS q 0 ∈ queueStatusOffs t :=
  List.mem_flatMap.2 ⟨q, h, by simp [offs]⟩

theorem writes_queueFollows {q t : Nat} (full : Bool) (h : q ∈ tenRings t) : Writes (queueStatusOffs t) s (queueFollows full s q) := by
  have status : ∀ n, Writes (queueStatusOffs t) s (s.put TEN_SQ_STATUS.STATE n q) := fun n =>
    watched_put s _ n q 0 (by simp [queueStatusOff_mem h, TEN_SQ_STATUS.STATE])
  exact (status 3).ite ((status 1).ite (Watched.refl _ _))

/-- Once the ring is marked, only the status of its tenant's queues changes. -/
theorem writes_refreshFull_of_fullMarked : Writes (queueStatusOffs (ownerOf i)) (fullMarked s i) (refreshFull s i) := by
  rw [refreshFull_eq]
  exact Watched.foldl_mem _ _ _ fun s _ h => writes_queueFollows s _ h

/-- Whether a ring is full rests on its configuration and its counts. -/
theorem Watched.ringFull {p : Nat → Bool} {s t : State} {j : Nat} (h : Watched p s t)
    (outside : ∀ r ∈ [RegName.TEN_CQ_CFG, .TEN_CQ_TAIL, .TEN_CQ_HEAD], p (regOff r j 0) = false) : ringFull t j = ringFull s j := by
  have field : ∀ f : Fld, f.reg ∈ [RegName.TEN_CQ_CFG, .TEN_CQ_TAIL, .TEN_CQ_HEAD] → t.get f j = s.get f j :=
    fun f m => h.get f j 0 (outside _ m)
  unfold Machine.ringFull ringFill State.on
  rw [field TEN_CQ_CFG.EN (by decide), field TEN_CQ_CFG.LOG2_SIZE (by decide), field TEN_CQ_TAIL.COUNT (by decide),
    field TEN_CQ_HEAD.COUNT (by decide)]

variable {s i}

theorem tenIdx_ownerOf : tenIdx (ownerOf i) = i / 8 := by
  unfold tenIdx ownerOf idxTen serviceDom
  by_cases h : i / 8 = 512
  · rw [if_pos h, if_pos rfl, h]
  · rw [if_neg h, if_neg h]

/-- The registers of the completion rings lie above those of the queues, and below those of observation. -/
theorem ringOff_not_queueStatus (bound : i < 4104) {k : Nat} (lo : 0x640000 ≤ k) (hi : k < 0x700000) :
    (obsOff k || (queueStatusOffs (ownerOf i)).contains k) = false := by
  have above : k ∉ queueStatusOffs (ownerOf i) := by
    simp only [queueStatusOffs, tenRings, tenIdx_ownerOf, offs, regOff, regDesc, List.mem_flatMap, List.mem_map, List.mem_range, List.map_cons,
      List.map_nil, List.mem_singleton]
    rintro ⟨q, ⟨r, _, rfl⟩, rfl⟩
    omega
  have unobserved : obsOff k = false := by
    simp only [obsOff, Bool.and_eq_false_iff, decide_eq_false_iff_not]
    exact .inl (Nat.not_le.2 hi)
  simpa [unobserved] using above

theorem writes_fullMarked : Writes (offs [.TEN_CQ_STATUS] i) s (fullMarked s i) :=
  watched_put s _ _ i 0 (by simp [offs, TEN_CQ_STATUS.FULL])

theorem ringOff_bounds {r : RegName} (m : r ∈ [RegName.TEN_CQ_CFG, .TEN_CQ_TAIL, .TEN_CQ_HEAD]) (bound : i < 4104) :
    0x640000 ≤ regOff r i 0 ∧ regOff r i 0 < 0x700000 ∧ regOff r i 0 ≠ regOff .TEN_CQ_STATUS i 0 := by
  simp only [List.mem_cons, List.not_mem_nil, or_false] at m
  rcases m with rfl | rfl | rfl <;> simp only [regOff, regDesc] <;> omega

theorem ringFull_fullMarked (bound : i < 4104) : ringFull (fullMarked s i) i = ringFull s i := by
  refine (writes_fullMarked (s := s)).ringFull fun r m => ?_
  obtain ⟨_, below, other⟩ := ringOff_bounds m bound
  simp only [obsOff, offs, List.map_cons, List.map_nil, List.contains_cons, List.contains_nil, Bool.or_false, Bool.or_eq_false_iff,
    Bool.and_eq_false_iff, decide_eq_false_iff_not, beq_eq_false_iff_ne]
  exact ⟨.inl (Nat.not_le.2 below), other⟩

theorem ringFull_refreshFull (bound : i < 4104) : ringFull (refreshFull s i) i = ringFull s i := by
  rw [(writes_refreshFull_of_fullMarked s i).ringFull fun r m => ?_, ringFull_fullMarked bound]
  obtain ⟨above, below, _⟩ := ringOff_bounds m bound
  exact ringOff_not_queueStatus bound above below

/-- The ring's mark says whether it is full, after the refresh as before. -/
theorem full_refreshFull (bound : i < 4104) : (refreshFull s i).get TEN_CQ_STATUS.FULL i = b2n (ringFull (refreshFull s i) i) := by
  rw [ringFull_refreshFull bound, (writes_refreshFull_of_fullMarked s i).get TEN_CQ_STATUS.FULL i 0 (ringOff_not_queueStatus bound ?_ ?_),
    fullMarked, get_put_same _ _ _ _ _ (by decide)]
  · cases ringFull s i <;> rfl
  all_goals simp only [TEN_CQ_STATUS.FULL, regOff, regDesc]; omega

/-- The refresh writes the status of the ring and of its tenant's queues. -/
theorem writes_refreshFull : Writes (offs [.TEN_CQ_STATUS] i ++ queueStatusOffs (ownerOf i)) s (refreshFull s i) :=
  (writes_fullMarked.subset (by simp)).trans ((writes_refreshFull_of_fullMarked s i).subset (by simp))

theorem head_refreshFull (bound : i < 4104) : (refreshFull s i).get TEN_CQ_HEAD.COUNT i = s.get TEN_CQ_HEAD.COUNT i := by
  rw [(writes_refreshFull_of_fullMarked s i).get TEN_CQ_HEAD.COUNT i 0 (ringOff_not_queueStatus bound ?_ ?_), fullMarked,
    get_put_other _ _ _ _ _ _ _ _ ?_]
  all_goals simp only [TEN_CQ_HEAD.COUNT, TEN_CQ_STATUS.FULL, regOff, regDesc]; omega

/-- A head doorbell in range writes the head count, and the status of the ring and of its tenant's queues. -/
theorem writes_headReturned (v : Nat) :
    Writes (offs [.TEN_CQ_HEAD, .TEN_CQ_STATUS] i ++ queueStatusOffs (ownerOf i)) s (refreshFull (s.put TEN_CQ_HEAD.COUNT v i) i) := by
  have head : Writes (offs [.TEN_CQ_HEAD] i) s (s.put TEN_CQ_HEAD.COUNT v i) := watched_put s _ v i 0 (by simp [offs, TEN_CQ_HEAD.COUNT])
  exact (head.subset (by simp [offs])).trans (writes_refreshFull.subset (by simp [offs]))

/-- Settles O24: a doorbell that rings is judged by the requester's domain, and the count of a granted one by the state and the size of its queue
or ring. -/
theorem doorbellsMoveCounts : Obligations.DoorbellsMoveCounts := by
  unfold Obligations.DoorbellsMoveCounts
  intro s a i w bound
  refine ⟨fun rings present => ?tail, fun rings other user => ?headForeign, fun rings granted => ?head⟩
  case tail =>
    rw [execTailDoorbell_of_rings s a i rings present]
    refine ⟨fun granted => ?_, fun other user => ?_⟩
    · rw [if_pos granted]
      exact ⟨fun on running fits => by rw [tailDoorbell_of_accepted s i _ on running fits],
        fun refused => by rw [tailDoorbell_of_refused s i _ refused]⟩
    · rw [if_neg (not_or.2 ⟨other, user⟩)]
  case headForeign =>
    rw [execHeadDoorbell_of_rings s a i rings, if_neg (not_or.2 ⟨other, user⟩)]
  case head =>
    rw [execHeadDoorbell_of_rings s a i rings, if_pos granted]
    refine ⟨fun fits => ?_, fun excess => by rw [headDoorbell_of_refused s i _ excess]⟩
    rw [headDoorbell_of_accepted s i _ fits]
    refine ⟨_, rfl, ?_, full_refreshFull bound, writes_headReturned _⟩
    rw [head_refreshFull bound, get_put_same _ _ _ _ _ (by decide)]
    exact Nat.mod_eq_of_lt w.isLt

end Sys2Proof.Machine
end

section
/-! PROOFS. Instructions that write the register files of their context (04, R174, R180, R186 to R188, R203 to R206): what a register reads after a
write of its file, what an instruction that has issued still reads, and what it leaves once it has written and gone on at the next word. -/

namespace Sys2Proof.Machine

open Sys2Proof Sys2Proof.Laws

/-! ### Masks -/

theorem testBit_maskSet (n i k : Nat) : (maskSet n i).testBit k = (decide (k = i) || n.testBit k) := by
  rw [maskSet, Nat.testBit_or, Nat.one_shiftLeft, Nat.testBit_two_pow, Bool.or_comm]
  simp only [eq_comm]

/-- Clearing a bit is writing 0 to the field of that bit. -/
theorem maskClr_eq_setBits (n i : Nat) : maskClr n i = setBits n i 1 0 := by
  have field : bits n i 1 = (n.testBit i).toNat := by
    rw [bits, Nat.shiftRight_eq_div_pow, Nat.pow_one, Nat.toNat_testBit]
  unfold maskClr setBits
  rw [field]
  cases n.testBit i <;> simp [Nat.one_shiftLeft]

theorem testBit_maskClr (n i k : Nat) : (maskClr n i).testBit k = (!decide (k = i) && n.testBit k) := by
  rw [maskClr_eq_setBits, testBit_setBits]
  by_cases same : k = i
  · simp [same]
  · rw [if_neg (by omega)]
    simp [same]

/-! ### Reading a register file after a write (R174) -/

section

variable (x : Ctx) (i k : Nat)

theorem gReg_setGReg (v : W64) : gReg (setGReg x i v) k = if k = i ∧ i ≠ 0 then v else gReg x k := by
  unfold setGReg
  by_cases zero : i = 0
  · simp [zero]
  · by_cases same : k = i
    · simp [gReg, same, zero]
    · simp [gReg, same, zero, tabGet_tabSet_other]

@[simp] theorem dReg_setGReg (v : W64) : dReg (setGReg x i v) k = dReg x k := by
  unfold setGReg; split <;> rfl

@[simp] theorem pReg_setGReg (v : W64) : pReg (setGReg x i v) k = pReg x k := by
  unfold setGReg; split <;> rfl

@[simp] theorem wait_setGReg (v : W64) : (setGReg x i v).wait = x.wait := by
  unfold setGReg; split <;> rfl

theorem pReg_setPReg (b : Bool) : pReg (setPReg x i b) k = if k = i ∧ i ≠ 0 then b else pReg x k := by
  unfold setPReg
  by_cases zero : i = 0
  · simp [zero]
  · by_cases same : k = i <;> cases b <;> simp [pReg, same, zero, testBit_maskSet, testBit_maskClr]

@[simp] theorem gReg_setPReg (b : Bool) : gReg (setPReg x i b) k = gReg x k := by
  unfold setPReg; split <;> rfl

@[simp] theorem dReg_setPReg (b : Bool) : dReg (setPReg x i b) k = dReg x k := by
  unfold setPReg; split <;> rfl

@[simp] theorem wait_setPReg (b : Bool) : (setPReg x i b).wait = x.wait := by
  unfold setPReg; split <;> rfl

theorem dReg_setDReg (v : BitVec 512) : dReg (setDReg x i v) k = if k = i then v else dReg x k := by
  by_cases same : k = i
  · simp [dReg, setDReg, same]
  · simp [dReg, setDReg, same, tabGet_tabSet_other]

@[simp] theorem gReg_setDReg (v : BitVec 512) : gReg (setDReg x i v) k = gReg x k := rfl
@[simp] theorem pReg_setDReg (v : BitVec 512) : pReg (setDReg x i v) k = pReg x k := rfl
@[simp] theorem wait_setDReg (v : BitVec 512) : (setDReg x i v).wait = x.wait := rfl

/-- The predicates as PPUT leaves them: p7 to p1 are bits 7 to 1 of the value (Table - Predicate logic). -/
def putPreds (v : W64) : Ctx := { x with p := bits v.toNat 1 7 * 2 + 1 }

@[simp] theorem gReg_putPreds (v : W64) : gReg (putPreds x v) k = gReg x k := rfl
@[simp] theorem dReg_putPreds (v : W64) : dReg (putPreds x v) k = dReg x k := rfl
@[simp] theorem wait_putPreds (v : W64) : (putPreds x v).wait = x.wait := rfl

/-- Seven bits above a bit that is 1, as p7 to p0 stand in a word. -/
theorem testBit_preds (n : Nat) : (bits n 1 7 * 2 + 1).testBit k = (k == 0 || (decide (k < 8) && n.testBit k)) := by
  cases k with
  | zero => simp
  | succ k =>
    have half : (bits n 1 7 * 2 + 1) / 2 = bits n 1 7 := by omega
    have low : k + 1 < 8 ↔ k < 7 := by omega
    simp only [Nat.testBit_succ, half, testBit_bits, Nat.add_comm 1 k, low]
    rfl

theorem pReg_putPreds (v : W64) (low : k < 8) : pReg (putPreds x v) k = (k == 0 || v.getLsbD k) := by
  simp [pReg, putPreds, testBit_preds, low, BitVec.getLsbD]

theorem getLsbD_predBits (low : k < 64) : (BitVec.ofNat 64 (predBits x)).getLsbD k = (decide (k < 8) && pReg x k) := by
  rw [BitVec.getLsbD_ofNat, predBits, testBit_preds, pReg]
  cases k <;> simp [low]

end

/-! ### The words of a descriptor register (R188) -/

section

variable (v : BitVec 512) (k : Nat)

theorem dWord_eq_extractLsb' (low : k < 8) : dWord v k = v.extractLsb' (64 * k) 64 := by
  refine BitVec.eq_of_toNat_eq ?_
  rw [dWord, BitVec.toNat_ofNat, BitVec.extractLsb'_toNat, Nat.mod_eq_of_lt low, bits, Nat.mod_mod]

/-- A pattern in which a field has been replaced keeps its width. -/
theorem toNat_ofNat_setBits {n lo w : Nat} (v : BitVec n) (inside : lo + w ≤ n) (x : Nat) :
    (BitVec.ofNat n (setBits v.toNat lo w x)).toNat = setBits v.toNat lo w x := by
  rw [BitVec.toNat_ofNat, Nat.mod_eq_of_lt (setBits_lt v.isLt inside x)]

theorem extractLsb'_setDWord (w : Nat) (x : W64) (low : w < 8) :
    (setDWord v w x).extractLsb' (64 * k) 64 = if k = w then x else v.extractLsb' (64 * k) 64 := by
  refine BitVec.eq_of_toNat_eq ?_
  rw [BitVec.extractLsb'_toNat, setDWord, Nat.mod_eq_of_lt low, toNat_ofNat_setBits v (by omega), ← bits]
  by_cases same : k = w
  · rw [if_pos same, same, bits_setBits_same, Nat.mod_eq_of_lt x.isLt]
  · rw [if_neg same, bits_setBits_disjoint (by omega), BitVec.extractLsb'_toNat, ← bits]

end

/-! ### Writes of the files of one context -/

section

variable {s t : State} {c : Nat}

theorem wroteG_of_filesKept {r : Nat} {v : W64} (h : FilesKept (setGReg (ctxOf s c) r v) (ctxOf t c)) : WroteG s t c r v :=
  ⟨fun k => by rw [h.gReg, gReg_setGReg], fun k => by rw [h.dReg, dReg_setGReg], fun k => by rw [h.pReg, pReg_setGReg]⟩

theorem wroteP_of_filesKept {r : Nat} {b : Bool} (h : FilesKept (setPReg (ctxOf s c) r b) (ctxOf t c)) : WroteP s t c r b :=
  ⟨fun k => by rw [h.gReg, gReg_setPReg], fun k => by rw [h.dReg, dReg_setPReg], fun k _ => by rw [h.pReg, pReg_setPReg]⟩

theorem wroteD_of_filesKept {r : Nat} {v : BitVec 512} (h : FilesKept (setDReg (ctxOf s c) r v) (ctxOf t c)) : WroteD s t c r v :=
  ⟨fun k => by rw [h.gReg, gReg_setDReg], fun k => by rw [h.dReg, dReg_setDReg], fun k => by rw [h.pReg, pReg_setDReg]⟩

theorem FilesKept.setGReg {x y : Ctx} (h : FilesKept x y) (r : Nat) (v : W64) : FilesKept (setGReg x r v) (setGReg y r v) := by
  obtain ⟨hg, hd, hp⟩ := h
  unfold Machine.setGReg
  split
  · exact ⟨hg, hd, hp⟩
  · exact ⟨by rw [hg], hd, hp⟩

theorem FilesKept.setPReg {x y : Ctx} (h : FilesKept x y) (r : Nat) (b : Bool) : FilesKept (setPReg x r b) (setPReg y r b) := by
  obtain ⟨hg, hd, hp⟩ := h
  unfold Machine.setPReg
  split
  · exact ⟨hg, hd, hp⟩
  · exact ⟨hg, hd, by rw [hp]⟩

theorem FilesKept.setDReg {x y : Ctx} (h : FilesKept x y) (r : Nat) (v : BitVec 512) : FilesKept (setDReg x r v) (setDReg y r v) :=
  ⟨h.1, by rw [Machine.setDReg, Machine.setDReg, h.2.1], h.2.2⟩

theorem FilesKept.putPreds {x y : Ctx} (h : FilesKept x y) (v : W64) : FilesKept (putPreds x v) (putPreds y v) :=
  ⟨h.1, h.2.1, rfl⟩

@[simp] theorem ctxOf_setG (s : State) (c r : Nat) (v : W64) : ctxOf (setG s c r v) c = setGReg (ctxOf s c) r v := ctxOf_updCtx_same _ _ _
@[simp] theorem ctxOf_setP (s : State) (c r : Nat) (b : Bool) : ctxOf (setP s c r b) c = setPReg (ctxOf s c) r b := ctxOf_updCtx_same _ _ _
@[simp] theorem ctxOf_setD (s : State) (c r : Nat) (v : BitVec 512) : ctxOf (setD s c r v) c = setDReg (ctxOf s c) r v := ctxOf_updCtx_same _ _ _

/-! ### What a change of one context leaves alone -/

theorem OnlyCtx.tie (h : OnlyCtx s t c) : t.tie = s.tie := by have e := congrArg State.tie h.2.1; exact e
theorem OnlyCtx.persona (h : OnlyCtx s t c) : persona t = persona s := by rw [Machine.persona, Machine.persona, h.tie]
theorem OnlyCtx.now (h : OnlyCtx s t c) : now t = now s := by have e := congrArg (fun u => u.tim.ticks) h.2.1; exact e

theorem OnlyCtx.get (h : OnlyCtx s t c) (f : Fld) (i j : Nat) (unobserved : obsOff (regOff f.reg i j) = false) : t.get f i j = s.get f i j := by
  rw [State.get, State.get, State.rg, State.rg, h.persona, h.1 _ _ unobserved]

theorem OnlyCtx.sure (h : OnlyCtx s t c) : sure t = sure s := by
  rw [Machine.sure, Machine.sure, h.get TIM_STATUS.STATE 0 0 rfl]

/-- The registers below 0x700000 are none of observation. -/
theorem obsOff_of_lt {k : Nat} (h : k < 0x700000) : obsOff k = false := by
  simp [obsOff, Nat.not_le.2 h]

end

/-! ### An instruction that has issued -/

section

variable {s : State} {c : Nat} {f : IFields} {m : Form} (maj fn : Nat)

theorem canIssue_of_issues (h : Issues s c f m = true) : canIssue s c = true := by
  simp only [Issues, Bool.and_eq_true] at h
  obtain ⟨⟨⟨⟨⟨can, _⟩, _⟩, _⟩, _⟩, _⟩ := h
  exact can

theorem formBad_of_issues (h : Issues s c f m = true) : formBad f m = false := by
  simp only [Issues, Bool.and_eq_true, Bool.not_eq_true'] at h
  obtain ⟨⟨⟨⟨⟨_, _⟩, good⟩, _⟩, _⟩, _⟩ := h
  exact good

theorem imm_lt_of_issues (h : Issues s c f m = true) : f.imm.toNat < 2 ^ m.imm := by
  have good := formBad_of_issues h
  simp only [formBad, Bool.or_eq_false_iff, decide_eq_false_iff_not, Nat.not_le] at good
  obtain ⟨⟨⟨_, imm⟩, _⟩, _⟩ := good
  exact imm

theorem wait_of_issues (h : Issues s c f m = true) : (ctxOf s c).wait = none := by
  have can := canIssue_of_issues h
  simp only [canIssue, Bool.and_eq_true, Option.isNone_iff_eq_none] at can
  obtain ⟨⟨⟨_, wait⟩, _⟩, _⟩ := can
  exact wait

theorem ctx_lt_of_issues (h : Issues s c f m = true) : c < 576 := by
  have can := canIssue_of_issues h
  simp only [canIssue, ctxExists, Bool.and_eq_true, decide_eq_true_eq] at can
  obtain ⟨⟨⟨⟨⟨⟨⟨⟨⟨bound, _⟩, _⟩, _⟩, _⟩, _⟩, _⟩, _⟩, _⟩, _⟩ := can
  exact bound

theorem onlyCtx_issued : OnlyCtx s (issued s c maj fn f) c := onlyCtx_countIssue s c _

theorem filesKept_issued : FilesKept (ctxOf s c) (ctxOf (issued s c maj fn f) c) := by
  obtain ⟨g, d, p, _⟩ := ctxOf_countIssue s c (encodeWord maj fn f)
  exact ⟨g, d, p⟩

@[simp] theorem gReg_issued (k : Nat) : gReg (ctxOf (issued s c maj fn f) c) k = gReg (ctxOf s c) k := (filesKept_issued maj fn).gReg k
@[simp] theorem dReg_issued (k : Nat) : dReg (ctxOf (issued s c maj fn f) c) k = dReg (ctxOf s c) k := (filesKept_issued maj fn).dReg k
@[simp] theorem pReg_issued (k : Nat) : pReg (ctxOf (issued s c maj fn f) c) k = pReg (ctxOf s c) k := (filesKept_issued maj fn).pReg k

@[simp] theorem predBits_issued : predBits (ctxOf (issued s c maj fn f) c) = predBits (ctxOf s c) := by
  rw [predBits, predBits, (filesKept_issued maj fn).2.2]

@[simp] theorem wait_issued : (ctxOf (issued s c maj fn f) c).wait = (ctxOf s c).wait := by
  obtain ⟨_, _, _, _, _, wait, _⟩ := ctxOf_countIssue s c (encodeWord maj fn f)
  exact wait

@[simp] theorem ctxTen_issued : ctxTen (issued s c maj fn f) c = ctxTen s c := by
  obtain ⟨_, _, _, _, _, _, _, _, ten, _⟩ := ctxOf_countIssue s c (encodeWord maj fn f)
  rw [ctxTen, ctxTen, issued, ten]

@[simp] theorem now_issued : now (issued s c maj fn f) = now s := (onlyCtx_issued maj fn).now
@[simp] theorem sure_issued : sure (issued s c maj fn f) = sure s := (onlyCtx_issued maj fn).sure

theorem get_issued (g : Fld) (i : Nat) (below : regOff g.reg i 0 < 0x700000) : (issued s c maj fn f).get g i = s.get g i :=
  (onlyCtx_issued maj fn).get g i 0 (obsOff_of_lt below)

/-- A command that is changed under its own name is found again. -/
theorem cmdOf_updCmd_same (s : State) (c k : Nat) (g : Cmd → Cmd) (named : ∀ m, (g m).id = m.id) :
    cmdOf (updCmd s c k g) c k = (cmdOf s c k).map g := by
  rw [cmdOf, updCmd, ctxOf_updCtx_same, cmdOf]
  induction (ctxOf s c).cmds with
  | nil => rfl
  | cons m l ih => by_cases own : m.id = k <;> simp_all

theorem curCmd_updCmd (s : State) {c k : Nat} (cur : (ctxOf s c).cur = some k) (g : Cmd → Cmd) (named : ∀ m, (g m).id = m.id) :
    curCmd (updCmd s c k g) c = (curCmd s c).map g := by
  have kept : (ctxOf (updCmd s c k g) c).cur = some k := by rw [updCmd, ctxOf_updCtx_same, cur]
  simp only [curCmd, kept, cur, cmdOf_updCmd_same s c k g named]

theorem curCmd_congr {s t : State} {c : Nat} (cur : (ctxOf t c).cur = (ctxOf s c).cur) (cmds : (ctxOf t c).cmds = (ctxOf s c).cmds) :
    curCmd t c = curCmd s c := by
  simp only [curCmd, cmdOf, cur, cmds]

/-- The command of the context has started, and is otherwise the same. -/
theorem curCmd_issued : curCmd (issued s c maj fn f) c = (curCmd s c).map (fun m => { m with started := true }) := by
  unfold issued countIssue
  dsimp only
  generalize traced : traceEv _ 3 0 _ _ none _ = u
  have same : ctxOf u c = ctxOf s c :=
    ctxOf_prog (traced ▸ ((watched_addPair s _ _ rfl rfl).trans (watched_count _ _ _ _ _ _ _ _)).trans (watched_traceEv _ _ _ _ _ _ _)).prog c
  have before : curCmd u c = curCmd s c := curCmd_congr (by rw [same]) (by rw [same])
  split
  case h_1 k cur =>
    rw [← before]
    exact (curCmd_congr (by simp) (by simp)).trans (curCmd_updCmd u cur _ fun _ => rfl)
  case h_2 idle =>
    rw [← before]
    simp [curCmd, idle]

@[simp] theorem curTag_issued : curTag (issued s c maj fn f) c = curTag s c := by
  unfold curTag
  rw [curCmd_issued]
  cases curCmd s c <;> rfl

end

section

variable {s t : State} {c : Nat} {f : IFields} {m : Form} {maj fn : Nat} {ext : Bool}

/-- An instruction that has issued, writes its context and goes on at the next word changes that context alone, and its files as it wrote them. -/
theorem issue_advance (h : Issues s c f m = true) {w : State → State} (run : issue s c maj fn f m false (fun u => advance (w u) c ext) = t)
    (only : ∀ u, OnlyCtx u (w u) c) (wait : ∀ u, (ctxOf (w u) c).wait = (ctxOf u c).wait) {x : Ctx}
    (files : FilesKept x (ctxOf (w (issued s c maj fn f)) c)) : OnlyCtx s t c ∧ FilesKept x (ctxOf t c) := by
  subst run
  obtain ⟨advanced, kept⟩ := advance_keeps (w (issued s c maj fn f)) c ext (by rw [wait, wait_issued, wait_of_issues h])
  rw [issue_body s c maj fn f m _ h]
  exact ⟨((onlyCtx_issued maj fn).trans (only _)).trans advanced, files.trans kept⟩

/-- An instruction whose effect is to write a general register. -/
theorem issue_setG (h : Issues s c f m = true) {r : Nat} {val : State → W64}
    (run : issue s c maj fn f m false (fun u => advance (setG u c r (val u)) c ext) = t) {v : W64} (reads : val (issued s c maj fn f) = v) :
    OnlyCtx s t c ∧ WroteG s t c r v :=
  (issue_advance h run (fun u => onlyCtx_updCtx u c _) (fun u => by simp)
    (by rw [ctxOf_setG, reads]; exact (filesKept_issued maj fn).setGReg r v)).imp_right wroteG_of_filesKept

/-- An instruction whose effect is to write a predicate. -/
theorem issue_setP (h : Issues s c f m = true) {r : Nat} {val : State → Bool}
    (run : issue s c maj fn f m false (fun u => advance (setP u c r (val u)) c ext) = t) {b : Bool} (reads : val (issued s c maj fn f) = b) :
    OnlyCtx s t c ∧ WroteP s t c r b :=
  (issue_advance h run (fun u => onlyCtx_updCtx u c _) (fun u => by simp)
    (by rw [ctxOf_setP, reads]; exact (filesKept_issued maj fn).setPReg r b)).imp_right wroteP_of_filesKept

/-- An instruction whose effect is to write a descriptor register. -/
theorem issue_setD (h : Issues s c f m = true) {r : Nat} {val : State → BitVec 512}
    (run : issue s c maj fn f m false (fun u => advance (setD u c r (val u)) c ext) = t) {v : BitVec 512}
    (reads : val (issued s c maj fn f) = v) : OnlyCtx s t c ∧ WroteD s t c r v :=
  (issue_advance h run (fun u => onlyCtx_updCtx u c _) (fun u => by simp)
    (by rw [ctxOf_setD, reads]; exact (filesKept_issued maj fn).setDReg r v)).imp_right wroteD_of_filesKept

end

/-! ### Moves between the register files (R180, R186 to R188) -/

section

variable {s : State} {c : Nat} {f : IFields}

/-- PPUT writes p7 to p1 and keeps the other files. -/
theorem pput_putPreds (h : Issues s c f ⟨.z, .gr, .z, 0, false⟩ = true) :
    ∃ t, exec (.pput c f) s = .next t ∧ OnlyCtx s t c ∧ FilesKept (putPreds (ctxOf s c) (gReg (ctxOf s c) f.ra)) (ctxOf t c) := by
  refine ⟨_, rfl, issue_advance h (w := fun u => updCtx u c fun x => putPreds x (gReg x f.ra)) rfl (fun u => onlyCtx_updCtx u c _)
    (fun u => by simp) ?_⟩
  rw [ctxOf_updCtx_same, gReg_issued]
  exact (filesKept_issued _ _).putPreds _

/-- The registers that GETS reads lie below those of observation. -/
theorem ctxCfgOff_lt (bound : c < 576) : regOff .TRW_CTX_CFG c 0 < 0x700000 := by
  simp only [regOff, regDesc]
  omega

/-- What GETS reads once it has issued is what the block held before (Table - GETS selectors). -/
theorem getsVal_issued (bound : c < 576) (maj fn sel : Nat) : getsVal (issued s c maj fn f) c sel = getsVal s c sel := by
  unfold getsVal
  split
  case h_1 => rfl
  case h_2 => exact ctxTen_issued maj fn
  case h_3 => exact get_issued maj fn _ _ (ctxCfgOff_lt bound)
  case h_6 => exact curTag_issued maj fn
  case h_7 => exact get_issued maj fn GLB_FLAT_ID.FLAT_ID 0 (by decide)
  case h_8 => rw [(onlyCtx_issued maj fn).persona]
  case h_4 | h_5 | h_9 =>
    rw [curCmd_issued]
    cases curCmd s c <;> rfl

/-- The selectors of GETS that read the command (Table - GETS selectors). -/
theorem getsVal_of_curCmd {m : Cmd} (cur : curCmd s c = some m) :
    getsVal s c 3 = m.q % 8 ∧ getsVal s c 4 = m.seq ∧ getsVal s c 5 = hdrTag m ∧ getsVal s c 8 = (topStat m.stats).code := by
  simp [getsVal, curTag, cur]

/-- GETS of a selector that is not reserved writes the fact it names. -/
theorem gets_getsVal (h : Issues s c f ⟨.gw, .z, .z, 8, false⟩ = true) (defined : f.imm.toNat < 9) :
    ∃ t, exec (.gets c f) s = .next t ∧ OnlyCtx s t c ∧ WroteG s t c f.rd (BitVec.ofNat 64 (getsVal s c f.imm.toNat)) := by
  have unreserved : decide (9 ≤ f.imm.toNat) = false := by simpa using defined
  have value := getsVal_issued (s := s) (f := f) (ctx_lt_of_issues h) 0x05 0x00 f.imm.toNat
  refine ⟨_, rfl, ?_⟩
  rw [unreserved]
  exact issue_setG h rfl (congrArg (BitVec.ofNat 64) value)

end

/-- Settles O3: each instruction writes one register file once it has issued, and what it has read is what the context held before. -/
theorem predicateAndDescriptorMoves : Obligations.PredicateAndDescriptorMoves := by
  unfold Obligations.PredicateAndDescriptorMoves
  refine ⟨fun s c f => ⟨fun h => ⟨?pand, ?por, ?pxor⟩, fun h => ?pnot, fun h => ?pget, fun h => ?pput⟩,
    fun s c f => ⟨fun h => ?dsetw, fun h => ?dgetw, fun h => ?dzero, fun h => ?dmov, fun h defined => ?gets⟩⟩
  case pand => exact ⟨_, rfl, issue_setP h rfl (by rw [pReg_issued, pReg_issued])⟩
  case por => exact ⟨_, rfl, issue_setP h rfl (by rw [pReg_issued, pReg_issued])⟩
  case pxor => exact ⟨_, rfl, issue_setP h rfl (by rw [pReg_issued, pReg_issued])⟩
  case pnot => exact ⟨_, rfl, issue_setP h rfl (by rw [pReg_issued])⟩
  case pget =>
    exact ⟨_, BitVec.ofNat 64 (predBits (ctxOf s c)), rfl,
      and_assoc.1 ⟨issue_setG h rfl (by rw [predBits_issued]), fun k low => getLsbD_predBits _ k low⟩⟩
  case pput =>
    obtain ⟨t, run, only, kept⟩ := pput_putPreds h
    exact ⟨t, run, only, fun k => by rw [kept.gReg, gReg_putPreds], fun k => by rw [kept.dReg, dReg_putPreds],
      fun k low => by rw [kept.pReg, pReg_putPreds _ _ _ low]⟩
  case dsetw =>
    exact ⟨_, setDWord (dReg (ctxOf s c) f.rd) f.imm.toNat (gReg (ctxOf s c) f.rb), rfl,
      and_assoc.1 ⟨issue_setD h rfl (by rw [dReg_issued, gReg_issued]), fun k _ => extractLsb'_setDWord _ k _ _ (imm_lt_of_issues h)⟩⟩
  case dgetw => exact ⟨_, rfl, issue_setG h rfl (by rw [dReg_issued, dWord_eq_extractLsb' _ _ (imm_lt_of_issues h)])⟩
  case dzero => exact ⟨_, rfl, issue_setD h rfl rfl⟩
  case dmov => exact ⟨_, rfl, issue_setD h rfl (by rw [dReg_issued])⟩
  case gets =>
    obtain ⟨t, run, only, wrote⟩ := gets_getsVal h defined
    refine ⟨t, _, run, only, wrote, fun e => by rw [e]; rfl, fun e => by rw [e]; rfl, fun e => by rw [e]; rfl, fun e => by rw [e]; rfl,
      fun m cur => ?_⟩
    obtain ⟨queue, seq, tag, code⟩ := getsVal_of_curCmd cur
    exact ⟨fun e => by rw [e, ← queue]; rfl, fun e => by rw [e, ← seq]; rfl, fun e => by rw [e, ← tag]; rfl, fun e => by rw [e, ← code]; rfl⟩

/-! ### Time and queues (R203 to R206) -/

section

variable {s : State} {c : Nat} {f : IFields}

/-- TIME.READ writes a general register and a predicate. -/
theorem timeRead_setP_setG (h : Issues s c f ⟨.gw, .z, .ps, 0, false⟩ = true) :
    ∃ t, exec (.timeRead c f) s = .next t ∧ OnlyCtx s t c ∧
      FilesKept (setPReg (setGReg (ctxOf s c) f.rd (BitVec.ofNat 64 (now s))) f.rb (sure s)) (ctxOf t c) := by
  refine ⟨_, rfl, issue_advance h (w := fun u => setP (setG u c f.rd (BitVec.ofNat 64 (now u))) c f.rb (sure u)) rfl
    (fun u => (onlyCtx_updCtx u c _).trans (onlyCtx_updCtx _ c _)) (fun u => by simp) ?_⟩
  rw [ctxOf_setP, ctxOf_setG, now_issued, sure_issued]
  exact ((filesKept_issued _ _).setGReg _ _).setPReg _ _

/-- The sequence numbers that Q.DONE reads lie below the registers of observation. -/
theorem sqDoneOff_lt {q : Nat} (bound : q < 4104) : regOff .TEN_SQ_DONE q 0 < 0x700000 := by
  simp only [regOff, regDesc]
  omega

@[simp] theorem ownQueue_issued (maj fn q : Nat) : ownQueue (issued s c maj fn f) c q = ownQueue s c q := by
  rw [ownQueue, ownQueue, ctxTen_issued]

end

/-- Settles O4: each instruction writes what it reads, and the next course boundary is the multiple of 65,536 above the time. -/
theorem timeAndQueueReads : Obligations.TimeAndQueueReads := by
  unfold Obligations.TimeAndQueueReads
  intro s c f
  refine ⟨fun h => ?timeRead, fun h => ?timeNext, fun h bound => ?qDone⟩
  case timeRead =>
    obtain ⟨t, run, only, kept⟩ := timeRead_setP_setG h
    exact ⟨t, run, only, fun k => by rw [kept.gReg, gReg_setPReg, gReg_setGReg], fun k => by rw [kept.dReg, dReg_setPReg, dReg_setGReg],
      fun k _ => by rw [kept.pReg, pReg_setPReg, pReg_setGReg]⟩
  case timeNext =>
    exact ⟨_, now s / 65536 * 65536 + 65536, rfl, and_assoc.1 ⟨issue_setG h rfl (by rw [now_issued]), by omega, by omega, by omega⟩⟩
  case qDone =>
    have done := fun maj fn => get_issued (s := s) (c := c) (f := f) maj fn TEN_SQ_DONE.SEQ (ownQueue s c f.rb) (sqDoneOff_lt bound)
    exact ⟨_, rfl, issue_setG h rfl (by rw [ownQueue_issued, done]; rfl)⟩

end Sys2Proof.Machine
end

section
/-! PROOFS. Bytes of numbers and of the scratchpad (R7): what a range of little-endian bytes reads as, and what a byte of the scratchpad reads after
a write of a range. -/

namespace Sys2Proof.Laws

open Sys2Proof Sys2Proof.Machine

/-! ### Little-endian bytes -/

@[simp] theorem length_leBytes (m : Nat) : ∀ n, (leBytes m n).length = m := by
  induction m with
  | zero => exact fun _ => rfl
  | succ m ih => exact fun n => congrArg (· + 1) (ih _)

theorem take_leBytes {k : Nat} : ∀ {m : Nat} (_ : k ≤ m) (n : Nat), (leBytes m n).take k = leBytes k n := by
  induction k with
  | zero => exact fun _ _ => List.take_zero
  | succ k ih =>
    intro m h n
    obtain ⟨m, rfl⟩ := Nat.exists_eq_add_of_lt h
    exact congrArg (_ :: ·) (ih (by omega) _)

theorem drop_leBytes (lo : Nat) : ∀ m n, (leBytes m n).drop lo = leBytes (m - lo) (n / 256 ^ lo) := by
  induction lo with
  | zero => simp
  | succ lo ih =>
    intro m n
    cases m with
    | zero => simp [leBytes]
    | succ m => rw [leBytes, List.drop_succ_cons, ih, Nat.div_div_eq_div_mul, Nat.add_sub_add_right, Nat.pow_succ']

theorem ofLe_leBytes (k : Nat) : ∀ n, ofLe (leBytes k n) = n % 256 ^ k := by
  induction k with
  | zero => exact fun n => (Nat.mod_one n).symm
  | succ k ih =>
    intro n
    rw [leBytes, ofLe, ih, BitVec.toNat_ofNat, Nat.pow_succ' (m := 256), Nat.mod_mul]

/-- A range of a number's bytes reads as the number's part in that range. -/
theorem leAt_leBytes {lo k m : Nat} (h : lo + k ≤ m) (n : Nat) : leAt (leBytes m n) lo k = n / 256 ^ lo % 256 ^ k := by
  rw [leAt, drop_leBytes, take_leBytes (by omega), ofLe_leBytes]

/-- A number written before other bytes is read back. -/
theorem leAt_leBytes_append {k n : Nat} (h : n < 256 ^ k) (d : List Byte) : leAt (leBytes k n ++ d) 0 k = n := by
  rw [leAt, List.drop_zero, List.take_append_of_le_length (by simp), List.take_of_length_le (by simp), ofLe_leBytes, Nat.mod_eq_of_lt h]

/-! ### The scratchpad -/

theorem spwPut_append (x y : List Byte) : ∀ (m : List Host.Cell) (a : Nat), spwPut m a (x ++ y) = spwPut (spwPut m a x) (a + x.length) y := by
  induction x with
  | nil => exact fun _ _ => rfl
  | cons b x ih =>
    intro m a
    rw [List.cons_append, spwPut, spwPut, ih, List.length_cons, Nat.add_right_comm, Nat.add_assoc]

/-- A range is written whole or in two parts, one after the other. -/
theorem spwWrite_append (s : State) (a : Nat) (x y : List Byte) : spwWrite s a (x ++ y) = spwWrite (spwWrite s a x) (a + x.length) y := by
  simp only [spwWrite, spwPut_append]

theorem tabGet_spwPut (d : List Byte) : ∀ (m : List Host.Cell) (a k : Nat),
    tabGet 0 k (spwPut m a d) = if a ≤ k then d[k - a]?.getD (tabGet 0 k m) else tabGet 0 k m := by
  induction d with
  | nil => simp [spwPut]
  | cons b d ih =>
    intro m a k
    rw [spwPut, ih]
    obtain below | rfl | above := Nat.lt_trichotomy k a
    · rw [if_neg (by omega), if_neg (by omega), tabGet_tabSet_other _ _ _ (by omega)]
    · rw [if_neg (Nat.not_succ_le_self k), if_pos (Nat.le_refl k), tabGet_tabSet_same, Nat.sub_self, List.getElem?_cons_zero, Option.getD_some]
    · rw [if_pos (show a + 1 ≤ k from above), if_pos (show a ≤ k by omega), tabGet_tabSet_other _ _ _ (by omega), show k - a = k - (a + 1) + 1 by omega,
        List.getElem?_cons_succ]

/-- A byte within a written range is the byte written. -/
theorem spwGet_spwWrite_inside (s : State) (a : Nat) (d : List Byte) {k : Nat} (h : k < d.length) : spwGet (spwWrite s a d) (a + k) = d[k] := by
  rw [spwGet, spwWrite, tabGet_spwPut, if_pos (Nat.le_add_right a k), Nat.add_sub_cancel_left, List.getElem?_eq_getElem h, Option.getD_some]

/-- A byte outside a written range is kept. -/
theorem spwGet_spwWrite_outside (s : State) (a : Nat) (d : List Byte) {k : Nat} (h : k < a ∨ a + d.length ≤ k) :
    spwGet (spwWrite s a d) k = spwGet s k := by
  rw [spwGet, spwWrite, tabGet_spwPut]
  split
  · rw [List.getElem?_eq_none (by omega), Option.getD_none, spwGet]
  · rfl

/-- A written range reads as what was written. -/
theorem spwRead_spwWrite (s : State) (a : Nat) (d : List Byte) : spwRead (spwWrite s a d) a d.length = d :=
  List.ext_getElem (by simp [spwRead]) fun k _ h => by
    simpa [spwRead] using spwGet_spwWrite_inside s a d h

end Sys2Proof.Laws
end

section
/-! PROOFS. A raised fault source is pending (R661): the trace that a raise leaves does not write the pending sources. -/

namespace Sys2Proof.Machine

open Sys2Proof Sys2Proof.Laws

/-- An observation of the state that the records of the trace units, their registers of status and lost events, and the mark of a gap do not
show in. -/
structure BlindToTrace {α : Type} (g : State → α) : Prop where
  setTrc : ∀ s u x, g (setTrc s u x) = g s
  put : ∀ s f v u, f.reg = .OBS_TRC_LOST ∨ f.reg = .OBS_TRC_STATUS → g (s.put f v u) = g s
  gap : ∀ (s : State) b, g { s with clk := { s.clk with gapCore := b } } = g s

/-- What each step keeps, a run of steps keeps. -/
theorem foldl_keeps {σ α β : Type} (g : σ → α) (f : σ → β → σ) (h : ∀ s x, g (f s x) = g s) (l : List β) (s : σ) : g (l.foldl f s) = g s := by
  induction l generalizing s with
  | nil => rfl
  | cons x l ih => exact (ih _).trans (h s x)

namespace BlindToTrace

variable {α : Type} {g : State → α} (h : BlindToTrace g) (s : State) (u : Nat)
include h

theorem trcLose : g (trcLose s u) = g s := (h.put _ _ _ _ (.inl rfl)).trans (h.setTrc _ _ _)

theorem putHeld : g (putHeld s u) = g s := h.put _ _ _ _ (.inr rfl)

theorem trcStore (r : TrcRec) : g (trcStore s u r) = g s := by
  unfold Machine.trcStore
  split <;> simp only [apply_ite g, h.setTrc, h.trcLose, ite_self]

theorem trcLostDue (b : Bool) : g (trcLostDue s u b) = g s := by
  simp only [Machine.trcLostDue, apply_ite g, h.trcStore, h.setTrc, ite_self]

theorem trcSnap : g (trcSnap s u) = g s := by
  have status : ∀ t f v, f.reg = .OBS_TRC_STATUS → g (t.put f v u) = g t := fun t f v e => h.put t f v u (.inr e)
  have missed : g (s.incSat OBS_TRC_STATUS.SNAP_MISS u) = g s := status _ _ _ rfl
  simp only [Machine.trcSnap, apply_ite g, missed, h.putHeld, status _ OBS_TRC_STATUS.FROZEN_A _ rfl, status _ OBS_TRC_STATUS.FROZEN_B _ rfl,
    h.setTrc, ite_self]

theorem trcFireOne : g (trcFireOne s u) = g s := by
  have state : ∀ t v, g (t.put OBS_TRC_STATUS.STATE v u) = g t := fun t v => h.put t _ v u (.inr rfl)
  simp only [Machine.trcFireOne, apply_ite g, h.trcSnap, h.setTrc, state, ite_self]

theorem trcFire (n : Nat) : ∀ s u, g (trcFire n s u) = g s := by
  induction n with
  | zero => exact fun _ _ => rfl
  | succ n ih =>
    intro s u
    have crossed : ∀ (l : List Nat) t (c : State → Nat → Bool), g (l.foldl (fun acc v => if c acc v then Machine.trcFire n acc v else acc) t) = g t :=
      fun l t c => foldl_keeps g _ (fun t v => by rw [apply_ite g, ih, ite_self]) l t
    simp only [Machine.trcFire, apply_ite g, crossed, h.trcFireOne, ite_self]

theorem trcOffer (a b : Nat) : g (trcOffer s a b) = g s :=
  foldl_keeps g _ (fun t v => by rw [apply_ite g, h.trcFire, ite_self]) _ s

theorem trcTake (k : Nat) (r : TrcRec) : g (trcTake s u k r) = g s := by
  simp only [Machine.trcTake, apply_ite g, h.trcLose, h.putHeld, h.trcLostDue, h.trcStore, h.setTrc, h.trcFire, ite_self]

theorem traceEv (src evt ten tag : Nat) (port : Option Nat) (d : List Byte) : g (traceEv s src evt ten tag port d) = g s := by
  have taken : ∀ (l : List Nat) t (c : State → Nat → Bool) k r, g (l.foldl (fun acc v => if c acc v then Machine.trcTake acc v k r else acc) t) = g t :=
    fun l t c k r => foldl_keeps g _ (fun t v => by rw [apply_ite g, h.trcTake, ite_self]) l t
  simp only [Machine.traceEv, apply_ite g, h.gap, taken, ite_self]

end BlindToTrace

variable {s : State} {i : Nat}

theorem regOff_pend_ne_trace (bound : i < 4) (u : Nat) :
    regOff .FLT_PEND i 0 ≠ regOff .OBS_TRC_LOST u 0 ∧ regOff .FLT_PEND i 0 ≠ regOff .OBS_TRC_STATUS u 0 := by
  simp only [regOff, regDesc]
  omega

theorem blindToTrace_pend (bound : i < 4) : BlindToTrace (fun s => s.rg .FLT_PEND i) where
  setTrc _ _ _ := rfl
  gap _ _ := rfl
  put s f v u e := by
    obtain ⟨lost, status⟩ := regOff_pend_ne_trace bound u
    refine rg_setRg_other _ _ _ _ _ _ _ _ ?_
    rcases e with e | e <;> rw [e] <;> assumption

/-- The capture of a first raise leaves the pending sources alone. -/
theorem rg_pend_fltCapture (bound : i < 4) (src : Nat) : (fltCapture s src).rg .FLT_PEND i = s.rg .FLT_PEND i := by
  have first : ∀ (t : State) f v, f.reg = .FLT_FIRST → (t.put f v).rg .FLT_PEND i = t.rg .FLT_PEND i := fun t f v e =>
    rg_setRg_other _ _ _ _ _ _ _ _ (by rw [e]; simp only [regOff, regDesc]; omega)
  have time : ∀ (t : State) v, (t.putPair .FLT_FIRST_TIME v).rg .FLT_PEND i = t.rg .FLT_PEND i := fun t v =>
    (rg_setRg_other _ _ _ _ _ _ _ _ (by simp only [regOff, regDesc]; omega)).trans
      (rg_setRg_other _ _ _ _ _ _ _ _ (by simp only [regOff, regDesc]; omega))
  rw [fltCapture, time, first _ _ _ rfl, first _ _ _ rfl, first _ _ _ rfl, first _ _ _ rfl]

/-- A raise adds its source to those that are pending. -/
theorem rg_pend_raise {src : Nat} (bound : src < 128) :
    (raise s src).rg .FLT_PEND (src / 32) = BitVec.ofNat 32 (maskSet (s.rg .FLT_PEND (src / 32)).toNat (src % 32)) := by
  have low : src / 32 < 4 := by omega
  have blind := blindToTrace_pend low
  have overflow : ∀ (t : State) v, (t.put FLT_FIRST.OVERFLOW v).rg .FLT_PEND (src / 32) = t.rg .FLT_PEND (src / 32) := fun t v =>
    rg_setRg_other _ _ _ _ _ _ _ _ (by simp only [regOff, regDesc, FLT_FIRST.OVERFLOW]; omega)
  have counted : ∀ t : State, (t.incSat FLT_SEV.COUNT src).rg .FLT_PEND (src / 32) = t.rg .FLT_PEND (src / 32) := fun t =>
    rg_setRg_other _ _ _ _ _ _ _ _ (by simp only [regOff, regDesc, FLT_SEV.COUNT]; omega)
  have timed : ∀ (t : State) (o : Obs), State.rg { t with obs := o } .FLT_PEND (src / 32) = t.rg .FLT_PEND (src / 32) := fun _ _ => rfl
  unfold raise
  refine (blind.trcOffer _ _ _).trans ((blind.traceEv _ _ _ _ _ _ _).trans ?_)
  simp only [apply_ite (fun t : State => t.rg .FLT_PEND (src / 32)), timed, rg_pend_fltCapture low, overflow, counted, rg_setRg, ite_self]

/-- A raised source is pending. -/
theorem pends_raise {src : Nat} (bound : src < 128) : Pends (raise s src) src := by
  rw [Pends, fltPending, rg_pend_raise bound, bit, BitVec.toNat_ofNat, Nat.testBit_mod_two_pow, testBit_maskSet]
  simp [Nat.mod_lt]

end Sys2Proof.Machine
end

section
/-! PROOFS. The I3C target and the test access port (18, R597, R677, R678, R712 to R715): what a transfer of whole words leaves in the
registers and the boot window, the provisional ID by its fields, and what a load of WIR or WDR does with test access closed, opened and new. -/

namespace Sys2Proof.Machine

open Sys2Proof Sys2Proof.Laws

variable {s : State}

/-! ### Written words (R713) -/

/-- The first n words of d written to the registers from an offset on, each with what follows of it. -/
def wordsWritten (s : State) (off : Nat) (d : List Byte) (n : Nat) : State :=
  (List.range n).foldl (fun v k => settle (regWrite v ⟨3, 0x200⟩ ((off + 4 * k) % regSize) (BitVec.ofNat 32 (leAt d (4 * k) 4)))) s

/-- The words after the first are those of the bytes after the fourth, from the next offset on. -/
theorem wordsWritten_succ {off : Nat} (inside : off < regSize) (d : List Byte) (n : Nat) :
    wordsWritten s off d (n + 1) =
      wordsWritten (settle (regWrite s ⟨3, 0x200⟩ off (BitVec.ofNat 32 (leAt d 0 4)))) ((off + 4) % regSize) (d.drop 4) n := by
  have next : ∀ k, (off + 4 * (k + 1)) % regSize = ((off + 4) % regSize + 4 * k) % regSize := fun k => by
    rw [Nat.mod_add_mod]
    congr 1
    omega
  have word : ∀ k, leAt d (4 * (k + 1)) 4 = leAt (d.drop 4) (4 * k) 4 := fun k => by
    rw [leAt, leAt, List.drop_drop]
    congr 3
    omega
  unfold wordsWritten
  rw [List.range_succ_eq_map, List.foldl_cons, List.foldl_map]
  simp only [Nat.succ_eq_add_one, next, word, Nat.mul_zero, Nat.add_zero, Nat.mod_eq_of_lt inside]

/-- Whole words for the registers are written one after the other, and the offset goes on behind them. -/
theorem i3cWords_registers {n : Nat} : ∀ {fuel : Nat} (s : State) {off : Nat} {d : List Byte}, n < fuel → d.length = 4 * n → off < regSize →
    i3cWords fuel s false off d =
      putI3c (wordsWritten s off d n) { (wordsWritten s off d n).i3c with off := (off + 4 * n) % regSize, boot := false } := by
  induction n with
  | zero =>
    intro fuel s off d enough len inside
    obtain ⟨fuel, rfl⟩ := Nat.exists_eq_add_of_lt enough
    rw [i3cWords, if_pos (by omega), Nat.mul_zero, Nat.add_zero, Nat.mod_eq_of_lt inside]
    rfl
  | succ n ih =>
    intro fuel s off d enough len inside
    obtain ⟨fuel, rfl⟩ := Nat.exists_eq_add_of_lt enough
    have behind : ((off + 4) % regSize + 4 * n) % regSize = (off + 4 * (n + 1)) % regSize := by
      rw [Nat.mod_add_mod]
      congr 1
      omega
    rw [i3cWords, if_neg (by omega), if_neg Bool.false_ne_true, ih _ (by omega) (by rw [List.length_drop]; omega) (Nat.mod_lt _ (by decide)),
      behind, wordsWritten_succ inside]
    rfl

/-- Whole words for the boot window, while the block waits at the door, are written to the scratchpad as they come. -/
theorem i3cWords_bootWindow {n : Nat} : ∀ {fuel : Nat} (s : State) {off : Nat} {d : List Byte}, n < fuel → d.length = 4 * n →
    off + 4 * n ≤ bootWin → bootPhase s = phWaitDoor →
    i3cWords fuel s true off d = putI3c (spwWrite s off d) { s.i3c with off := off + 4 * n, boot := true } := by
  induction n with
  | zero =>
    intro fuel s off d enough len window door
    obtain ⟨fuel, rfl⟩ := Nat.exists_eq_add_of_lt enough
    obtain rfl := List.eq_nil_of_length_eq_zero len
    rfl
  | succ n ih =>
    intro fuel s off d enough len window door
    obtain ⟨fuel, rfl⟩ := Nat.exists_eq_add_of_lt enough
    have next : (off + 4) % regSize = off + 4 := Nat.mod_eq_of_lt (by unfold bootWin at window; unfold regSize; omega)
    have behind : off + 4 + 4 * n = off + 4 * (n + 1) := by omega
    have first : (d.take 4).length = 4 := by rw [List.length_take]; omega
    have whole : spwWrite (spwWrite s off (d.take 4)) (off + 4) (d.drop 4) = spwWrite s off d := by
      have parts := spwWrite_append s off (d.take 4) (d.drop 4)
      rw [first, List.take_append_drop] at parts
      exact parts.symm
    rw [i3cWords, if_neg (by omega), if_pos rfl, if_pos door, if_pos (by omega), next,
      ih (spwWrite s off (d.take 4)) (by omega) (by rw [List.length_drop]; omega) (by omega) door, whole, spwWrite_i3c, behind]

/-- A write transfer of an address word and whole words writes them from the offset that the address word names. -/
theorem execI3cPrivateWrite_of_words {b w n : Nat} {d : List Byte} (por : s.clk.por = false) (addr : s.i3c.addr = some b) (word : w < 256 ^ 4)
    (len : d.length = 4 * n) (few : n ≤ 256) :
    exec (.i3cPrivateWrite (leBytes 4 w ++ d)) s = .next (i3cWords 258 s (decide (2 ^ 31 ≤ w)) (w / 4 % 2 ^ 22 * 4) d) := by
  have top : bit w 31 = decide (2 ^ 31 ≤ w) := by
    rw [bit, Nat.testBit_eq_decide_div_mod_eq]
    congr 1
    apply propext
    omega
  have taken : (leBytes 4 w ++ d).take 1028 = leBytes 4 w ++ d := List.take_of_length_le (by rw [List.length_append, length_leBytes]; omega)
  have rest : (leBytes 4 w ++ d).drop 4 = d := List.drop_left' (length_leBytes 4 w)
  have place : bits w 2 22 = w / 4 % 2 ^ 22 := congrArg (· % 2 ^ 22) (Nat.shiftRight_eq_div_pow w 2)
  show execI3cPrivateWrite _ s = _
  rw [execI3cPrivateWrite, i3cWrite, if_neg (by simp [addr, por])]
  simp only [taken, rest, leAt_leBytes_append word, top, place]

theorem i3cOffset_lt (w : Nat) : w / 4 % 2 ^ 22 * 4 < regSize := by
  unfold regSize
  omega

/-! ### Read words (R713) -/

@[simp] theorem length_freeBytes (s : State) (n : Nat) : (freeBytes s n).1.length = n := by simp [freeBytes]

/-- A read transfer gives four bytes for each word. -/
theorem length_i3cReadRun (n : Nat) : ∀ (s : State) (boot : Bool) (off : Nat), (i3cReadRun n s boot off).2.length = 4 * n := by
  induction n with
  | zero => exact fun _ _ _ => rfl
  | succ n ih =>
    intro s boot off
    cases boot <;> simp [i3cReadRun, ih] <;> omega

/-- The first word of a read transfer of the registers is the register at its offset. -/
theorem take_i3cReadRun (n : Nat) (s : State) (off : Nat) :
    (i3cReadRun (n + 1) s false off).2.take 4 = leBytes 4 (regRead s ⟨3, 0x200⟩ off).2.toNat := by
  rw [i3cReadRun, if_neg Bool.false_ne_true, List.take_append_of_le_length (by simp), List.take_of_length_le (by simp)]
  rfl

/-- A read transfer of n bytes answers as many as the transfer holds, from the words at its offset on. -/
theorem execI3cPrivateRead_last {b : Nat} (por : s.clk.por = false) (addr : s.i3c.addr = some b) (n : Nat) :
    ∃ t, exec (.i3cPrivateRead n) s = .next t ∧
      t.i3c.last = (i3cReadRun (ceilDiv (min n 1028) 4) s s.i3c.boot s.i3c.off).2.take (min n 1028) := by
  refine ⟨_, rfl, ?_⟩
  rw [i3cRead, if_neg (by simp [addr, por])]
  rfl

/-! ### Common command codes (R712) -/

theorem i3cAnswer_of_addressed {b : Nat} (por : s.clk.por = false) (addr : s.i3c.addr = some b) (d : List Byte) :
    i3cAnswer s d = i3cSays s d := by
  rw [i3cAnswer, if_neg (by simp [addr, por])]
  rfl

/-- The provisional ID of manufacturer m and unit i ends in the unit's number and the constant 3, below the part's number (R712). -/
theorem pid_fields (m i : Nat) :
    leAt (leBytes 6 (m % 2 ^ 15 * 2 ^ 33 + 0x4E32 * 2 ^ 16 + i % 16 * 2 ^ 12 + 3)) 0 2 = i % 16 * 4096 + 3 ∧
      leAt (leBytes 6 (m % 2 ^ 15 * 2 ^ 33 + 0x4E32 * 2 ^ 16 + i % 16 * 2 ^ 12 + 3)) 2 2 = 0x4E32 := by
  rw [leAt_leBytes (by decide), leAt_leBytes (by decide), Nat.pow_zero, Nat.div_one]
  constructor <;> omega

/-! ### Test access (R677, R714, R715) -/

/-- With test access closed a load acts as BYPASS (R677). -/
theorem tapLoad_of_closed (test : s.on GLB_LOCK.TEST = true) (ir : Nat) (f : Tap → Tap) : tapLoad s ir f = tapSelect s 0xFF 0 := if_pos test

/-- With test access opened before, a load selects its register and nothing else follows. -/
theorem tapLoad_of_opened (test : s.on GLB_LOCK.TEST = false) (opened : s.tap.opened = true) (ir : Nat) (f : Tap → Tap) :
    tapLoad s ir f = putTap s { f s.tap with ir := ir, drive := 0, opened := true } := by
  simp [tapLoad, test, opened]

theorem Watched.sec {p : Nat → Bool} {s t : State} (h : Watched p s t) : t.sec = s.sec := by have e := congrArg State.sec h.2; exact e
theorem Watched.tap {p : Nat → Bool} {s t : State} (h : Watched p s t) : t.tap = s.tap := by have e := congrArg State.tap h.2; exact e

@[simp] theorem tap_putTap (s : State) (x : Tap) : (putTap s x).tap = x := rfl
@[simp] theorem sec_putTap (s : State) (x : Tap) : (putTap s x).sec = s.sec := rfl
@[simp] theorem pends_putTap (s : State) (x : Tap) (src : Nat) : Pends (putTap s x) src ↔ Pends s src := Iff.rfl

/-- A raise leaves the keys and the test access port alone. -/
theorem raise_keeps_sec_tap {src : Nat} (bound : src < 128) : (raise s src).sec = s.sec ∧ (raise s src).tap = s.tap := by
  have watched := watched_raise s src bound
  exact ⟨watched.sec, watched.tap⟩

theorem tap_zeroiseKeys (s : State) : (zeroiseKeys s).tap = s.tap := by
  unfold zeroiseKeys
  exact foldl_keeps State.tap _ (fun _ _ => put_tap _ _ _ _ _) _ s

/-- The first load of all zeroises the keys and raises SECURITY (R715). -/
theorem tapLoad_of_first (test : s.on GLB_LOCK.TEST = false) (closed : s.tap.opened = false) (ir : Nat) (f : Tap → Tap) :
    (tapLoad s ir f).tap = { f s.tap with ir := ir, drive := 0, opened := true } ∧ (tapLoad s ir f).sec.cs = none ∧
      (tapLoad s ir f).sec.kwk = [] ∧ (tapLoad s ir f).sec.ek = [] ∧ Pends (tapLoad s ir f) 4 := by
  obtain ⟨sec, tap⟩ := raise_keeps_sec_tap (s := zeroiseKeys s) (src := 4) (by decide)
  have load : tapLoad s ir f = putTap (raise (zeroiseKeys s) 4) { f s.tap with ir := ir, drive := 0, opened := true } := by
    simp [tapLoad, test, closed, tap, tap_zeroiseKeys]
  rw [load, tap_putTap, sec_putTap, sec, pends_putTap]
  exact ⟨rfl, rfl, rfl, rfl, pends_raise (by decide)⟩

/-- Settles O60: transfers word by word, the provisional ID by its fields, and a load of the test registers by whether test access is closed,
opened before or new. -/
theorem sidePorts : Obligations.SidePorts := by
  unfold Obligations.SidePorts
  intro s
  refine ⟨fun por => ⟨fun a free => ?entdaa, fun a b addr => ?addressed, ?rstdaa, fun b addr => ⟨?getpid, ?getbcr, ?getdcr, ?getmwl, ?getmrl,
      ?getstatus, fun w d n off word place len few => ?registers, fun w d n off high word place len few window door => ?window, fun n => ?read⟩⟩,
    ?pid, ⟨rfl, rfl⟩, ⟨_, rfl, rfl, rfl, rfl, rfl, rfl⟩, ⟨rfl, rfl, rfl, rfl⟩, fun b => ⟨rfl, rfl⟩, fun test w b => ⟨?wirClosed, ?wdrClosed⟩,
    fun test w b => ⟨fun opened => ⟨?wirOpened, ?wdrOpened⟩, fun closed => ⟨?wirFirst, ?wdrFirst⟩⟩⟩
  case entdaa =>
    have taken : exec (.entdaa a) s = .next (putI3c s { s.i3c with addr := some (a % 128), last := i3cPid s ++ [0, 0] }) :=
      congrArg Host.Outcome.next (if_neg (by simp [por, free]))
    exact ⟨_, taken, rfl, rfl, rfl⟩
  case addressed => exact congrArg Host.Outcome.next (if_pos (by simp [addr]))
  case rstdaa => exact congrArg Host.Outcome.next (if_neg (by simp [por]))
  case getpid | getbcr | getdcr | getmwl | getmrl => exact congrArg Host.Outcome.next (i3cAnswer_of_addressed por addr _)
  case getstatus =>
    have answered := i3cAnswer_of_addressed (s := (freeBytes s 2).2) por addr (freeBytes s 2).1
    exact ⟨_, congrArg Host.Outcome.next answered, length_freeBytes s 2, rfl⟩
  case registers =>
    subst place
    have run := execI3cPrivateWrite_of_words (w := w) por addr (by omega) len few
    rw [decide_eq_false (by omega), i3cWords_registers s (n := n) (by omega) len (i3cOffset_lt w)] at run
    refine ⟨wordsWritten s (w / 4 % 2 ^ 22 * 4) d n, _, run, rfl, ?_⟩
    split
    case isTrue empty => rw [empty, Nat.mul_zero, Nat.add_zero, Nat.mod_eq_of_lt (i3cOffset_lt w)]; rfl
    case isFalse => rfl
  case window =>
    subst place
    have run := execI3cPrivateWrite_of_words (w := w) por addr (by omega) len few
    rw [decide_eq_true high, i3cWords_bootWindow s (n := n) (by omega) len window door] at run
    exact ⟨_, run, len ▸ spwRead_spwWrite s _ d, fun a outside => spwGet_spwWrite_outside s _ d (by rwa [len]), rfl, rfl⟩
  case read =>
    obtain ⟨t, run, last⟩ := execI3cPrivateRead_last por addr n
    refine ⟨t, run, ?_, fun four boot => ?_⟩
    · rw [last, List.length_take, length_i3cReadRun, ceilDiv]
      omega
    · obtain ⟨k, words⟩ : ∃ k, ceilDiv (min n 1028) 4 = k + 1 := Nat.exists_eq_succ_of_ne_zero (by unfold ceilDiv; omega)
      rw [last, List.take_take, Nat.min_eq_left (by omega), boot, words, take_i3cReadRun]
  case pid =>
    rw [i3cPid, List.reverse_reverse]
    exact pid_fields _ _
  case wirClosed | wdrClosed => exact congrArg Host.Outcome.next (tapLoad_of_closed test _ _)
  case wirOpened | wdrOpened =>
    have load := tapLoad_of_opened test opened
    exact congrArg Host.Outcome.next ((load _ _).trans (by rw [← opened]; rfl))
  case wirFirst =>
    obtain ⟨tap, cs, kwk, ek, raised⟩ := tapLoad_of_first test closed 0x10 (fun t => { t with wir := w })
    exact ⟨_, rfl, by rw [tap], by rw [tap], cs, kwk, ek, raised⟩
  case wdrFirst =>
    obtain ⟨tap, cs, kwk, ek, raised⟩ := tapLoad_of_first test closed 0x11 (fun t => { t with wdr := b })
    exact ⟨_, rfl, by rw [tap], by rw [tap], cs, kwk, ek, raised⟩

end Sys2Proof.Machine
end
